-- ==== Sys2Proof/Word.lean ====
section
/-! DEFINITION. The words of the station ports' frames, and one place of a fixed-length table. -/

namespace Sys2Proof

/-- A byte of a frame (11, "Every byte that crosses a station port"). -/
abbrev Byte := BitVec 8

/-- A two-byte number of a frame, read most significant byte first (11). -/
abbrev Half := BitVec 16

/-- Change one place of a fixed-length table. -/
def vmod {α : Type} {n : Nat} (v : Vector α n) (i : Fin n) (f : α → α) : Vector α n :=
  v.set i.val (f (v.get i)) i.isLt

/-- Change every place of a fixed-length table. It goes through the list of places, so that the kernel can evaluate it. -/
def vmap {α β : Type} {n : Nat} (f : α → β) (v : Vector α n) : Vector β n :=
  ⟨(v.toList.map f).toArray, by simp⟩

/-- Join two fixed-length tables place by place. -/
def vzip {α β γ : Type} {n : Nat} (f : α → β → γ) (v : Vector α n) (w : Vector β n) : Vector γ n :=
  ⟨(List.zipWith f v.toList w.toList).toArray, by simp⟩

end Sys2Proof
end

