-- ==== Sys2Proof/Config.lean ====
section
/-! DEFINITION. The sizes and limits that the part fixes. The spec leaves no value free, so there is no free value. -/

namespace Sys2Proof.Config

/-- Segments of the pool (R52). -/
abbrev segmentCount : Nat := 1024

/-- Characters of one segment, and the greatest length of a note or of one append (R12, R33). -/
abbrev segmentSize : Nat := 40

/-- The greatest text length (R12). -/
abbrev textLimit : Nat := 2560

/-- The greatest number of service notes of a message (R12). -/
abbrev noteLimit : Nat := 4

/-- The greatest counted words (R9). -/
abbrev wordLimit : Nat := 999

/-- The greatest number of history entries (R13). -/
abbrev historyLimit : Nat := 8

/-- Slots held back for IMMEDIATE and URGENT traffic (R56). -/
abbrev slotReserve : Nat := 8

/-- Segments held back for IMMEDIATE and URGENT traffic (R57). -/
abbrev segmentReserve : Nat := 64

/-- The greatest value of the seconds count and of every time held in seconds (R183, R6, R103). -/
abbrev timeLimit : Nat := 4294967295

/-- The greatest entry number; the counter goes on from 1 (R8). -/
abbrev entryNumberLimit : Nat := 4294967295

/-- Seconds after which an idle entry times out (R47). -/
abbrev idleLimit : Nat := 300

/-- The bounce count at which a message is held (R110). -/
abbrev bounceLimit : Nat := 7

/-- The greatest depth of a suspension stack (R123). -/
abbrev stackLimit : Nat := 3

/-- Notices that one notice queue holds (R163). -/
abbrev noticeLimit : Nat := 16

/-- Notices that one NOTICES returns at most (R166). -/
abbrev noticesPerFetch : Nat := 4

/-- Members that one QUEUE-LIST returns at most (R101). -/
abbrev membersPerListing : Nat := 5

/-- Table entries that one ROUTE-READ returns at most (R73). -/
abbrev entriesPerRead : Nat := 8

/-- The greatest declared payload length of a request frame (R175). -/
abbrev payloadLimit : Nat := 60

end Sys2Proof.Config
end

