-- ==== Sys2Proof/Syntax.lean ====
section
/-! DEFINITION. The commands of the part: one constructor for each row of spec/opcode_table.json.

A request row carries the port on which the request was taken and the fields of its payload as they stand on the
wire (R190), so that the range checks of R192 are part of the request's meaning and not of its syntax. -/

namespace Sys2Proof

/-- A station port, SP0 to SP3. -/
abbrev Port := Fin 4

/-- The two bytes of a handle in a request (11.4). -/
structure HandleField where
  /-- Byte 0: the slot. -/
  slot : Byte
  /-- Byte 1: the incarnation in bits 0 to 3; bits 4 to 7 are ignored (R192). -/
  inc : Byte
  deriving DecidableEq, Repr

/-- The eight bytes of a station in a request (11.4). -/
abbrev StationField := Vector Byte 8

/-- The payload of ENTER-BEGIN (R190). -/
structure EnterBeginFields where
  klass : Byte
  station : StationField
  serial : Half
  day : Half
  hour : Byte
  minute : Byte
  area : Half
  /-- The declared check; FFFFh is absent. -/
  check : Half
  /-- The delivery deadline in minutes; FFFFh is absent. -/
  deadline : Half
  deriving DecidableEq, Repr

/-- The payload of CONFIGURE (R190). -/
structure ConfigureFields where
  /-- Bits 0 to 6 mark the items present, in the order of R91. -/
  mask : Byte
  weightImmediate : Byte
  weightUrgent : Byte
  weightWelfare : Byte
  weightRoutine : Byte
  shift : Byte
  penalty : Half
  lease : Half
  deriving DecidableEq, Repr

/-- The payload of DISPOSE (R190). -/
structure DisposeFields where
  handle : HandleField
  token : Byte
  outcome : Byte
  station : StationField
  serial : Half
  deriving DecidableEq, Repr

/-- The payload of AMEND (R190). -/
structure AmendFields where
  handle : HandleField
  /-- Bit 0: a class is present; bit 1: an adjust is present. -/
  presence : Byte
  klass : Byte
  /-- Two's complement. -/
  adjust : Half
  deriving DecidableEq, Repr

/-- The levels of the six strap pins, sampled at each cold and warm reset (R186). -/
structure Straps where
  /-- The CONTROL strap of each port. -/
  control : Vector Bool 4
  /-- TBS0, the first time-base strap. -/
  timeBase0 : Bool
  /-- TBS1, the second time-base strap. -/
  timeBase1 : Bool
  deriving DecidableEq, Repr

/-- The levels of the reset lines when a cold reset ends (R187). -/
structure ResetLines where
  /-- The port reset line of each port, asserted or not. -/
  port : Vector Bool 4
  /-- The device reset input, asserted or not. -/
  device : Bool
  deriving DecidableEq, Repr

/-- The commands. -/
inductive Instr where
  /-- SELECT_FALL: port p's select line falls (R172). -/
  | selectFall (p : Port)
  /-- EXCHANGE: port p's select line rises after the given bytes were clocked, and `extraBits` bits of a further group
  of eight that was not completed (R171, R174, R175). -/
  | exchange (p : Port) (bytes : List Byte) (extraBits : Nat)
  /-- NOP (R179). -/
  | nop (p : Port)
  /-- CLOCK-READ (R185). -/
  | clockRead (p : Port)
  /-- READ-HEADER (R19). -/
  | readHeader (p : Port) (h : HandleField)
  /-- READ-TEXT (R20). -/
  | readText (p : Port) (h : HandleField) (index : Byte)
  /-- READ-NOTES (R21). -/
  | readNotes (p : Port) (h : HandleField) (index : Byte)
  /-- READ-HISTORY (R22). -/
  | readHistory (p : Port) (h : HandleField)
  /-- FIND (R23). -/
  | find (p : Port) (station : StationField) (serial : Half) (day : Half)
  /-- ENTER-BEGIN (R31, R32). -/
  | enterBegin (p : Port) (fields : EnterBeginFields)
  /-- APPEND-TEXT (R33, R34). -/
  | appendText (p : Port) (h : HandleField) (chars : List Byte)
  /-- ENTER-END (R39 to R45). -/
  | enterEnd (p : Port) (h : HandleField)
  /-- ENTER-CANCEL (R46). -/
  | enterCancel (p : Port) (h : HandleField)
  /-- PURGE (R60). -/
  | purge (p : Port) (h : HandleField)
  /-- STORE-STATUS (R61). -/
  | storeStatus (p : Port)
  /-- ROUTE-SET (R68). -/
  | routeSet (p : Port) (index : Byte) (first : Half) (last : Half) (port : Byte)
  /-- ROUTE-CLEAR (R69). -/
  | routeClear (p : Port) (index : Byte)
  /-- ROUTE-READ (R73); an area of FFFFh is absent. -/
  | routeRead (p : Port) (start : Byte) (area : Half)
  /-- DEFAULT-ROUTE (R70); a port of FFh is none. -/
  | defaultRoute (p : Port) (port : Byte)
  /-- LINK-STATE (R71). -/
  | linkState (p : Port) (port : Byte) (state : Byte)
  /-- FENCE (R79). -/
  | fence (p : Port)
  /-- CONFIGURE (R92). -/
  | configure (p : Port) (fields : ConfigureFields)
  /-- CONFIG-READ (R95). -/
  | configRead (p : Port)
  /-- QUEUE-LIST (R101). -/
  | queueList (p : Port) (queue : Byte) (rank : Byte)
  /-- NEXT (R102). -/
  | next (p : Port)
  /-- EXTEND (R106). -/
  | extend (p : Port) (h : HandleField) (token : Byte)
  /-- DISPOSE (R107). -/
  | dispose (p : Port) (fields : DisposeFields)
  /-- BREAKIN-ENABLE (R124). -/
  | breakinEnable (p : Port) (value : Byte)
  /-- NEXT-BREAKIN (R130). -/
  | nextBreakin (p : Port) (h : HandleField) (token : Byte)
  /-- RESUME (R135). -/
  | resume (p : Port) (h : HandleField) (token : Byte)
  /-- PORT-STATUS (R138). -/
  | portStatus (p : Port) (port : Byte)
  /-- HOLD (R145). -/
  | hold (p : Port) (h : HandleField)
  /-- RELEASE (R147). -/
  | release (p : Port) (h : HandleField)
  /-- VOID (R149). -/
  | void (p : Port) (h : HandleField)
  /-- AMEND (R152). -/
  | amend (p : Port) (fields : AmendFields)
  /-- ADD-NOTE (R155). -/
  | addNote (p : Port) (h : HandleField) (chars : List Byte)
  /-- WATCH (R159). -/
  | watch (p : Port) (h : HandleField) (value : Byte)
  /-- NOTICES (R166). -/
  | notices (p : Port)
  /-- TICK: the divider completes a second (R183). -/
  | tick
  /-- ENTRY_IDLE_TIMEOUT: the Entry Unit takes the tick (R47, R184). -/
  | entryIdleTimeout
  /-- LEASE_EXPIRY: the Dispatch Unit takes the lease expiries of the tick (R114, R184). -/
  | leaseExpiry
  /-- DELIVERY_DEADLINE_EXPIRY: the Dispatch Unit takes the delivery-deadline expiries of the tick (R116, R184). -/
  | deliveryDeadlineExpiry
  /-- PORT_RESET: port p's port reset line is asserted (R181). -/
  | portReset (p : Port)
  /-- WARM_RESET: the device reset input is asserted, with the strap levels then sampled (R188, R186). -/
  | warmReset (straps : Straps)
  /-- COLD_RESET: the power-on detector's reset, with the strap levels then sampled and the levels of the reset lines
  when it ends (R187, R186). -/
  | coldReset (straps : Straps) (lines : ResetLines)
  /-- PORT_RESET_LINE_RELEASE: port p's port reset line is released (R181). -/
  | portResetLineRelease (p : Port)
  /-- DEVICE_RESET_INPUT_RELEASE: the device reset input is released (R188). -/
  | deviceResetInputRelease
  /-- SUPPLY_BELOW_WORKING_LEVEL: the supply dips; `seen` says whether the power-on detector sees the dip (R187). -/
  | supplyBelowWorkingLevel (seen : Bool)
  deriving DecidableEq, Repr

end Sys2Proof
end

