-- ==== Sys2Proof/Decode.lean ====
section
/-! DEFINITION. The command that a word spells by the opcode table's bits. -/

namespace Sys2Proof

/-- No row of spec/opcode_table.json gives bits (each row's "fields" is empty and none has a "fixed"), so no word spells
a command. Requests are read from frames by the judgement of R175 (Machine/Ports.lean). -/
def decodeTableWord (_nbits _w : Nat) : Option Instr :=
  none

end Sys2Proof
end

