-- ==== Sys2Proof/Machine/State.lean ====
section
/-! DEFINITION. The state of the part: plain data, every piece of state the spec gives it, and its value after a cold
reset. -/

namespace Sys2Proof.Machine

/-- One of the 192 slots of the Traffic Store (R3). -/
abbrev SlotNo := Fin 192

/-- The class of a message, its precedence (R7). -/
inductive Class where
  | routine
  | welfare
  | urgent
  | immediate
  deriving DecidableEq, Repr

/-- A handle: a slot number with the incarnation that slot had (R4). -/
structure Handle where
  slot : SlotNo
  inc : BitVec 4
  deriving DecidableEq, Repr

/-- A set of ports: place n says whether SPn is a member (R158). -/
abbrev PortSet := Vector Bool 4

/-- The check status of an accepted message (R9, R40). -/
inductive CheckStatus where
  | agrees
  | disagrees
  | notDeclared
  deriving DecidableEq, Repr

/-- The reason a message is HELD (R11). -/
inductive HoldReason where
  | bounceLimit
  | refused
  | unrouted
  | deadlinePassed
  | control
  deriving DecidableEq, Repr

/-- How the custody of a DISPOSED message ended; RELAYED carries the next station and the outgoing serial (R11). -/
inductive Disposal where
  | relayed (station : List Byte) (serial : Nat)
  | delivered
  deriving DecidableEq, Repr

/-- The state of a record, with the fields that only that state has (R10, R11, R16). EMPTY is a slot with no record. -/
inductive Custody where
  /-- Being entered on its entry port. -/
  | filling
  /-- In the queue of the port its route resolves to. -/
  | queued
  /-- In the custody of its holder, being passed; the lease deadline in seconds; the pre-change mark. -/
  | handed (holder : Port) (leaseDeadline : Nat) (mark : Bool)
  /-- In the custody of its holder, set aside; the lease remaining in seconds; the pre-change mark. -/
  | suspended (holder : Port) (leaseRemaining : Nat) (mark : Bool)
  /-- Out of the queues. -/
  | held (reason : HoldReason)
  /-- Relayed or delivered at the given time. -/
  | disposed (outcome : Disposal) (time : Nat)
  /-- Withdrawn by net control. -/
  | void
  deriving DecidableEq, Repr

/-- The entry fields that the accepting ENTER-END gives (R8, R9); absent while FILLING. -/
structure Entry where
  time : Nat
  number : Nat
  check : CheckStatus
  deriving DecidableEq, Repr

/-- The events of a handling history (R13). -/
inductive HistoryEvent where
  | entered
  | handed
  | relayed
  | delivered
  | bounced
  | lapsed
  | refused
  | held
  | released
  | voided
  | requeued
  deriving DecidableEq, Repr

/-- One entry of a handling history (R13). -/
structure HistoryEntry where
  time : Nat
  port : Option Port
  event : HistoryEvent
  deriving DecidableEq, Repr

/-- A message record (R6 to R13). -/
structure Message where
  klass : Class
  pendingUpgrade : Option Class
  origin : List Byte
  serial : Nat
  day : Nat
  hour : Nat
  minute : Nat
  area : Nat
  declaredCheck : Option Nat
  /-- Minutes while FILLING, a time in seconds afterwards (R6). -/
  deadline : Option Nat
  entryPort : Port
  entry : Option Entry
  words : Nat
  truncated : Bool
  substituted : Bool
  text : List Byte
  notes : List (List Byte)
  token : BitVec 8
  bounces : Nat
  adjust : Int
  copies : Nat
  custody : Custody
  watchers : PortSet
  /-- Oldest first. -/
  history : List HistoryEntry
  dropped : Nat
  deriving DecidableEq, Repr

/-- A slot: its incarnation, and its record unless it is EMPTY (R3, R4). -/
structure Slot where
  inc : BitVec 4
  record : Option Message
  deriving DecidableEq, Repr

/-- The message a port is filling, and the time of its last activity (R27). -/
structure OpenEntry where
  handle : Handle
  lastActivity : Nat
  deriving DecidableEq, Repr

/-- The entry context of a port (R27). -/
structure EntryContext where
  filling : Option OpenEntry
  spaceCarry : Bool
  deriving DecidableEq, Repr

/-- An entry of the route table (R64). -/
structure RouteEntry where
  first : Nat
  last : Nat
  port : Port
  valid : Bool
  deriving DecidableEq, Repr

/-- The scoring configuration (R91). -/
structure Scoring where
  weightImmediate : Nat
  weightUrgent : Nat
  weightWelfare : Nat
  weightRoutine : Nat
  shift : Nat
  penalty : Nat
  lease : Nat
  deriving DecidableEq, Repr

/-- The sticky flags of a queue (R88). -/
structure QueueFlags where
  topped : Bool
  floored : Bool
  deriving DecidableEq, Repr

/-- An active handoff (R122). -/
structure Handoff where
  handle : Handle
  token : BitVec 8
  deriving DecidableEq, Repr

/-- A record of a suspension stack (R123). -/
structure Suspension where
  handle : Handle
  token : BitVec 8
  leaseRemaining : Nat
  savedEnable : Bool
  klass : Class
  revoked : Bool
  deriving DecidableEq, Repr

/-- The Break-in Unit's state for a port (R121). -/
structure BreakIn where
  enable : Bool
  pending : Option Handle
  active : Option Handoff
  /-- The top of the stack first. -/
  stack : List Suspension
  deriving DecidableEq, Repr

/-- The kinds of notice (R160). -/
inductive NoticeKind where
  | queueReady
  | breakIn
  | stateChange
  | revoked
  | lapsed
  | entryLapsed
  | held
  | fenceDone
  | reclaimed
  deriving DecidableEq, Repr

/-- The names of the states a slot can be in (R3). -/
inductive StateName where
  | empty
  | filling
  | queued
  | handed
  | suspended
  | held
  | disposed
  | void
  deriving DecidableEq, Repr

/-- The detail of a notice (R161). -/
inductive Detail where
  | nothing
  | klass (c : Class)
  | stateAndClass (state : StateName) (c : Class)
  | token (t : BitVec 8)
  | reason (r : HoldReason)
  deriving DecidableEq, Repr

/-- A notice (R160). -/
structure Notice where
  kind : NoticeKind
  handle : Option Handle
  detail : Detail
  time : Nat
  deriving DecidableEq, Repr

/-- A notice queue, oldest notice first, with its NOTICE-OVERRUN flag (R163, R165). -/
structure NoticeQueue where
  items : List Notice
  overrun : Bool
  deriving DecidableEq, Repr

/-- The result codes (11.3). -/
inductive Result where
  | ok
  | duplicate
  | none
  | badFrame
  | frameShort
  | badRequest
  | badField
  | notControl
  | notesFull
  | staleHandle
  | wrongState
  | notYours
  | entryOpen
  | storeLow
  | storeFull
  | poolLow
  | poolFull
  | handoffOpen
  | noBreakin
  | staleHandoff
  | revoked
  | nothingSuspended
  | inHand
  | notFound
  | unrouted
  | queueEmpty
  | suspendedPending
  deriving DecidableEq, Repr

/-- A request that a port has taken (R175). -/
structure Request where
  code : Byte
  tag : Byte
  payload : List Byte
  deriving DecidableEq, Repr

/-- A response; its status byte is formed afresh each time it shifts out (R172). -/
structure Response where
  code : Byte
  tag : Byte
  result : Result
  payload : List Byte
  deriving DecidableEq, Repr

/-- The exchange state of a port; a held response is present exactly while READY (R170). -/
inductive ExchangeState where
  | idle
  /-- The request in progress, taken at the port and not yet at its owning block (R178). -/
  | working (request : Request)
  /-- The held response. -/
  | ready (response : Response)
  deriving DecidableEq, Repr

/-- Which frame an exchange shifts out (R172). -/
inductive FrameChoice where
  | held
  | repeated
  | filler
  deriving DecidableEq, Repr

/-- An exchange in progress: what was chosen at the fall of select (R172). -/
structure Exchange where
  choice : FrameChoice
  frame : List Byte
  deriving DecidableEq, Repr

/-- A station port (R170, R171). -/
structure StationPort where
  exchangeState : ExchangeState
  lastDelivered : Option Response
  requestOverrun : Bool
  /-- The exchange between a fall of select and the rise that ends it. -/
  exchange : Option Exchange
  /-- The port reset line is asserted. -/
  resetLine : Bool
  /-- The CONTROL status (R142). -/
  control : Bool
  /-- The model's record of the output pin SPnDOUT: the bytes that went out in the last completed exchange. -/
  lastOut : List Byte
  deriving DecidableEq, Repr

/-- The state of the part. -/
structure State where
  /-- The Traffic Store's slots (R3). -/
  slots : Vector Slot 192
  /-- The segments in the pool (R52). -/
  freeSegments : Nat
  /-- The retained list, oldest first (R53). -/
  retained : List Handle
  /-- The entry-number counter (R8). -/
  nextEntryNumber : Nat
  /-- The station ports (R170). -/
  ports : Vector StationPort 4
  /-- The Entry Unit's context of each port (R27). -/
  entries : Vector EntryContext 4
  /-- The route table (R64). -/
  routes : Vector RouteEntry 24
  /-- The default route (R65). -/
  defaultRoute : Option Port
  /-- Whether each port's link is UP (R65). -/
  links : Vector Bool 4
  /-- Each port's pending fence (R65). -/
  fences : Vector Bool 4
  /-- The scoring configuration (R91). -/
  scoring : Scoring
  /-- The sticky flags of each queue (R88). -/
  flags : Vector QueueFlags 4
  /-- The Break-in Unit's state of each port (R121). -/
  breakins : Vector BreakIn 4
  /-- The notice queue of each port (R163). -/
  noticeQueues : Vector NoticeQueue 4
  /-- The seconds count (R183). -/
  seconds : Nat
  /-- The divider: periods of the reference clock within the second (R183). -/
  divider : Nat
  /-- The first time-base strap as sampled (R186). -/
  timeBase0 : Bool
  /-- The second time-base strap as sampled (R186). -/
  timeBase1 : Bool
  /-- The device reset input is asserted (R188). -/
  deviceReset : Bool
  /-- The supply is below its working level and the detector has seen it (R187). -/
  supplyLow : Bool
  /-- A tick that the Entry Unit has still to take (R184). -/
  entryTick : Bool
  /-- A tick of which the Dispatch Unit has still to take the lease expiries (R184). -/
  leaseTick : Bool
  /-- A tick of which the Dispatch Unit has still to take the delivery-deadline expiries (R184). -/
  deadlineTick : Bool
  /-- The commands that wait, first in first out (the model's own). -/
  pending : List Instr
  deriving DecidableEq, Repr

/-- Why the part stops. The spec gives no event that stops it: every request has a result for every input and every event
an effect in every state, so there is no constructor, and no meaning can fault. -/
inductive Fault where
  deriving DecidableEq, Repr

/-- Why a command has no meaning. -/
inductive Refusal where
  /-- Raised by an arm of exec for a command that the model gives no meaning; safe. No arm raises it. -/
  | notModelled (mnemonic : String)
  deriving DecidableEq, Repr

/-- A slot after a cold reset (R24). -/
def Slot.cold : Slot := { inc := 0, record := none }

/-- An entry context with no entry open (R27, R28). -/
def EntryContext.closed : EntryContext := { filling := none, spaceCarry := true }

/-- A route entry after a cold reset (R64). -/
def RouteEntry.cold : RouteEntry := { first := 0, last := 0, port := 0, valid := false }

/-- The default scoring configuration (R91). -/
def Scoring.defaults : Scoring :=
  { weightImmediate := 32, weightUrgent := 16, weightWelfare := 8, weightRoutine := 4
    shift := 1, penalty := 512, lease := 600 }

/-- Both sticky flags clear (R89). -/
def QueueFlags.clear : QueueFlags := { topped := false, floored := false }

/-- The Break-in Unit's state of a port after every reset (R121). -/
def BreakIn.cleared : BreakIn := { enable := false, pending := none, active := none, stack := [] }

/-- An empty notice queue with its flag clear (R169). -/
def NoticeQueue.empty : NoticeQueue := { items := [], overrun := false }

/-- A port after a cold reset (R170, R186, R187). -/
def StationPort.cold (control line : Bool) : StationPort :=
  { exchangeState := .idle, lastDelivered := none, requestOverrun := false, exchange := none
    resetLine := line, control := control, lastOut := [] }

/-- The part after a cold reset with the given straps sampled and the given reset lines asserted (R24, R187). -/
def State.cold (straps : Straps) (lines : ResetLines) : State :=
  { slots := Vector.replicate 192 Slot.cold
    freeSegments := Config.segmentCount
    retained := []
    nextEntryNumber := 1
    ports := vzip StationPort.cold straps.control lines.port
    entries := Vector.replicate 4 EntryContext.closed
    routes := Vector.replicate 24 RouteEntry.cold
    defaultRoute := none
    links := Vector.replicate 4 true
    fences := Vector.replicate 4 false
    scoring := Scoring.defaults
    flags := Vector.replicate 4 QueueFlags.clear
    breakins := Vector.replicate 4 BreakIn.cleared
    noticeQueues := Vector.replicate 4 NoticeQueue.empty
    seconds := 0
    divider := 0
    timeBase0 := straps.timeBase0
    timeBase1 := straps.timeBase1
    deviceReset := lines.device
    supplyLow := false
    entryTick := false
    leaseTick := false
    deadlineTick := false
    pending := [] }

/-- DESIGN CHOICE (log entry 5): the straps' levels at the model's own reset, all deasserted. -/
def Straps.deasserted : Straps :=
  { control := Vector.replicate 4 false, timeBase0 := false, timeBase1 := false }

/-- DESIGN CHOICE (log entry 5): the reset lines at the model's own reset, all released. -/
def ResetLines.released : ResetLines :=
  { port := Vector.replicate 4 false, device := false }

/-- The part right after a cold reset (R24, R187). -/
def State.reset : State := State.cold Straps.deasserted ResetLines.released

end Sys2Proof.Machine
end

