-- ==== Sys2Proof/Machine/Operands.lean ====
section
/-! DEFINITION. The fields of frames: how a request's fields are read (R190, R192) and how a response's fields are
written (11.3, 11.4). -/

namespace Sys2Proof.Machine

/-! ### Numbers -/

/-- One byte. -/
def be1 (n : Nat) : List Byte := [BitVec.ofNat 8 n]

/-- Two bytes, most significant first (11). -/
def be2 (n : Nat) : List Byte := [BitVec.ofNat 8 (n / 256), BitVec.ofNat 8 n]

/-- Four bytes, most significant first (11). -/
def be4 (n : Nat) : List Byte :=
  [BitVec.ofNat 8 (n / 16777216), BitVec.ofNat 8 (n / 65536), BitVec.ofNat 8 (n / 256), BitVec.ofNat 8 n]

/-- A signed number as a number of `bits` bits in two's complement (11). -/
def twos (bits : Nat) (x : Int) : Nat := (x % (2 ^ bits : Nat)).toNat

/-- The two bytes of a Half as they stand on the wire. -/
def halfBytes (h : Half) : List Byte := be2 h.toNat

/-- yes/no, on/off, UP/DOWN (11.4). -/
def boolBit (b : Bool) : Nat := if b then 1 else 0

/-- A yes/no byte of a response (11.4). -/
def boolByte (b : Bool) : List Byte := be1 (boolBit b)

/-! ### Codes (11.3, 11.4) -/

/-- The code of a class (11.4); a greater code is a higher class (R7). -/
def Class.code : Class → Nat
  | .routine => 0
  | .welfare => 1
  | .urgent => 2
  | .immediate => 3

/-- The code of a state (11.4). -/
def StateName.code : StateName → Nat
  | .empty => 0
  | .filling => 1
  | .queued => 2
  | .handed => 3
  | .suspended => 4
  | .held => 5
  | .disposed => 6
  | .void => 7

/-- The code of a hold reason (11.4). -/
def HoldReason.code : HoldReason → Nat
  | .bounceLimit => 1
  | .refused => 2
  | .unrouted => 3
  | .deadlinePassed => 4
  | .control => 5

/-- The code of a disposition's outcome (11.4). -/
def Disposal.code : Disposal → Nat
  | .relayed _ _ => 1
  | .delivered => 2

/-- The code of a history event (11.4). -/
def HistoryEvent.code : HistoryEvent → Nat
  | .entered => 1
  | .handed => 2
  | .relayed => 3
  | .delivered => 4
  | .bounced => 5
  | .lapsed => 6
  | .refused => 7
  | .held => 8
  | .released => 9
  | .voided => 10
  | .requeued => 11

/-- The code of a notice kind (11.4). -/
def NoticeKind.code : NoticeKind → Nat
  | .queueReady => 1
  | .breakIn => 2
  | .stateChange => 3
  | .revoked => 4
  | .lapsed => 5
  | .entryLapsed => 6
  | .held => 7
  | .fenceDone => 8
  | .reclaimed => 9

/-- The code of a check status; 0 is absent (11.4). -/
def CheckStatus.code : Option CheckStatus → Nat
  | none => 0
  | some .agrees => 1
  | some .disagrees => 2
  | some .notDeclared => 3

/-- The result codes (11.3). -/
def Result.code : Result → Nat
  | .ok => 0x00
  | .duplicate => 0x01
  | .none => 0x02
  | .badFrame => 0x03
  | .frameShort => 0x04
  | .badRequest => 0x05
  | .badField => 0x06
  | .notControl => 0x07
  | .notesFull => 0x08
  | .staleHandle => 0x09
  | .wrongState => 0x0A
  | .notYours => 0x0B
  | .entryOpen => 0x0C
  | .storeLow => 0x0D
  | .storeFull => 0x0E
  | .poolLow => 0x0F
  | .poolFull => 0x10
  | .handoffOpen => 0x11
  | .noBreakin => 0x12
  | .staleHandoff => 0x13
  | .revoked => 0x14
  | .nothingSuspended => 0x15
  | .inHand => 0x16
  | .notFound => 0x17
  | .unrouted => 0x18
  | .queueEmpty => 0x19
  | .suspendedPending => 0x1A

/-! ### Fields of responses (11.4) -/

/-- A handle: slot, then incarnation in bits 0 to 3; no handle is FFh, 00h. -/
def handleBytes : Option Handle → List Byte
  | some h => be1 h.slot.val ++ be1 h.inc.toNat
  | none => be1 255 ++ be1 0

/-- A port; none is FFh. -/
def portByte : Option Port → List Byte
  | some p => be1 p.val
  | none => be1 255

/-- A class; absent is 0. -/
def classByte : Option Class → List Byte
  | some c => be1 c.code
  | none => be1 0

/-- A hold reason; absent is 0. -/
def reasonByte : Option HoldReason → List Byte
  | some r => be1 r.code
  | none => be1 0

/-- A station: its characters from the first byte on, the remaining bytes 00h. -/
def stationBytes (station : List Byte) : List Byte :=
  station ++ List.replicate (8 - station.length) 0

/-- Bit n is set for SPn (11.4, watcher set; 11.7, link states). -/
def portBits (v : Vector Bool 4) : Nat :=
  boolBit (v.get 0) + 2 * boolBit (v.get 1) + 4 * boolBit (v.get 2) + 8 * boolBit (v.get 3)

/-- A set of attributes: bit 0 TEXT-TRUNCATED, bit 1 SUBSTITUTED. -/
def attributesByte (truncated substituted : Bool) : List Byte :=
  be1 (boolBit truncated + 2 * boolBit substituted)

/-! ### Fields of requests (R192) -/

/-- A character of a station identifier: A to Z, 0 to 9 or the oblique stroke (R30). -/
def stationChar (c : Byte) : Bool :=
  decide (0x41 ≤ c.toNat ∧ c.toNat ≤ 0x5A) || decide (0x30 ≤ c.toNat ∧ c.toNat ≤ 0x39) || decide (c.toNat = 0x2F)

/-- A station is read up to its first 00h byte; only 3 to 8 characters with nothing but 00h after them are a station
(R192). -/
def readStation (f : StationField) : Option (List Byte) :=
  let chars := f.toList.takeWhile (fun c => decide (c ≠ 0))
  let rest := f.toList.dropWhile (fun c => decide (c ≠ 0))
  if 3 ≤ chars.length ∧ chars.length ≤ 8 ∧ chars.all stationChar = true ∧ rest.all (fun c => decide (c = 0)) = true then
    some chars
  else none

/-- A port byte; above 3 is no port (R192). -/
def readPort (b : Byte) : Option Port :=
  if h : b.toNat < 4 then some ⟨b.toNat, h⟩ else none

/-- A class byte; above 3 is no class (R192). -/
def readClass (b : Byte) : Option Class :=
  if b.toNat = 0 then some .routine
  else if b.toNat = 1 then some .welfare
  else if b.toNat = 2 then some .urgent
  else if b.toNat = 3 then some .immediate
  else none

/-- A yes/no, on/off or UP/DOWN byte; above 1 is neither (R192). -/
def readFlag (b : Byte) : Option Bool :=
  if b.toNat = 0 then some false
  else if b.toNat = 1 then some true
  else none

/-- A two-byte field in which FFFFh is absent (R192). -/
def readOptional (h : Half) : Option Nat :=
  if h.toNat = 0xFFFF then none else some h.toNat

/-- An optional field is in range when it is absent or its value is between the ends (R30). -/
def optionalWithin (lo hi : Nat) : Option Nat → Bool
  | none => true
  | some n => decide (lo ≤ n ∧ n ≤ hi)

/-- An outgoing or origin serial is in range (R30, R107). -/
def serialOk (h : Half) : Bool := decide (1 ≤ h.toNat ∧ h.toNat ≤ 9999)

/-- A filing day is in range (R30). -/
def dayOk (h : Half) : Bool := decide (1 ≤ h.toNat ∧ h.toNat ≤ 366)

/-- A character stored as itself: a code from 20h to 7Eh (R35). -/
def printable (c : Byte) : Bool := decide (0x20 ≤ c.toNat ∧ c.toNat ≤ 0x7E)

/-- A character as it is stored: itself, or "?" (R35, R155). -/
def substitute (c : Byte) : Byte := if printable c then c else 0x3F

/-! ### Request codes and payloads (R190) -/

/-- The two bytes of a handle in a request. -/
def HandleField.bytes (h : HandleField) : List Byte := [h.slot, h.inc]

/-- The payload of ENTER-BEGIN. -/
def EnterBeginFields.bytes (f : EnterBeginFields) : List Byte :=
  [f.klass] ++ f.station.toList ++ halfBytes f.serial ++ halfBytes f.day ++ [f.hour, f.minute] ++ halfBytes f.area
    ++ halfBytes f.check ++ halfBytes f.deadline

/-- The payload of CONFIGURE. -/
def ConfigureFields.bytes (f : ConfigureFields) : List Byte :=
  [f.mask, f.weightImmediate, f.weightUrgent, f.weightWelfare, f.weightRoutine, f.shift] ++ halfBytes f.penalty
    ++ halfBytes f.lease

/-- The payload of DISPOSE. -/
def DisposeFields.bytes (f : DisposeFields) : List Byte :=
  HandleField.bytes f.handle ++ [f.token, f.outcome] ++ f.station.toList ++ halfBytes f.serial

/-- The payload of AMEND. -/
def AmendFields.bytes (f : AmendFields) : List Byte :=
  HandleField.bytes f.handle ++ [f.presence, f.klass] ++ halfBytes f.adjust

/-- The least and greatest payload length that a request code accepts; none for a code that names no request (R190). -/
def acceptedLength (code : Byte) : Option (Nat × Nat) :=
  match code.toNat with
  | 0x01 => some (0, 0)
  | 0x02 => some (0, 0)
  | 0x10 => some (2, 2)
  | 0x11 => some (3, 3)
  | 0x12 => some (3, 3)
  | 0x13 => some (2, 2)
  | 0x14 => some (12, 12)
  | 0x20 => some (21, 21)
  | 0x21 => some (2, 60)
  | 0x22 => some (2, 2)
  | 0x23 => some (2, 2)
  | 0x28 => some (2, 2)
  | 0x29 => some (0, 0)
  | 0x30 => some (6, 6)
  | 0x31 => some (1, 1)
  | 0x32 => some (3, 3)
  | 0x33 => some (1, 1)
  | 0x34 => some (2, 2)
  | 0x35 => some (0, 0)
  | 0x38 => some (10, 10)
  | 0x39 => some (0, 0)
  | 0x40 => some (2, 2)
  | 0x41 => some (0, 0)
  | 0x42 => some (3, 3)
  | 0x43 => some (14, 14)
  | 0x48 => some (1, 1)
  | 0x49 => some (3, 3)
  | 0x4A => some (3, 3)
  | 0x4B => some (1, 1)
  | 0x50 => some (2, 2)
  | 0x51 => some (2, 2)
  | 0x52 => some (2, 2)
  | 0x53 => some (6, 6)
  | 0x54 => some (2, 60)
  | 0x58 => some (3, 3)
  | 0x59 => some (0, 0)
  | _ => none

end Sys2Proof.Machine
end

