-- ==== Sys2Proof/Machine/Frames.lean ====
section
/-! DEFINITION. The frame by which a station processor sends each request: its port, code and payload (R190). -/

namespace Sys2Proof.Machine

/-- A request as a frame carries it, without the tag. -/
structure RequestFrame where
  port : Port
  code : Byte
  payload : List Byte
  deriving DecidableEq, Repr

/-- The frame of a command that is a request; the other commands are sent by no frame (R190). -/
def requestFrame : Instr → Option RequestFrame
  | .nop p => some { port := p, code := 0x01, payload := [] }
  | .clockRead p => some { port := p, code := 0x02, payload := [] }
  | .readHeader p h => some { port := p, code := 0x10, payload := HandleField.bytes h }
  | .readText p h index => some { port := p, code := 0x11, payload := HandleField.bytes h ++ [index] }
  | .readNotes p h index => some { port := p, code := 0x12, payload := HandleField.bytes h ++ [index] }
  | .readHistory p h => some { port := p, code := 0x13, payload := HandleField.bytes h }
  | .find p station serial day =>
    some { port := p, code := 0x14, payload := station.toList ++ halfBytes serial ++ halfBytes day }
  | .enterBegin p f => some { port := p, code := 0x20, payload := EnterBeginFields.bytes f }
  | .appendText p h chars => some { port := p, code := 0x21, payload := HandleField.bytes h ++ chars }
  | .enterEnd p h => some { port := p, code := 0x22, payload := HandleField.bytes h }
  | .enterCancel p h => some { port := p, code := 0x23, payload := HandleField.bytes h }
  | .purge p h => some { port := p, code := 0x28, payload := HandleField.bytes h }
  | .storeStatus p => some { port := p, code := 0x29, payload := [] }
  | .routeSet p index first last port =>
    some { port := p, code := 0x30, payload := [index] ++ halfBytes first ++ halfBytes last ++ [port] }
  | .routeClear p index => some { port := p, code := 0x31, payload := [index] }
  | .routeRead p start area => some { port := p, code := 0x32, payload := [start] ++ halfBytes area }
  | .defaultRoute p port => some { port := p, code := 0x33, payload := [port] }
  | .linkState p port state => some { port := p, code := 0x34, payload := [port, state] }
  | .fence p => some { port := p, code := 0x35, payload := [] }
  | .configure p f => some { port := p, code := 0x38, payload := ConfigureFields.bytes f }
  | .configRead p => some { port := p, code := 0x39, payload := [] }
  | .queueList p queue rank => some { port := p, code := 0x40, payload := [queue, rank] }
  | .next p => some { port := p, code := 0x41, payload := [] }
  | .extend p h token => some { port := p, code := 0x42, payload := HandleField.bytes h ++ [token] }
  | .dispose p f => some { port := p, code := 0x43, payload := DisposeFields.bytes f }
  | .breakinEnable p value => some { port := p, code := 0x48, payload := [value] }
  | .nextBreakin p h token => some { port := p, code := 0x49, payload := HandleField.bytes h ++ [token] }
  | .resume p h token => some { port := p, code := 0x4A, payload := HandleField.bytes h ++ [token] }
  | .portStatus p port => some { port := p, code := 0x4B, payload := [port] }
  | .hold p h => some { port := p, code := 0x50, payload := HandleField.bytes h }
  | .release p h => some { port := p, code := 0x51, payload := HandleField.bytes h }
  | .void p h => some { port := p, code := 0x52, payload := HandleField.bytes h }
  | .amend p f => some { port := p, code := 0x53, payload := AmendFields.bytes f }
  | .addNote p h chars => some { port := p, code := 0x54, payload := HandleField.bytes h ++ chars }
  | .watch p h value => some { port := p, code := 0x58, payload := HandleField.bytes h ++ [value] }
  | .notices p => some { port := p, code := 0x59, payload := [] }
  | .selectFall _ => none
  | .exchange _ _ _ => none
  | .tick => none
  | .entryIdleTimeout => none
  | .leaseExpiry => none
  | .deliveryDeadlineExpiry => none
  | .portReset _ => none
  | .warmReset _ => none
  | .coldReset _ _ => none
  | .portResetLineRelease _ => none
  | .deviceResetInputRelease => none
  | .supplyBelowWorkingLevel _ => none

end Sys2Proof.Machine
end

