-- ==== Sys2Proof/Machine/Score.lean ====
section
/-! DEFINITION. Classes compared, the dispatch score of a message and the order of a queue (chapter 5). -/

namespace Sys2Proof.Machine

/-- Class a is higher than class b (R7). -/
def Class.higher (a b : Class) : Bool := decide (b.code < a.code)

/-- The higher of two classes (R7). -/
def Class.highest (a b : Class) : Class := if Class.higher b a then b else a

/-- The weight of a class (R91). -/
def Scoring.weight (c : Scoring) : Class → Nat
  | .immediate => c.weightImmediate
  | .urgent => c.weightUrgent
  | .welfare => c.weightWelfare
  | .routine => c.weightRoutine

/-- The age of a message entered at `entered`: whole minutes, at most 65535 (R84). -/
def age (now entered : Nat) : Nat := min ((now - entered) / 60) 65535

/-- The aged term: age times weight, scaled by the shift mode (R85). -/
def agedTerm (shift weight age : Nat) : Nat :=
  if shift = 0 then age * weight * 2 else age * weight / 2 ^ (shift - 1)

/-- The base of a class (R86). -/
def Class.base : Class → Int
  | .immediate => 24576
  | .urgent => 16384
  | .welfare => 8192
  | .routine => 0

/-- The lower bound of a class's band (R87). -/
def Class.bandLow : Class → Int
  | .immediate => 24576
  | .urgent | .welfare | .routine => 0

/-- The upper bound of a class's band (R87). -/
def Class.bandHigh : Class → Int
  | .immediate => 32767
  | .urgent | .welfare | .routine => 24575

/-- How an evaluation clamped (R87); the code is that of a queue-list entry (11.6). -/
inductive Clamp where
  | kept
  | raised
  | lowered
  deriving DecidableEq, Repr

/-- The code of a clamp in a queue-list entry (11.6). -/
def Clamp.code : Clamp → Nat
  | .kept => 0
  | .raised => 1
  | .lowered => 2

/-- The time a message was entered, and 0 for a message not accepted, which is not evaluated (R83). -/
def Message.enteredAt (m : Message) : Nat :=
  match m.entry with
  | some e => e.time
  | none => 0

/-- The entry number of a message, and 0 for a message not accepted: the value 0 is not given (R8). -/
def Message.number (m : Message) : Nat :=
  match m.entry with
  | some e => e.number
  | none => 0

/-- The full sum S (R86). -/
def fullSum (c : Scoring) (now : Nat) (m : Message) : Int :=
  Class.base m.klass + (agedTerm c.shift (Scoring.weight c m.klass) (age now (Message.enteredAt m)) : Nat)
    - (m.bounces * c.penalty : Nat) + m.adjust

/-- The clamped score K of a full sum (R87). -/
def clampedScore (c : Class) (sum : Int) : Int :=
  if sum < Class.bandLow c then Class.bandLow c
  else if Class.bandHigh c < sum then Class.bandHigh c
  else sum

/-- Whether a full sum is clamped, and at which bound; a sum equal to a bound is not clamped (R87). -/
def clampOf (c : Class) (sum : Int) : Clamp :=
  if sum < Class.bandLow c then .raised
  else if Class.bandHigh c < sum then .lowered
  else .kept

/-- One evaluation of one message (R83). -/
structure Evaluation where
  slot : SlotNo
  score : Int
  sum : Int
  number : Nat
  clamp : Clamp
  deriving DecidableEq, Repr

/-- The evaluation of the message in a slot (R83 to R87). -/
def evaluate (c : Scoring) (now : Nat) (k : SlotNo) (m : Message) : Evaluation :=
  { slot := k
    score := clampedScore m.klass (fullSum c now m)
    sum := fullSum c now m
    number := Message.number m
    clamp := clampOf m.klass (fullSum c now m) }

/-- The order of a queue: K the greater first, then S the greater first, then the lower entry number (R90). -/
def Evaluation.leads (a b : Evaluation) : Bool :=
  decide (b.score < a.score)
    || (decide (a.score = b.score)
      && (decide (b.sum < a.sum) || (decide (a.sum = b.sum) && decide (a.number ≤ b.number))))

/-- Put an evaluation in its place in an ordered list. -/
def insertEvaluation (e : Evaluation) : List Evaluation → List Evaluation
  | [] => [e]
  | x :: xs => if Evaluation.leads e x then e :: x :: xs else x :: insertEvaluation e xs

/-- The evaluations in queue order (R90). -/
def inQueueOrder (es : List Evaluation) : List Evaluation := es.foldr insertEvaluation []

end Sys2Proof.Machine
end

