-- ==== Sys2Proof/Machine/Ops.lean ====
section
/-! DEFINITION. The named operations that the commands share. An operation is a function of the state; the now of an
event is the seconds count of the state it acts on. -/

namespace Sys2Proof.Machine

/-! ### Reading and changing the pieces of state -/

/-- A station port. -/
def State.port (s : State) (p : Port) : StationPort := s.ports.get p
/-- A port's entry context. -/
def State.entryOf (s : State) (p : Port) : EntryContext := s.entries.get p
/-- A port's break-in state. -/
def State.breakin (s : State) (p : Port) : BreakIn := s.breakins.get p
/-- A port's notice queue. -/
def State.noticeQueue (s : State) (p : Port) : NoticeQueue := s.noticeQueues.get p
/-- The sticky flags of queue p. -/
def State.flagsOf (s : State) (p : Port) : QueueFlags := s.flags.get p
/-- A slot. -/
def State.slot (s : State) (k : SlotNo) : Slot := s.slots.get k
/-- The record in a slot, none when it is EMPTY. -/
def State.record (s : State) (k : SlotNo) : Option Message := (s.slots.get k).record
/-- Port p is a CONTROL port (R142). -/
def State.isControl (s : State) (p : Port) : Bool := (s.ports.get p).control

/-- Change a station port. -/
def State.modPort (s : State) (p : Port) (f : StationPort → StationPort) : State :=
  { s with ports := vmod s.ports p f }
/-- Change a port's entry context. -/
def State.modEntry (s : State) (p : Port) (f : EntryContext → EntryContext) : State :=
  { s with entries := vmod s.entries p f }
/-- Change a port's break-in state. -/
def State.modBreakin (s : State) (p : Port) (f : BreakIn → BreakIn) : State :=
  { s with breakins := vmod s.breakins p f }
/-- Change a port's notice queue. -/
def State.modNoticeQueue (s : State) (p : Port) (f : NoticeQueue → NoticeQueue) : State :=
  { s with noticeQueues := vmod s.noticeQueues p f }
/-- Change the sticky flags of queue p. -/
def State.modFlags (s : State) (p : Port) (f : QueueFlags → QueueFlags) : State :=
  { s with flags := vmod s.flags p f }
/-- Change a slot. -/
def State.modSlot (s : State) (k : SlotNo) (f : Slot → Slot) : State :=
  { s with slots := vmod s.slots k f }
/-- Change the record of a slot; an EMPTY slot stays as it is. -/
def State.modRecord (s : State) (k : SlotNo) (f : Message → Message) : State :=
  s.modSlot k (fun x => { x with record := x.record.map f })

/-- SP0 to SP3 in port order. -/
def allPorts : List Port := [0, 1, 2, 3]

/-- The slots in ascending order. -/
def allSlots : List SlotNo := List.finRange 192

/-- The handle that a slot has now (R4). -/
def State.handleOf (s : State) (k : SlotNo) : Handle := { slot := k, inc := (s.slot k).inc }

/-- The number of slots whose record satisfies a test. -/
def State.countRecords (s : State) (test : Message → Bool) : Nat :=
  allSlots.countP (fun k => match s.record k with | some m => test m | none => false)

/-- A time cut off at the greatest value of the seconds count (R6, R103, R106, R136). -/
def heldTime (t : Nat) : Nat := min t Config.timeLimit

/-! ### Message records -/

/-- The name of a record's state (R3). -/
def Custody.name : Custody → StateName
  | .filling => .filling
  | .queued => .queued
  | .handed _ _ _ => .handed
  | .suspended _ _ _ => .suspended
  | .held _ => .held
  | .disposed _ _ => .disposed
  | .void => .void

/-- The holder of a HANDED or SUSPENDED message (R10). -/
def Custody.holder : Custody → Option Port
  | .handed p _ _ => some p
  | .suspended p _ _ => some p
  | .filling | .queued | .held _ | .disposed _ _ | .void => none

/-- The pre-change mark (R10). -/
def Custody.marked : Custody → Bool
  | .handed _ _ mark => mark
  | .suspended _ _ mark => mark
  | .filling | .queued | .held _ | .disposed _ _ | .void => false

/-- The hold reason of a HELD message (R11). -/
def Custody.reason : Custody → Option HoldReason
  | .held r => some r
  | .filling | .queued | .handed _ _ _ | .suspended _ _ _ | .disposed _ _ | .void => none

/-- The custody with a pre-change mark placed where it is HANDED or SUSPENDED (R74). -/
def Custody.mark : Custody → Custody
  | .handed p d _ => .handed p d true
  | .suspended p r _ => .suspended p r true
  | .filling => .filling
  | .queued => .queued
  | .held r => .held r
  | .disposed o t => .disposed o t
  | .void => .void

/-- A record that stays in its slot for reading: DISPOSED or VOID (R16, R51). -/
def Message.retainedRecord (m : Message) : Bool :=
  match m.custody with
  | .disposed _ _ => true
  | .void => true
  | .filling | .queued | .handed _ _ _ | .suspended _ _ _ | .held _ => false

/-- A record that holds its duplicate key (R17). -/
def Message.holdsKey (m : Message) : Bool :=
  match m.custody with
  | .queued => true
  | .handed _ _ _ => true
  | .suspended _ _ _ => true
  | .held _ => true
  | .disposed _ _ => true
  | .filling => false
  | .void => false

/-- A message in any of the states QUEUED, HELD, HANDED and SUSPENDED: net control may void, amend or annotate it
(R149, R152, R155). -/
def Message.inTraffic (m : Message) : Bool :=
  match m.custody with
  | .queued => true
  | .handed _ _ _ => true
  | .suspended _ _ _ => true
  | .held _ => true
  | .disposed _ _ => false
  | .filling => false
  | .void => false

/-- A message in custody: HANDED or SUSPENDED. -/
def Message.inHand (m : Message) : Bool := m.custody.holder.isSome

/-- Two records agree in origin station, origin serial and filing day (R17). -/
def Message.hasKey (m : Message) (origin : List Byte) (serial day : Nat) : Bool :=
  decide (m.origin = origin ∧ m.serial = serial ∧ m.day = day)

/-- The segments of a text of the given length (R12). -/
def textSegments (length : Nat) : Nat := (length + 39) / Config.segmentSize

/-- The segments a record holds for its text and notes (R52). -/
def Message.segments (m : Message) : Nat := textSegments m.text.length + m.notes.length

/-- Append an event to the history; a full history first loses its second entry (R13, R15). -/
def Message.log (now : Nat) (port : Option Port) (event : HistoryEvent) (m : Message) : Message :=
  let entry : HistoryEntry := { time := now, port := port, event := event }
  if Config.historyLimit ≤ m.history.length then
    { m with history := m.history.eraseIdx 1 ++ [entry], dropped := min (m.dropped + 1) 255 }
  else { m with history := m.history ++ [entry] }

/-- Apply a pending upgrade: the class becomes the pending class unless it has been raised to or beyond it, and the
pending upgrade becomes absent (R7, R113). -/
def Message.applyUpgrade (m : Message) : Message :=
  match m.pendingUpgrade with
  | none => m
  | some c => { m with klass := Class.highest m.klass c, pendingUpgrade := none }

/-- The delivery deadline is present and not later than now (R44, R112, R116, R148). -/
def Message.deadlinePassed (now : Nat) (m : Message) : Bool :=
  match m.deadline with
  | none => false
  | some d => decide (d ≤ now)

/-! ### Resolution and queues (R66, R97) -/

/-- What decided a resolution (R73). -/
inductive Decider where
  | entry (index : Nat)
  | byDefault
  deriving DecidableEq, Repr

/-- Port p's link is UP (R65). -/
def State.linkUp (s : State) (p : Port) : Bool := s.links.get p

/-- A route entry decides an area: it is valid, covers the area and names a port whose link is UP (R66). -/
def State.decides (s : State) (area : Nat) (e : RouteEntry) : Bool :=
  e.valid && decide (e.first ≤ area) && decide (area ≤ e.last) && s.linkUp e.port

/-- The port an area resolves to, and what decided it (R66, R73). -/
def State.resolveBy (s : State) (area : Nat) : Option (Port × Decider) :=
  match s.routes.toList.zipIdx.find? (fun x => s.decides area x.1) with
  | some (e, i) => some (e.port, .entry i)
  | none =>
    match s.defaultRoute with
    | some p => if s.linkUp p then some (p, .byDefault) else none
    | none => none

/-- The port an area resolves to, none when it is unresolved (R66). -/
def State.resolve (s : State) (area : Nat) : Option Port := (s.resolveBy area).map Prod.fst

/-- The queue in which a slot's message stands: the port a QUEUED message's area resolves to (R97). -/
def State.queueOf (s : State) (k : SlotNo) : Option Port :=
  match s.record k with
  | some m => if m.custody = .queued then s.resolve m.area else none
  | none => none

/-- The members of queue p, in ascending slot order (R97). -/
def State.queue (s : State) (p : Port) : List SlotNo :=
  allSlots.filter (fun k => decide (s.queueOf k = some p))

/-- The number of messages that carry a pre-change mark (R65). -/
def State.outstanding (s : State) : Nat := s.countRecords (fun m => m.custody.marked)

/-! ### Notices (R160 to R164) -/

/-- Two notices match: the same kind and the same handle, or both without one (R163). -/
def Notice.same (a b : Notice) : Bool := decide (a.kind = b.kind ∧ a.handle = b.handle)

/-- A notice joins a queue: it replaces a matching one at the tail, or is discarded when the queue is full, or joins at
the tail (R163). -/
def NoticeQueue.join (n : Notice) (q : NoticeQueue) : NoticeQueue :=
  if q.items.any (Notice.same n) = true then { q with items := q.items.eraseP (Notice.same n) ++ [n] }
  else if Config.noticeLimit ≤ q.items.length then { q with overrun := true }
  else { q with items := q.items ++ [n] }

/-- A notice is generated for port p, with the now of the event as its time (R160). -/
def post (p : Port) (kind : NoticeKind) (handle : Option Handle) (detail : Detail) (s : State) : State :=
  s.modNoticeQueue p (NoticeQueue.join { kind := kind, handle := handle, detail := detail, time := s.seconds })

/-- The same notice for each port of a set, in port order (R160). -/
def postEach (ports : PortSet) (kind : NoticeKind) (handle : Option Handle) (detail : Detail) (s : State) : State :=
  allPorts.foldl (fun t p => if ports.get p then post p kind handle detail t else t) s

/-- STATE-CHANGE goes to the watchers of the message in a slot, with its state and class as they now stand (R162). -/
def notifyWatchers (k : SlotNo) (s : State) : State :=
  match s.record k with
  | none => s
  | some m => postEach m.watchers .stateChange (some (s.handleOf k)) (.stateAndClass m.custody.name m.klass) s

/-- The CONTROL ports as sampled at the last cold or warm reset (R142). -/
def State.controlPorts (s : State) : PortSet := vmap (fun x => x.control) s.ports

/-- A HELD notice goes to every CONTROL port, with the hold reason that the message in a slot now has (R144). -/
def reportHeld (k : SlotNo) (s : State) : State :=
  match s.record k with
  | none => s
  | some m =>
    match m.custody.reason with
    | none => s
    | some r => postEach s.controlPorts .held (some (s.handleOf k)) (.reason r) s

/-- QUEUE-READY goes to port p (R100). -/
def reportQueueReady (p : Port) (s : State) : State := post p .queueReady none .nothing s

/-- A fence that is pending completes with FENCE-DONE (R78). -/
def completeFence (p : Port) (s : State) : State :=
  if s.fences.get p then post p .fenceDone none .nothing { s with fences := vmod s.fences p (fun _ => false) } else s

/-- When an event has lowered the outstanding count to 0, every pending fence completes (R78); `before` is the count
before the event. -/
def settleFences (before : Nat) (s : State) : State :=
  if 0 < before ∧ s.outstanding = 0 then allPorts.foldl (fun t p => completeFence p t) s else s

/-! ### Break-in (R125 to R128, R164) -/

/-- The unfetched BREAK-IN notice that names h is taken out of p's queue (R164). -/
def withdrawBreakIn (p : Port) (h : Handle) (s : State) : State :=
  s.modNoticeQueue p (fun q =>
    { q with items := q.items.filter (fun n => !decide (n.kind = .breakIn ∧ n.handle = some h)) })

/-- p's pending break-in, if any, is cleared with its notice withdrawn (R128, R164). -/
def clearPendingBreakIn (p : Port) (s : State) : State :=
  match (s.breakin p).pending with
  | none => s
  | some h => withdrawBreakIn p h (s.modBreakin p (fun b => { b with pending := none }))

/-- The class of p's active handoff: its message's class (R126). -/
def State.activeClass (s : State) (p : Port) : Option Class :=
  match (s.breakin p).active with
  | none => none
  | some a => (s.record a.handle.slot).map (fun m => m.klass)

/-- The evaluation of the message in a slot under the configuration in force (R83). -/
def State.evaluation (s : State) (k : SlotNo) : Option Evaluation :=
  (s.record k).map (evaluate s.scoring s.seconds k)

/-- The messages of queue p whose class is strictly higher than c (R126, R132). -/
def State.eligible (s : State) (p : Port) (c : Class) : List SlotNo :=
  (s.queue p).filter (fun k =>
    match s.record k with
    | some m => Class.higher m.klass c
    | none => false)

/-- The evaluations of the messages in the given slots, in queue order (R83, R90). -/
def State.ranked (s : State) (ks : List SlotNo) : List Evaluation := inQueueOrder (ks.filterMap s.evaluation)

/-- Evaluations that clamp set the sticky flags of queue p (R88). -/
def setStickyFlags (p : Port) (es : List Evaluation) (s : State) : State :=
  s.modFlags p (fun f =>
    { topped := f.topped || es.any (fun e => decide (e.clamp = .lowered))
      floored := f.floored || es.any (fun e => decide (e.clamp = .raised)) })

/-- The message in slot k becomes p's pending break-in, and BREAK-IN with its class goes to p (R126). -/
def raiseBreakIn (p : Port) (k : SlotNo) (s : State) : State :=
  match s.record k with
  | none => s
  | some m =>
    post p .breakIn (some (s.handleOf k)) (.klass m.klass)
      (s.modBreakin p (fun b => { b with pending := some (s.handleOf k) }))

/-- The break-in check for port p (R126). -/
def breakInCheck (p : Port) (s : State) : State :=
  match s.activeClass p with
  | none => s
  | some c =>
    if (s.breakin p).enable = true ∧ (s.breakin p).pending = none then
      match s.ranked (s.eligible p c) with
      | [] => s
      | e :: es => raiseBreakIn p e.slot (setStickyFlags p (e :: es) s)
    else s

/-- The message named by h has left queue p, or has ceased to qualify there: a pending break-in that names it is cleared,
its notice withdrawn, and the check made again (R99, R127). -/
def departed (p : Port) (h : Handle) (s : State) : State :=
  if (s.breakin p).pending = some h then breakInCheck p (clearPendingBreakIn p s) else s

/-- The check made again for p after `act`, with the place that the withdrawn BREAK-IN of h left kept for the new BREAK-IN:
the notices of `act` join beside that place (R164; log entry 29). -/
def recheckAfter (p : Port) (h : Handle) (act : State → State) (s : State) : State :=
  breakInCheck p (withdrawBreakIn p h (act (s.modBreakin p (fun b => { b with pending := none }))))

/-- The message named by h leaves queue p by `act`, whose notices join before a BREAK-IN of the renewed check. Where p's
pending break-in names it, that is cleared, its notice withdrawn and the check made again (R99, R116, R127, R150). A new
BREAK-IN has the place that the old one left, also in a full queue (R164); where none is raised, that place is free for the
notices of `act` (log entry 29). -/
def leaveQueue (p : Port) (h : Handle) (act : State → State) (s : State) : State :=
  if (s.breakin p).pending = some h then
    let renewed := recheckAfter p h act s
    if (renewed.breakin p).pending.isSome = true then renewed else act (clearPendingBreakIn p s)
  else act s

/-! ### Queues, holds and custody -/

/-- The message in slot k joins queue q (R98). -/
def joinQueue (k : SlotNo) (q : Port) (s : State) : State :=
  let wasEmpty := (s.queue q).isEmpty
  let s := s.modRecord k (fun m => { Message.applyUpgrade m with custody := .queued })
  let s := notifyWatchers k s
  let s := if wasEmpty then reportQueueReady q s else s
  breakInCheck q s

/-- The message in slot k becomes HELD for the given reason, with HELD appended to its history (R11, R14). -/
def holdFor (k : SlotNo) (reason : HoldReason) (port : Option Port) (s : State) : State :=
  s.modRecord k (fun m => Message.log s.seconds port .held { m with custody := .held reason })

/-- A hold of a message whose state changes by it: STATE-CHANGE, then HELD (R108, R144). -/
def holdAndTell (k : SlotNo) (reason : HoldReason) (port : Option Port) (s : State) : State :=
  reportHeld k (notifyWatchers k (holdFor k reason port s))

/-- A message returns to a queue after a handoff ended; `holder` is the port of a HELD entry (R112). -/
def returnToQueue (k : SlotNo) (holder : Port) (s : State) : State :=
  let s := s.modRecord k Message.applyUpgrade
  match s.record k with
  | none => s
  | some m =>
    if Message.deadlinePassed s.seconds m = true then holdAndTell k .deadlinePassed (some holder) s
    else
      match s.resolve m.area with
      | some q => joinQueue k q s
      | none => holdAndTell k .unrouted (some holder) s

/-- p's active handoff is cleared, and p's pending break-in with it (R108). -/
def clearActive (p : Port) (s : State) : State :=
  clearPendingBreakIn p (s.modBreakin p (fun b => { b with active := none }))

/-- A bounce: the count advances, BOUNCED or LAPSED is appended, and the message is held at the limit or returns to a
queue (R110). -/
def bounce (k : SlotNo) (holder : Port) (event : HistoryEvent) (s : State) : State :=
  let s := s.modRecord k (fun m => Message.log s.seconds (some holder) event { m with bounces := m.bounces + 1 })
  match s.record k with
  | none => s
  | some m =>
    if Config.bounceLimit ≤ m.bounces then holdAndTell k .bounceLimit (some holder) s else returnToQueue k holder s

/-- The message in slot k of queue p is handed to p (R103). -/
def handOut (k : SlotNo) (p : Port) (s : State) : State :=
  let h := s.handleOf k
  let s := s.modRecord k (fun m =>
    Message.log s.seconds (some p) .handed
      { m with custody := .handed p (heldTime (s.seconds + s.scoring.lease)) false, token := m.token + 1 })
  let s := departed p h s
  match s.record k with
  | none => s
  | some m => notifyWatchers k (s.modBreakin p (fun b => { b with active := some { handle := h, token := m.token } }))

/-- A handle joins the tail of the retained list (R53). -/
def retain (h : Handle) (s : State) : State := { s with retained := s.retained ++ [h] }

/-! ### Freeing and reclamation (R54, R55) -/

/-- Freeing a slot: its segments return to the pool, the record ceases to exist, the incarnation advances and the handle
leaves the retained list (R54). An EMPTY slot is not freed. -/
def freeSlot (k : SlotNo) (s : State) : State :=
  match s.record k with
  | none => s
  | some m =>
    { s.modSlot k (fun x => { inc := x.inc + 1, record := none }) with
      freeSegments := s.freeSegments + m.segments
      retained := s.retained.filter (fun h => !decide (h = s.handleOf k)) }

/-- A reclamation: RECLAIMED with the old handle to each watcher, then the freeing (R55). -/
def reclaim (k : SlotNo) (s : State) : State :=
  match s.record k with
  | none => s
  | some m => freeSlot k (postEach m.watchers .reclaimed (some (s.handleOf k)) .nothing s)

/-- Records are reclaimed from the head of the given list until a segment is free (R58). -/
def reclaimForSegment : List Handle → State → State
  | [], s => s
  | h :: hs, s => if 1 ≤ s.freeSegments then s else reclaimForSegment hs (reclaim h.slot s)

/-- The entry context of a port whose entry has ended (R28). -/
def closeEntry (p : Port) (s : State) : State := s.modEntry p (fun _ => EntryContext.closed)

/-- A reset ends p's entry: its FILLING message, if any, is freed, and the entry context holds no filling handle and the
carry yes (R48, R49). -/
def abandonEntry (p : Port) (s : State) : State :=
  match (s.entryOf p).filling with
  | none => closeEntry p s
  | some e => closeEntry p (freeSlot e.handle.slot s)

/-! ### Capacity (R51, R52) -/

/-- EMPTY slots (R51). -/
def State.emptySlots (s : State) : Nat := allSlots.countP (fun k => (s.record k).isNone)

/-- Retained records (R51). -/
def State.retainedRecords (s : State) : Nat := s.countRecords Message.retainedRecord

/-- Retained segments (R52). -/
def State.retainedSegments (s : State) : Nat :=
  (allSlots.map (fun k =>
    match s.record k with
    | some m => if Message.retainedRecord m then m.segments else 0
    | none => 0)).sum

/-- The lowest-numbered EMPTY slot (R3). -/
def State.lowestEmpty (s : State) : Option SlotNo := allSlots.find? (fun k => (s.record k).isNone)

/-! ### Routing changes (R74 to R77) -/

/-- A pre-change mark is placed on every HANDED and SUSPENDED message (R74). -/
def markHandoffs (s : State) : State :=
  { s with slots := vmap (fun x =>
      { x with record := x.record.map (fun m => { m with custody := Custody.mark m.custody }) }) s.slots }

/-- The re-resolution of one slot's QUEUED message: a message that is unresolved is held, any other stays QUEUED (R75). -/
def reresolveQueued (by_ : Port) (s : State) (k : SlotNo) : State :=
  match s.record k with
  | none => s
  | some m =>
    if m.custody = .queued then
      match s.resolve m.area with
      | some _ => s
      | none => holdAndTell k .unrouted (some by_) s
    else s

/-- The re-resolution of one slot's HELD(UNROUTED) message (R76). -/
def releaseUnrouted (by_ : Port) (s : State) (k : SlotNo) : State :=
  match s.record k with
  | none => s
  | some m =>
    if m.custody = .held .unrouted then
      match s.resolve m.area with
      | none => s
      | some _ =>
        if Message.deadlinePassed s.seconds m = true then
          let s := s.modRecord k (fun m => Message.log s.seconds (some by_) .released (Message.applyUpgrade m))
          reportHeld k (holdFor k .deadlinePassed (some by_) s)
        else
          notifyWatchers k (s.modRecord k (fun m =>
            Message.log s.seconds (some by_) .released { Message.applyUpgrade m with custody := .queued }))
    else s

/-- The new membership of queue p is handed to the Notice Unit and the Break-in Unit: QUEUE-READY where the queue was
empty before, then the clearing and re-check of a pending break-in whose message has left, then the check where the
queue gained; `old` is the part before the change (R77). -/
def handOverMembership (old : State) (s : State) (p : Port) : State :=
  let gained := (s.queue p).any (fun k => !decide (old.queueOf k = some p))
  let s := if (old.queue p).isEmpty ∧ !(s.queue p).isEmpty then reportQueueReady p s else s
  let s :=
    match (s.breakin p).pending with
    | none => s
    | some h => if s.queueOf h.slot = some p ∧ s.handleOf h.slot = h then s else breakInCheck p (clearPendingBreakIn p s)
  if gained then breakInCheck p s else s

/-- The account of a routing change (R72). -/
structure Account where
  moved : Nat
  held : Nat
  released : Nat
  deriving DecidableEq, Repr

/-- The effects of a routing change on the traffic; `old` is the part before the change, `s` the part with the new routing
state, `by_` the port of the change (R74 to R77). -/
def routingEffects (by_ : Port) (old s : State) : State × Account :=
  let marked := markHandoffs s
  let resolved := allSlots.foldl (reresolveQueued by_) marked
  let placed := allSlots.foldl (releaseUnrouted by_) resolved
  let moved := allSlots.countP (fun k =>
    match old.queueOf k, resolved.queueOf k with
    | some p, some q => decide (p ≠ q)
    | _, _ => false)
  let unrouted (x : State) (k : SlotNo) : Bool :=
    match x.record k with
    | some m => decide (m.custody = .held .unrouted)
    | none => false
  let held := allSlots.countP (fun k => !unrouted old k && unrouted resolved k)
  let released := allSlots.countP (fun k => unrouted resolved k && !unrouted placed k)
  (allPorts.foldl (handOverMembership old) placed, { moved := moved, held := held, released := released })

/-! ### The tick at the blocks (R47, R114, R116, R184) -/

/-- p's entry times out where it has been idle for 300 seconds (R47). -/
def timeOutEntry (s : State) (p : Port) : State :=
  match (s.entryOf p).filling with
  | none => s
  | some e =>
    if e.lastActivity + Config.idleLimit ≤ s.seconds then
      post p .entryLapsed (some e.handle) .nothing (closeEntry p (freeSlot e.handle.slot s))
    else s

/-- The Entry Unit takes the tick that it has still to take: it examines the entry context of each port (R47, R184). -/
def takeEntryTick (s : State) : State :=
  if s.entryTick then allPorts.foldl timeOutEntry { s with entryTick := false } else s

/-- A HANDED message whose lease deadline has been reached lapses (R114). -/
def lapseIfDue (s : State) (k : SlotNo) : State :=
  match s.record k with
  | none => s
  | some m =>
    match m.custody with
    | .handed p deadline _ =>
      if deadline ≤ s.seconds then
        settleFences s.outstanding
          (bounce k p .lapsed (post p .lapsed (some (s.handleOf k)) (.token m.token) (clearActive p s)))
      else s
    | .filling | .queued | .suspended _ _ _ | .held _ | .disposed _ _ | .void => s

/-- The Dispatch Unit takes the lease expiries of a tick at the given slots, in ascending slot order (R114, R184). -/
def takeLeaseTick (slots : List SlotNo) (s : State) : State :=
  if s.leaseTick then slots.foldl lapseIfDue { s with leaseTick := false } else s

/-- A QUEUED message whose delivery deadline has been reached becomes HELD(DEADLINE-PASSED) and leaves its queue (R116; on
the withdrawal of a break-in that names it log entries 15 and 29). -/
def expireIfDue (s : State) (k : SlotNo) : State :=
  match s.record k with
  | none => s
  | some m =>
    if m.custody = .queued ∧ Message.deadlinePassed s.seconds m = true then
      match s.queueOf k with
      | some p => leaveQueue p (s.handleOf k) (holdAndTell k .deadlinePassed none) s
      | none => holdAndTell k .deadlinePassed none s
    else s

/-- The Dispatch Unit takes the delivery-deadline expiries of a tick, in ascending slot order, after the lease expiries of
that tick where it has still to take those, at the given slots (R116, R184). -/
def takeDeadlineTick (leases : List SlotNo) (s : State) : State :=
  let s := takeLeaseTick leases s
  if s.deadlineTick then allSlots.foldl expireIfDue { s with deadlineTick := false } else s

/-- Each block takes the tick that it has still to take, the Entry Unit first, with the lease expiries at the given slots
(R184; the order of the two blocks is log entry 3). -/
def takeTicksAt (leases : List SlotNo) (s : State) : State := takeDeadlineTick leases (takeEntryTick s)

/-- Each block takes the whole of the tick that it has still to take (R184). -/
def takeTicks (s : State) : State := takeTicksAt allSlots s

/-- The slots other than k, in ascending order. -/
def otherSlots (k : SlotNo) : List SlotNo := allSlots.filter (fun j => !decide (j = k))

/-- The lease of a HANDED message has run out at `now` (R114). -/
def Custody.leaseOver (now : Nat) : Custody → Bool
  | .handed _ deadline _ => decide (deadline ≤ now)
  | .filling | .queued | .suspended _ _ _ | .held _ | .disposed _ _ | .void => false

/-- The slot of p's active handoff where the tick that the Dispatch Unit has still to take is the one at which it lapses
(R139). -/
def State.lapsing (s : State) (p : Port) : Option SlotNo :=
  if s.leaseTick = true then
    ((s.breakin p).active.map (fun a => a.handle.slot)).filter (fun k =>
      (s.record k).any (fun m => Custody.leaseOver s.seconds m.custody))
  else none

/-! ### Requests at their owning block (R5, R178) -/

/-- A result with the payload of its response. -/
structure Reply where
  result : Result
  payload : List Byte
  deriving DecidableEq, Repr

/-- A request refused: a result without payload, and no change of state (R1). -/
def refuse (r : Result) (s : State) : Reply × State := ({ result := r, payload := [] }, s)

/-- A request answered with a payload. -/
def answer (r : Result) (payload : List Byte) (s : State) : Reply × State := ({ result := r, payload := payload }, s)

/-- The part acts only while its supply is at its working level (R187). -/
def whenPowered (f : State → State) (s : State) : Host.Outcome State Fault Refusal :=
  .next (if s.supplyLow then s else f s)

/-- The response to the request in progress becomes p's held response, and p becomes READY (R178). -/
def holdResponse (p : Port) (rq : Request) (r : Reply) (s : State) : State :=
  s.modPort p (fun x =>
    { x with exchangeState := .ready { code := rq.code, tag := rq.tag, result := r.result, payload := r.payload } })

/-- The request that a command stands for is in progress at its port: the port has taken it, and its owning block has not
(R178). -/
def State.inProgress (s : State) (c : Instr) : Option (Port × Request) :=
  match requestFrame c with
  | none => none
  | some f =>
    match (s.port f.port).exchangeState with
    | .working rq => if rq.code = f.code ∧ rq.payload = f.payload then some (f.port, rq) else none
    | .idle => none
    | .ready _ => none

/-- The request that a command stands for is taken at its owning block, which acts and forms the response (R178), on the
part that `ticks` leaves: what a tick that came before the request does before it. Where that request is not in progress at
its port there is nothing to take (DESIGN CHOICE, log entry 2). -/
def serveAfter (ticks : State → State) (c : Instr) (act : State → Reply × State) :
    State → Host.Outcome State Fault Refusal :=
  whenPowered (fun s =>
    match s.inProgress c with
    | some (p, rq) => let r := act (ticks s); holdResponse p rq r.1 r.2
    | none => s)

/-- A request before which every block takes the tick that came before it, so that each tick is taken with its own now
(R184; log entry 3). -/
def serve : Instr → (State → Reply × State) → State → Host.Outcome State Fault Refusal := serveAfter takeTicks

/-- A request reserved to CONTROL ports (R143). -/
def controlOnly (p : Port) (act : State → Reply × State) (s : State) : Reply × State :=
  if s.isControl p then act s else refuse .notControl s

/-- The slot of a handle in a request, none above 191 (R5). -/
def HandleField.slotNo (h : HandleField) : Option SlotNo :=
  if x : h.slot.toNat < 192 then some ⟨h.slot.toNat, x⟩ else none

/-- The incarnation of a handle in a request: bits 0 to 3 of its second byte (R192). -/
def HandleField.incarnation (h : HandleField) : BitVec 4 := h.inc.truncate 4

/-- A handle as a request gives it, none above slot 191. -/
def HandleField.read (h : HandleField) : Option Handle :=
  (HandleField.slotNo h).map (fun k => { slot := k, inc := HandleField.incarnation h })

/-- The handle check of R5. -/
def withHandle (h : HandleField) (act : SlotNo → State → Reply × State) (s : State) : Reply × State :=
  match HandleField.slotNo h with
  | none => refuse .badField s
  | some k => if HandleField.incarnation h = (s.slot k).inc then act k s else refuse .staleHandle s

end Sys2Proof.Machine
end

