-- ==== Sys2Proof/Machine/Records.lean ====
section
/-! DEFINITION. The byte layouts of the records that responses carry (11.5 to 11.7). -/

namespace Sys2Proof.Machine

/-- An optional number; absent is 0 (11.4). -/
def orZero : Option Nat → Nat
  | some n => n
  | none => 0

/-- Byte 3 of a message header: class, pending upgrade, presence of the declared check and of the deadline (11.5). -/
def headerClassByte (m : Message) : Nat :=
  m.klass.code
    + (match m.pendingUpgrade with
      | some c => 4 + 8 * c.code
      | none => 0)
    + 32 * boolBit m.declaredCheck.isSome + 64 * boolBit m.deadline.isSome

/-- Byte 28 of a message header: check status, attributes, pre-change mark, number of notes (11.5). -/
def headerCheckByte (m : Message) : Nat :=
  CheckStatus.code (m.entry.map (fun e => e.check)) + 4 * boolBit m.truncated + 8 * boolBit m.substituted
    + 16 * boolBit m.custody.marked + 32 * m.notes.length

/-- Byte 29 of a message header: watcher set, entry port, holder (11.5). -/
def headerPortsByte (m : Message) : Nat :=
  portBits m.watchers + 16 * m.entryPort.val
    + 64 * (match m.custody.holder with
      | some p => p.val
      | none => 0)

/-- Bytes 44 to 47 of a message header: lease deadline, lease remaining or disposition time (11.5). -/
def headerTime : Custody → Nat
  | .handed _ deadline _ => deadline
  | .suspended _ remaining _ => remaining
  | .disposed _ time => time
  | .filling | .queued | .held _ | .void => 0

/-- Bytes 48 to 58 of a message header, the outcome part (11.5). -/
def outcomePart : Custody → List Byte
  | .held r => be1 r.code ++ List.replicate 10 0
  | .disposed (.relayed station serial) _ => be1 1 ++ stationBytes station ++ be2 serial
  | .disposed .delivered _ => be1 2 ++ List.replicate 10 0
  | .filling | .queued | .handed _ _ _ | .suspended _ _ _ | .void => List.replicate 11 0

/-- Bytes 0 to 47 of a message header, the custody part (11.5). -/
def custodyPart (h : Handle) (m : Message) : List Byte :=
  handleBytes (some h) ++ be1 m.custody.name.code ++ be1 (headerClassByte m)
    ++ stationBytes m.origin ++ be2 m.serial ++ be2 m.day ++ be1 m.hour ++ be1 m.minute
    ++ be2 m.area ++ be2 (orZero m.declaredCheck) ++ be4 (orZero m.deadline)
    ++ be2 m.words ++ be1 (headerCheckByte m) ++ be1 (headerPortsByte m) ++ be2 m.text.length
    ++ be4 (Message.enteredAt m) ++ be4 (Message.number m)
    ++ be1 (m.bounces + 16 * m.copies) ++ be2 (twos 16 m.adjust) ++ be1 m.token.toNat ++ be4 (headerTime m.custody)

/-- The 59-byte message header (11.5). -/
def headerBytes (h : Handle) (m : Message) : List Byte := custodyPart h m ++ outcomePart m.custody

/-- A handed message with its scores: the custody part, K and S, 54 bytes (11.5). -/
def handedBytes (h : Handle) (m : Message) (e : Evaluation) : List Byte :=
  custodyPart h m ++ be2 (twos 16 e.score) ++ be4 (twos 32 e.sum)

/-- An entry of a queue listing, 10 bytes (11.6). -/
def queueEntryBytes (s : State) (e : Evaluation) : List Byte :=
  match s.record e.slot with
  | none => []
  | some m =>
    be1 e.slot.val ++ be1 ((s.slot e.slot).inc.toNat + 16 * m.klass.code + 64 * e.clamp.code) ++ be4 e.number
      ++ be4 (twos 26 e.sum + 67108864 * m.bounces)

/-- The detail byte of a notice record (11.6). -/
def Detail.code : Detail → Nat
  | .nothing => 0
  | .klass c => c.code
  | .stateAndClass n c => n.code + 8 * c.code
  | .token t => t.toNat
  | .reason r => r.code

/-- A notice record, 8 bytes (11.6). -/
def noticeBytes (n : Notice) : List Byte :=
  be1 n.kind.code ++ handleBytes n.handle ++ be1 n.detail.code ++ be4 n.time

/-- A history entry, 6 bytes (11.7). -/
def historyBytes (e : HistoryEntry) : List Byte := be4 e.time ++ portByte e.port ++ be1 e.event.code

/-- A route table entry, 4 bytes (11.7). -/
def routeEntryBytes (e : RouteEntry) : List Byte :=
  be2 (e.first + 8192 * e.port.val + 32768 * boolBit e.valid) ++ be2 e.last

/-- What decided a resolution: an entry index, 40h for the default route (11.7). -/
def Decider.code : Decider → Nat
  | .entry i => i
  | .byDefault => 0x40

/-- The resolved port and what decided it; FFh, FFh for unresolved or no area given (11.7). -/
def resolutionBytes : Option (Port × Decider) → List Byte
  | some (p, d) => portByte (some p) ++ be1 d.code
  | none => be1 255 ++ be1 255

/-- The seven items of the scoring configuration, in the order of R91 and the widths of CONFIGURE (log entry 11). -/
def scoringBytes (c : Scoring) : List Byte :=
  be1 c.weightImmediate ++ be1 c.weightUrgent ++ be1 c.weightWelfare ++ be1 c.weightRoutine ++ be1 c.shift
    ++ be2 c.penalty ++ be2 c.lease

/-- A stack record of PORT-STATUS (R138), in the widths of 11.4. -/
def suspensionBytes (r : Suspension) : List Byte :=
  handleBytes (some r.handle) ++ be1 r.token.toNat ++ be1 r.klass.code ++ be4 r.leaseRemaining
    ++ boolByte r.savedEnable ++ boolByte r.revoked

/-- Where a message stands: its state, the port of the queue while QUEUED, the hold reason while HELD; an absent item takes
its absent value (R45, R107, R148; log entry 10). -/
def placementBytes (s : State) (k : SlotNo) (m : Message) : List Byte :=
  be1 m.custody.name.code ++ portByte (s.queueOf k) ++ reasonByte m.custody.reason

end Sys2Proof.Machine
end

