-- ==== Sys2Proof/Machine/Flags.lean ====
section
/-! DEFINITION. The flags a port shows: the status byte (R173), the attention line (R180), the sticky flags byte. -/

namespace Sys2Proof.Machine

/-- The status byte of a frame that port p shifts out, formed at the fall of select (R173, 11.1). -/
def statusBits (s : State) (p : Port) (isRepeat : Bool) : Nat :=
  128 * boolBit (!(s.noticeQueue p).items.isEmpty)
    + 64 * boolBit (s.breakin p).pending.isSome
    + 32 * boolBit (s.breakin p).enable
    + 16 * boolBit (s.noticeQueue p).overrun
    + 8 * boolBit (s.port p).requestOverrun
    + 4 * boolBit isRepeat
    + 2 * boolBit (s.port p).control

/-- Port p holds a response not yet delivered. -/
def StationPort.isReady (x : StationPort) : Bool :=
  match x.exchangeState with
  | .ready _ => true
  | .idle => false
  | .working _ => false

/-- The attention line of port p (R180). -/
def attention (s : State) (p : Port) : Bool :=
  StationPort.isReady (s.port p) || !(s.noticeQueue p).items.isEmpty || (s.breakin p).pending.isSome

/-- The flags byte of a queue listing: bit 0 TOPPED, bit 1 FLOORED (11.6). -/
def stickyByte (f : QueueFlags) : List Byte := be1 (boolBit f.topped + 2 * boolBit f.floored)

/-- The bytes of a response frame with its status (11.1). -/
def responseFrame (r : Response) (status : Nat) : List Byte :=
  [r.code, r.tag] ++ be1 r.result.code ++ be1 status ++ be1 r.payload.length ++ r.payload

/-- The filler response: result NONE, request code 00h, tag 0, no payload (R172). -/
def filler : Response := { code := 0, tag := 0, result := .none, payload := [] }

end Sys2Proof.Machine
end

