-- ==== Sys2Proof/Machine/Handoff.lean ====
section
/-! DEFINITION. Outbound queues and handoffs: QUEUE-LIST, NEXT, EXTEND, DISPOSE, lease expiry and delivery-deadline expiry
(chapter 6). -/

namespace Sys2Proof.Machine

/-! ### QUEUE-LIST and NEXT -/

/-- The flags of queue q are cleared (R89). -/
def clearFlags (q : Port) (s : State) : State := s.modFlags q (fun _ => QueueFlags.clear)

/-- A listing of queue q from a rank: every member is evaluated, which may set the flags; the flags are reported and then
cleared (R89, R101). -/
def listQueue (q : Port) (rank : Nat) (s : State) : Reply × State :=
  let es := s.ranked (s.queue q)
  let s := setStickyFlags q es s
  let shown := (es.drop rank).take Config.membersPerListing
  answer .ok
    (be4 s.seconds ++ be1 es.length ++ stickyByte (s.flagsOf q) ++ be1 shown.length
      ++ (shown.map (queueEntryBytes s)).flatten)
    (clearFlags q s)

/-- QUEUE-LIST at the Dispatch Unit (R101). -/
def queueList (queue rank : Byte) (s : State) : Reply × State :=
  match readPort queue with
  | none => refuse .badField s
  | some q => if 191 < rank.toNat then refuse .badField s else listQueue q rank.toNat s

/-- The payload that names a handoff: its handle and token (R102, R135). -/
def handoffBytes (a : Handoff) : List Byte := handleBytes (some a.handle) ++ be1 a.token.toNat

/-- The payload of a NEXT answered OK: the handed message's custody part, K and S (11.5). -/
def handedPayload (s : State) (e : Evaluation) : List Byte :=
  match s.record e.slot with
  | none => []
  | some m => handedBytes (s.handleOf e.slot) m e

/-- NEXT at the Dispatch Unit (R102). -/
def nextMessage (p : Port) (s : State) : Reply × State :=
  match (s.breakin p).active with
  | some a => answer .handoffOpen (handoffBytes a) s
  | none =>
    if (s.breakin p).stack ≠ [] then answer .suspendedPending (be1 (s.breakin p).stack.length) s
    else
      match s.ranked (s.queue p) with
      | [] => refuse .queueEmpty s
      | e :: es =>
        let s := handOut e.slot p (setStickyFlags p (e :: es) s)
        answer .ok (handedPayload s e) s

/-! ### The handoff check, EXTEND and DISPOSE -/

/-- The last history entry of a VOID record is VOIDED, and the entry before it HANDED with port p (R105). -/
def voidedFrom (p : Port) (m : Message) : Bool :=
  match m.history.reverse with
  | _ :: e :: _ => decide (e.event = .handed ∧ e.port = some p)
  | _ => false

/-- The handoff check: the refusal, or none where the request passes (R105). -/
def handoffRefusal (p : Port) (k : SlotNo) (inc : BitVec 4) (token : BitVec 8) (s : State) : Option Result :=
  if inc ≠ (s.slot k).inc then some .staleHandoff
  else
    match s.record k with
    | none => some .staleHandoff
    | some m =>
      match m.custody with
      | .void => if voidedFrom p m = true ∧ token = m.token then some .revoked else some .staleHandoff
      | .suspended q _ _ => if q = p ∧ token = m.token then some .wrongState else some .staleHandoff
      | .handed q _ _ => if q = p ∧ token = m.token then none else some .staleHandoff
      | .filling | .queued | .held _ | .disposed _ _ => some .staleHandoff

/-- A request that acts on the handoff it names by handle and token (R105). -/
def onHandoff (p : Port) (h : HandleField) (token : Byte) (act : SlotNo → State → Reply × State) (s : State) :
    Reply × State :=
  match HandleField.slotNo h with
  | none => refuse .badField s
  | some k =>
    match handoffRefusal p k (HandleField.incarnation h) token s with
    | some r => refuse r s
    | none => act k s

/-- A HANDED message with its lease deadline set (R106). -/
def Custody.withDeadline (deadline : Nat) : Custody → Custody
  | .handed p _ mark => .handed p deadline mark
  | .suspended p r mark => .suspended p r mark
  | .filling => .filling
  | .queued => .queued
  | .held r => .held r
  | .disposed o t => .disposed o t
  | .void => .void

/-- EXTEND at the Dispatch Unit (R106). -/
def extend (p : Port) (h : HandleField) (token : Byte) : State → Reply × State :=
  onHandoff p h token (fun k s =>
    let deadline := heldTime (s.seconds + s.scoring.lease)
    answer .ok (handleBytes (some (s.handleOf k)) ++ [token] ++ be4 deadline)
      (s.modRecord k (fun m => { m with custody := Custody.withDeadline deadline m.custody })))

/-- What a DISPOSE reports (R107). -/
inductive Report where
  | relayed (station : List Byte) (serial : Nat)
  | delivered
  | bounced
  | refused
  deriving DecidableEq, Repr

/-- The outcome of a DISPOSE, none where a field is bad; only RELAYED has its station and serial examined (R107). -/
def readReport (f : DisposeFields) : Option Report :=
  if f.outcome.toNat = 1 then
    match readStation f.station with
    | some st => if serialOk f.serial then some (.relayed st f.serial.toNat) else none
    | none => none
  else if f.outcome.toNat = 2 then some .delivered
  else if f.outcome.toNat = 3 then some .bounced
  else if f.outcome.toNat = 4 then some .refused
  else none

/-- A RELAYED or DELIVERED disposition: the message becomes DISPOSED and joins the tail of the retained list (R109). -/
def dispositionOf (k : SlotNo) (holder : Port) (outcome : Disposal) (event : HistoryEvent) (s : State) : State :=
  let s := s.modRecord k (fun m =>
    Message.log s.seconds (some holder) event { m with custody := .disposed outcome s.seconds })
  notifyWatchers k (retain (s.handleOf k) s)

/-- A REFUSED disposition: the message becomes HELD(REFUSED) (R111). -/
def refusalHold (k : SlotNo) (holder : Port) (s : State) : State :=
  holdAndTell k .refused (some holder)
    (s.modRecord k (Message.log s.seconds (some holder) .refused))

/-- What a report does with the message once its handoff has ended (R107, R109 to R111). -/
def applyReport (k : SlotNo) (holder : Port) (r : Report) (s : State) : State :=
  match r with
  | .relayed station serial => dispositionOf k holder (.relayed station serial) .relayed s
  | .delivered => dispositionOf k holder .delivered .delivered s
  | .bounced => bounce k holder .bounced s
  | .refused => refusalHold k holder s

/-- The payload of a DISPOSE answered OK (R107). -/
def disposeBytes (s : State) (k : SlotNo) (outcome : Byte) : List Byte :=
  match s.record k with
  | none => []
  | some m =>
    handleBytes (some (s.handleOf k)) ++ [outcome] ++ be1 m.token.toNat ++ be1 m.bounces ++ placementBytes s k m

/-- DISPOSE at the Dispatch Unit: the handoff ends, the outcome acts, and fences that wait for its mark complete
(R107, R108). -/
def dispose (p : Port) (f : DisposeFields) (s : State) : Reply × State :=
  match readReport f with
  | none => refuse .badField s
  | some r =>
    onHandoff p f.handle f.token (fun k s =>
      let t := settleFences s.outstanding (applyReport k p r (clearActive p s))
      answer .ok (disposeBytes t k f.outcome) t) s

/-! ### The commands -/

/-- QUEUE-LIST (R101). -/
def execQueueList (p : Port) (queue rank : Byte) (s : State) : Host.Outcome State Fault Refusal :=
  serve (.queueList p queue rank) (queueList queue rank) s

/-- NEXT (R102). -/
def execNext (p : Port) (s : State) : Host.Outcome State Fault Refusal :=
  serve (.next p) (nextMessage p) s

/-- EXTEND (R106). -/
def execExtend (p : Port) (h : HandleField) (token : Byte) (s : State) : Host.Outcome State Fault Refusal :=
  serve (.extend p h token) (extend p h token) s

/-- DISPOSE (R107). -/
def execDispose (p : Port) (f : DisposeFields) (s : State) : Host.Outcome State Fault Refusal :=
  serve (.dispose p f) (dispose p f) s

/-- LEASE_EXPIRY (R114). -/
def execLeaseExpiry (s : State) : Host.Outcome State Fault Refusal := whenPowered (takeLeaseTick allSlots) s

/-- DELIVERY_DEADLINE_EXPIRY (R116). -/
def execDeliveryDeadlineExpiry (s : State) : Host.Outcome State Fault Refusal :=
  whenPowered (takeDeadlineTick allSlots) s

end Sys2Proof.Machine
end

