-- ==== Sys2Proof/Machine/BreakInUnit.lean ====
section
/-! DEFINITION. The requests of the Break-in Unit: BREAKIN-ENABLE, NEXT-BREAKIN, RESUME and PORT-STATUS (chapter 7). -/

namespace Sys2Proof.Machine

/-- Set p's enable (R124). -/
def setEnable (p : Port) (on : Bool) (s : State) : State := s.modBreakin p (fun b => { b with enable := on })

/-- A turning on is followed by the check, a turning off by the clearing of the pending break-in; a request for what
already holds changes nothing (R124). -/
def switchEnable (p : Port) (on : Bool) (s : State) : State :=
  if (s.breakin p).enable = on then s
  else if on then breakInCheck p (setEnable p true s)
  else clearPendingBreakIn p (setEnable p false s)

/-- BREAKIN-ENABLE at the Break-in Unit (R124). -/
def breakinEnable (p : Port) (value : Byte) (s : State) : Reply × State :=
  match readFlag value with
  | none => refuse .badField s
  | some on =>
    let s := switchEnable p on s
    answer .ok (boolByte (s.breakin p).enable ++ handleBytes (s.breakin p).pending) s

/-- The lease remaining of a HANDED message: its deadline less now, or 0 where the deadline is not later (R131). -/
def Custody.leaseLeft (now : Nat) : Custody → Nat
  | .handed _ deadline _ => deadline - now
  | .suspended _ remaining _ => remaining
  | .filling | .queued | .held _ | .disposed _ _ | .void => 0

/-- p's active handoff of the message m in slot k is suspended onto p's stack (R131, steps 2 to 6). -/
def suspend (k : SlotNo) (p : Port) (a : Handoff) (m : Message) (s : State) : State :=
  let remaining := Custody.leaseLeft s.seconds m.custody
  let r : Suspension :=
    { handle := a.handle, token := a.token, leaseRemaining := remaining, savedEnable := (s.breakin p).enable
      klass := m.klass, revoked := false }
  let s := s.modBreakin p (fun b => { b with stack := r :: b.stack })
  let s := s.modRecord k (fun m => { m with custody := .suspended p remaining m.custody.marked })
  let s := notifyWatchers k s
  clearPendingBreakIn p (s.modBreakin p (fun b => { b with active := none, enable := false }))

/-- NEXT-BREAKIN at the Break-in Unit (R130, R131, R132). -/
def nextBreakin (p : Port) (h : HandleField) (token : Byte) (s : State) : Reply × State :=
  match HandleField.read h with
  | none => refuse .badField s
  | some h =>
    match (s.breakin p).pending with
    | none => refuse .noBreakin s
    | some named =>
      if (s.breakin p).active = some { handle := h, token := token } then
        match s.record h.slot with
        | none => refuse .staleHandoff s
        | some m =>
          match s.ranked (s.eligible p m.klass) with
          | [] => refuse .noBreakin s
          | e :: es =>
            let a : Handoff := { handle := h, token := token }
            let s := handOut e.slot p (suspend h.slot p a m (setStickyFlags p (e :: es) s))
            answer .ok
              (handedPayload s e ++ handleBytes (some h) ++ be1 (s.breakin p).stack.length ++ handleBytes (some named)) s
      else refuse .staleHandoff s

/-- What a tick that came before a NEXT-BREAKIN of p does before it. Where p's active handoff would lapse at that tick and
`act`, the request, suspends it instead, the request comes first: the tick does not examine that handoff, whose lease
remaining is then 0. Everything else that the tick reaches, it reaches first (R139, R184; the reading is log entry 3). -/
def ticksBeforeBreakin (p : Port) (act : State → Reply × State) (s : State) : State :=
  match s.lapsing p with
  | none => takeTicks s
  | some k =>
    let spared := takeTicksAt (otherSlots k) s
    if (act spared).1.result = .ok then spared else takeTicks s

/-- p's stack loses its top record and p's enable takes the record's saved enable (R136, R137). -/
def popRecord (p : Port) (r : Suspension) (s : State) : State :=
  s.modBreakin p (fun b => { b with stack := b.stack.tail, enable := r.savedEnable })

/-- The message of a popped record becomes p's active handoff again (R136, steps 2 to 5). -/
def resumeRecord (p : Port) (r : Suspension) (s : State) : State :=
  let deadline := heldTime (s.seconds + r.leaseRemaining)
  let s := s.modRecord r.handle.slot (fun m => { m with custody := .handed p deadline m.custody.marked })
  let s := s.modBreakin p (fun b => { b with active := some { handle := r.handle, token := r.token } })
  breakInCheck p (notifyWatchers r.handle.slot s)

/-- The payload of a RESUME answered OK (R136). -/
def resumedBytes (s : State) (p : Port) (r : Suspension) (deadline : Nat) : List Byte :=
  handleBytes (some r.handle) ++ be1 r.token.toNat ++ be4 deadline ++ boolByte (s.breakin p).enable
    ++ handleBytes (s.breakin p).pending ++ be1 (s.breakin p).stack.length

/-- RESUME at the Break-in Unit (R135 to R137). -/
def resume (p : Port) (h : HandleField) (token : Byte) (s : State) : Reply × State :=
  match HandleField.read h with
  | none => refuse .badField s
  | some h =>
    match (s.breakin p).active with
    | some a => answer .handoffOpen (handoffBytes a) s
    | none =>
      match (s.breakin p).stack with
      | [] => refuse .nothingSuspended s
      | r :: _ =>
        if r.handle = h ∧ r.token = token then
          if r.revoked then
            let s := breakInCheck p (popRecord p r s)
            answer .revoked
              (handleBytes (some r.handle) ++ be1 r.token.toNat ++ boolByte (s.breakin p).enable
                ++ be1 (s.breakin p).stack.length) s
          else
            let deadline := heldTime (s.seconds + r.leaseRemaining)
            let s := resumeRecord p r (popRecord p r s)
            answer .ok (resumedBytes s p r deadline) s
        else refuse .staleHandoff s

/-- The class of the message a handle names in its slot (R138). -/
def State.classOf (s : State) (h : Handle) : Option Class := (s.record h.slot).map (fun m => m.klass)

/-- The pending break-in of PORT-STATUS: its handle and the named message's class (R138). -/
def pendingBytes (s : State) (p : Port) : List Byte :=
  handleBytes (s.breakin p).pending ++ classByte ((s.breakin p).pending.bind s.classOf)

/-- The active handoff of PORT-STATUS: handle, token, class and lease deadline (R138). -/
def activeBytes (s : State) (p : Port) : List Byte :=
  match (s.breakin p).active with
  | none => handleBytes none ++ be1 0 ++ classByte none ++ be4 0
  | some a =>
    handoffBytes a ++ classByte (s.classOf a.handle)
      ++ be4 (match s.record a.handle.slot with
        | some m => headerTime m.custody
        | none => 0)

/-- The payload of PORT-STATUS for port q (R138). -/
def portStatusBytes (s : State) (q : Port) : List Byte :=
  boolByte (s.isControl q) ++ boolByte (s.breakin q).enable ++ pendingBytes s q ++ activeBytes s q
    ++ be1 (s.breakin q).stack.length ++ ((s.breakin q).stack.reverse.map suspensionBytes).flatten
    ++ handleBytes ((s.entryOf q).filling.map (fun e => e.handle)) ++ boolByte (s.fences.get q)

/-- PORT-STATUS at the Break-in Unit (R138). -/
def portStatus (port : Byte) (s : State) : Reply × State :=
  match readPort port with
  | none => refuse .badField s
  | some q => answer .ok (portStatusBytes s q) s

/-- BREAKIN-ENABLE (R124). -/
def execBreakinEnable (p : Port) (value : Byte) (s : State) : Host.Outcome State Fault Refusal :=
  serve (.breakinEnable p value) (breakinEnable p value) s

/-- NEXT-BREAKIN (R130, R139). -/
def execNextBreakin (p : Port) (h : HandleField) (token : Byte) (s : State) : Host.Outcome State Fault Refusal :=
  serveAfter (ticksBeforeBreakin p (nextBreakin p h token)) (.nextBreakin p h token) (nextBreakin p h token) s

/-- RESUME (R135). -/
def execResume (p : Port) (h : HandleField) (token : Byte) (s : State) : Host.Outcome State Fault Refusal :=
  serve (.resume p h token) (resume p h token) s

/-- PORT-STATUS (R138). -/
def execPortStatus (p : Port) (port : Byte) (s : State) : Host.Outcome State Fault Refusal :=
  serve (.portStatus p port) (portStatus port) s

end Sys2Proof.Machine
end

