-- ==== Sys2Proof/Machine/Capacity.lean ====
section
/-! DEFINITION. PURGE and STORE-STATUS (3.6, 3.7). -/

namespace Sys2Proof.Machine

/-- PURGE at the Traffic Store (R60). -/
def purge (p : Port) (h : HandleField) (s : State) : Reply × State :=
  controlOnly p (withHandle h (fun k s =>
    match s.record k with
    | none => refuse .wrongState s
    | some m =>
      if Message.retainedRecord m = true then
        answer .ok (handleBytes (some (s.handleOf k)) ++ be2 m.segments) (reclaim k s)
      else refuse .wrongState s)) s

/-- STORE-STATUS at the Traffic Store (R61). -/
def storeStatus (s : State) : Reply × State :=
  answer .ok (be1 s.emptySlots ++ be1 s.retainedRecords ++ be2 s.freeSegments ++ be2 s.retainedSegments) s

/-- PURGE (R60). -/
def execPurge (p : Port) (h : HandleField) (s : State) : Host.Outcome State Fault Refusal :=
  serve (.purge p h) (purge p h) s

/-- STORE-STATUS (R61). -/
def execStoreStatus (p : Port) (s : State) : Host.Outcome State Fault Refusal :=
  serve (.storeStatus p) storeStatus s

end Sys2Proof.Machine
end

