-- ==== Sys2Proof/Machine/Configuration.lean ====
section
/-! DEFINITION. CONFIGURE and CONFIG-READ (5.5). -/

namespace Sys2Proof.Machine

/-- An item of CONFIGURE: its value where its presence bit is set, else the value it had (R92). -/
def configItem (mask : Byte) (bit : Nat) (given kept : Nat) : Nat := if mask.getLsbD bit then given else kept

/-- A bounce penalty clamped to its range (R93). -/
def clampPenalty (n : Nat) : Nat := min n 4095

/-- A lease period clamped to its range (R93). -/
def clampLease (n : Nat) : Nat := max 60 (min n 3600)

/-- The configuration after a CONFIGURE; bits 3 to 7 of the shift-mode byte are ignored (R92, R192). -/
def configured (f : ConfigureFields) (c : Scoring) : Scoring :=
  { weightImmediate := configItem f.mask 0 f.weightImmediate.toNat c.weightImmediate
    weightUrgent := configItem f.mask 1 f.weightUrgent.toNat c.weightUrgent
    weightWelfare := configItem f.mask 2 f.weightWelfare.toNat c.weightWelfare
    weightRoutine := configItem f.mask 3 f.weightRoutine.toNat c.weightRoutine
    shift := configItem f.mask 4 (f.shift.toNat % 8) c.shift
    penalty := configItem f.mask 5 (clampPenalty f.penalty.toNat) c.penalty
    lease := configItem f.mask 6 (clampLease f.lease.toNat) c.lease }

/-- The marks of the items that were present and clamped: bit 5 the penalty, bit 6 the lease period (R92, 11.4). -/
def clampMarks (f : ConfigureFields) : Nat :=
  32 * boolBit (f.mask.getLsbD 5 && !decide (clampPenalty f.penalty.toNat = f.penalty.toNat))
    + 64 * boolBit (f.mask.getLsbD 6 && !decide (clampLease f.lease.toNat = f.lease.toNat))

/-- CONFIGURE at the Dispatch Unit (R92). -/
def configure (p : Port) (f : ConfigureFields) : State → Reply × State :=
  controlOnly p (fun s =>
    answer .ok (scoringBytes (configured f s.scoring) ++ be1 (clampMarks f))
      { s with scoring := configured f s.scoring })

/-- CONFIG-READ at the Dispatch Unit (R95). -/
def configRead (s : State) : Reply × State := answer .ok (scoringBytes s.scoring) s

/-- CONFIGURE (R92). -/
def execConfigure (p : Port) (f : ConfigureFields) (s : State) : Host.Outcome State Fault Refusal :=
  serve (.configure p f) (configure p f) s

/-- CONFIG-READ (R95). -/
def execConfigRead (p : Port) (s : State) : Host.Outcome State Fault Refusal :=
  serve (.configRead p) configRead s

end Sys2Proof.Machine
end

