-- ==== Sys2Proof/Machine/Reads.lean ====
section
/-! DEFINITION. The requests that read the store: READ-HEADER, READ-TEXT, READ-NOTES, READ-HISTORY and FIND (1.7). -/

namespace Sys2Proof.Machine

/-- A request of the entry port on its FILLING message that is not refused is activity on the entry (R29). -/
def refreshEntry (p : Port) (k : SlotNo) (s : State) : State :=
  match s.record k with
  | none => s
  | some m =>
    if m.custody = .filling ∧ m.entryPort = p then
      s.modEntry p (fun x => { x with filling := x.filling.map (fun e => { e with lastActivity := s.seconds }) })
    else s

/-- A read of the record named by a handle: the handle check, WRONG-STATE for an EMPTY slot, NOT-YOURS for another port's
FILLING message, and the refresh of the entry for one's own (R18, R29). -/
def readRecord (p : Port) (h : HandleField) (form : SlotNo → Message → Reply) (s : State) : Reply × State :=
  withHandle h (fun k s =>
    match s.record k with
    | none => refuse .wrongState s
    | some m =>
      if m.custody = .filling ∧ m.entryPort ≠ p then refuse .notYours s
      else (form k m, refreshEntry p k s)) s

/-- READ-HEADER at the store (R19). -/
def readHeader (p : Port) (h : HandleField) (s : State) : Reply × State :=
  readRecord p h (fun k m => { result := .ok, payload := headerBytes (s.handleOf k) m }) s

/-- The characters of a segment of a text (R12). -/
def segmentChars (text : List Byte) (index : Nat) : List Byte :=
  (text.drop (Config.segmentSize * index)).take Config.segmentSize

/-- READ-TEXT at the store (R20). -/
def readText (p : Port) (h : HandleField) (index : Byte) (s : State) : Reply × State :=
  if 63 < index.toNat then refuse .badField s
  else
    readRecord p h (fun _ m =>
      if index.toNat < textSegments m.text.length then
        { result := .ok
          payload := [index] ++ be1 (segmentChars m.text index.toNat).length ++ segmentChars m.text index.toNat
            ++ be2 m.text.length }
      else { result := .none, payload := be2 m.text.length }) s

/-- READ-NOTES at the store (R21). -/
def readNotes (p : Port) (h : HandleField) (index : Byte) (s : State) : Reply × State :=
  if 3 < index.toNat then refuse .badField s
  else
    readRecord p h (fun _ m =>
      match m.notes[index.toNat]? with
      | some note =>
        { result := .ok, payload := [index] ++ be1 note.length ++ note ++ be1 m.notes.length }
      | none => { result := .none, payload := be1 m.notes.length }) s

/-- READ-HISTORY at the store (R22). -/
def readHistory (p : Port) (h : HandleField) (s : State) : Reply × State :=
  readRecord p h (fun _ m =>
    { result := .ok
      payload := be1 m.history.length ++ be1 m.dropped ++ (m.history.map historyBytes).flatten }) s

/-- The slot in QUEUED, HANDED, SUSPENDED, HELD or DISPOSED that holds a duplicate key (R17, R23). -/
def State.keyHolder (s : State) (origin : List Byte) (serial day : Nat) : Option SlotNo :=
  allSlots.find? (fun k =>
    match s.record k with
    | some m => Message.holdsKey m && Message.hasKey m origin serial day
    | none => false)

/-- A slot's VOID record has a key (R23). -/
def State.voidWithKey (s : State) (origin : List Byte) (serial day : Nat) (k : SlotNo) : Bool :=
  match s.record k with
  | some m => decide (m.custody = .void) && Message.hasKey m origin serial day
  | none => false

/-- The slot of the VOID record with a key that entered VOID most recently: the last in retained-list order (R23). -/
def State.latestVoid (s : State) (origin : List Byte) (serial day : Nat) : Option SlotNo :=
  (s.retained.reverse.find? (fun h => s.voidWithKey origin serial day h.slot)).map (fun h => h.slot)

/-- The number of VOID records with a key (R23). -/
def State.voidCount (s : State) (origin : List Byte) (serial day : Nat) : Nat :=
  allSlots.countP (s.voidWithKey origin serial day)

/-- The message that FIND returns: a holder of the key, else the latest VOID record with it (R23). -/
def State.findKey (s : State) (origin : List Byte) (serial day : Nat) : Option SlotNo :=
  match s.keyHolder origin serial day with
  | some k => some k
  | none => s.latestVoid origin serial day

/-- The payload of a FIND answered OK (R23). -/
def findBytes (s : State) (k : SlotNo) (m : Message) (voids : Nat) : List Byte :=
  handleBytes (some (s.handleOf k)) ++ be1 m.custody.name.code ++ classByte (some m.klass) ++ be4 (Message.number m)
    ++ be1 m.copies ++ be1 voids

/-- FIND at the store (R23). -/
def findMessage (station : StationField) (serial day : Half) (s : State) : Reply × State :=
  match readStation station with
  | none => refuse .badField s
  | some origin =>
    if serialOk serial = true ∧ dayOk day = true then
      match s.findKey origin serial.toNat day.toNat with
      | none => refuse .notFound s
      | some k =>
        match s.record k with
        | none => refuse .notFound s
        | some m => answer .ok (findBytes s k m (s.voidCount origin serial.toNat day.toNat)) s
    else refuse .badField s

/-- READ-HEADER (R19). -/
def execReadHeader (p : Port) (h : HandleField) (s : State) : Host.Outcome State Fault Refusal :=
  serve (.readHeader p h) (readHeader p h) s

/-- READ-TEXT (R20). -/
def execReadText (p : Port) (h : HandleField) (index : Byte) (s : State) : Host.Outcome State Fault Refusal :=
  serve (.readText p h index) (readText p h index) s

/-- READ-NOTES (R21). -/
def execReadNotes (p : Port) (h : HandleField) (index : Byte) (s : State) : Host.Outcome State Fault Refusal :=
  serve (.readNotes p h index) (readNotes p h index) s

/-- READ-HISTORY (R22). -/
def execReadHistory (p : Port) (h : HandleField) (s : State) : Host.Outcome State Fault Refusal :=
  serve (.readHistory p h) (readHistory p h) s

/-- FIND (R23). -/
def execFind (p : Port) (station : StationField) (serial day : Half) (s : State) : Host.Outcome State Fault Refusal :=
  serve (.find p station serial day) (findMessage station serial day) s

end Sys2Proof.Machine
end

