-- ==== Sys2Proof/Machine/Entry.lean ====
section
/-! DEFINITION. Entering traffic: ENTER-BEGIN, APPEND-TEXT, ENTER-END, ENTER-CANCEL and the entry idle timeout
(chapter 2), with the slot and segment reserves they consult (3.4, 3.5). -/

namespace Sys2Proof.Machine

/-! ### ENTER-BEGIN -/

/-- A header whose every field is in range (R30). -/
structure Header where
  klass : Class
  origin : List Byte
  serial : Nat
  day : Nat
  hour : Nat
  minute : Nat
  area : Nat
  check : Option Nat
  deadline : Option Nat
  deriving DecidableEq, Repr

/-- The header of an ENTER-BEGIN, none when a field is outside its range (R30, R192). -/
def readEnterBegin (f : EnterBeginFields) : Option Header :=
  match readClass f.klass, readStation f.station with
  | some c, some origin =>
    if serialOk f.serial = true ∧ dayOk f.day = true ∧ f.hour.toNat ≤ 23 ∧ f.minute.toNat ≤ 59 ∧ f.area.toNat ≤ 4095
        ∧ optionalWithin 0 999 (readOptional f.check) = true ∧ optionalWithin 1 1440 (readOptional f.deadline) = true then
      some
        { klass := c, origin := origin, serial := f.serial.toNat, day := f.day.toNat, hour := f.hour.toNat
          minute := f.minute.toNat, area := f.area.toNat, check := readOptional f.check
          deadline := readOptional f.deadline }
    else none
  | _, _ => none

/-- The record of a message just begun on port p (R32). -/
def newMessage (p : Port) (hd : Header) : Message :=
  { klass := hd.klass, pendingUpgrade := none
    origin := hd.origin, serial := hd.serial, day := hd.day, hour := hd.hour, minute := hd.minute, area := hd.area
    declaredCheck := hd.check, deadline := hd.deadline
    entryPort := p, entry := none
    words := 0, truncated := false, substituted := false, text := [], notes := []
    token := 0, bounces := 0, adjust := 0, copies := 0
    custody := .filling, watchers := Vector.replicate 4 false, history := [], dropped := 0 }

/-- WELFARE and ROUTINE are the classes that the reserves hold back (R56, R57). -/
def Class.reserved : Class → Bool
  | .welfare => true
  | .routine => true
  | .urgent => false
  | .immediate => false

/-- The answer of the slot reserve to an ENTER-BEGIN of a class: a refusal, or none where it is allowed (R56). -/
def slotRefusal (c : Class) (s : State) : Option Result :=
  if Class.reserved c then
    if s.emptySlots + s.retainedRecords ≤ Config.slotReserve then some .storeLow else none
  else if s.emptySlots = 0 ∧ s.retained = [] then some .storeFull
  else none

/-- Where no slot is EMPTY the record at the head of the retained list is reclaimed (R56). -/
def makeRoom (s : State) : State :=
  match s.lowestEmpty with
  | some _ => s
  | none =>
    match s.retained with
    | [] => s
    | h :: _ => reclaim h.slot s

/-- The message is put into slot k and the entry of port p opened (R32). -/
def openEntry (p : Port) (hd : Header) (k : SlotNo) (s : State) : State :=
  (s.modSlot k (fun x => { x with record := some (newMessage p hd) })).modEntry p
    (fun _ => { filling := some { handle := s.handleOf k, lastActivity := s.seconds }, spaceCarry := true })

/-- ENTER-BEGIN at the Entry Unit (R31, R32). -/
def enterBegin (p : Port) (f : EnterBeginFields) (s : State) : Reply × State :=
  match (s.entryOf p).filling with
  | some e => answer .entryOpen (handleBytes (some e.handle)) s
  | none =>
    match readEnterBegin f with
    | none => refuse .badField s
    | some hd =>
      match slotRefusal hd.klass s with
      | some r => refuse r s
      | none =>
        match (makeRoom s).lowestEmpty with
        | none => refuse .storeFull s
        | some k =>
          answer .ok (handleBytes (some ((makeRoom s).handleOf k))) (openEntry p hd k (makeRoom s))

/-! ### APPEND-TEXT -/

/-- The characters of an append that are stored: the first of those offered, up to the room (R34, R36). -/
def storedChars (m : Message) (chars : List Byte) : List Byte :=
  (chars.take (Config.textLimit - m.text.length)).map substitute

/-- An append discards characters beyond the room (R36). -/
def discardsChars (m : Message) (chars : List Byte) : Bool :=
  decide (Config.textLimit - m.text.length < chars.length)

/-- An append replaces a character that it stores (R35). -/
def substitutesChar (m : Message) (chars : List Byte) : Bool :=
  (chars.take (Config.textLimit - m.text.length)).any (fun c => !printable c)

/-- The segment need of an append (R37). -/
def segmentNeed (m : Message) (chars : List Byte) : Nat :=
  textSegments (m.text.length + (storedChars m chars).length) - textSegments m.text.length

/-- The answer of the segment reserve to an append of n segments: a refusal, or none where it is allowed (R57). -/
def segmentRefusal (c : Class) (n : Nat) (s : State) : Option Result :=
  if n = 0 then none
  else if Class.reserved c then
    if s.freeSegments + s.retainedSegments < Config.segmentReserve + n then some .poolLow else none
  else if s.freeSegments + s.retainedSegments < n then some .poolFull
  else none

/-- An allowed request for n segments, 0 or 1, is met: records are reclaimed while the pool is empty, then the segment is
taken (R58). -/
def takeSegments (n : Nat) (s : State) : State :=
  if n = 0 then s
  else
    let s := reclaimForSegment s.retained s
    { s with freeSegments := s.freeSegments - n }

/-- The word count and the space carry over one stored character (R38). -/
def countChar (acc : Nat × Bool) (c : Byte) : Nat × Bool :=
  if c = 0x20 then (acc.1, true)
  else (if acc.2 then min (acc.1 + 1) Config.wordLimit else acc.1, false)

/-- The word count and the space carry over the stored characters, in order (R38). -/
def countWords (words : Nat) (carry : Bool) (stored : List Byte) : Nat × Bool :=
  stored.foldl countChar (words, carry)

/-- Characters are stored at the end of the text and the attributes and the word count updated (R34, steps 4 to 6). -/
def storeChars (m : Message) (chars : List Byte) (carry : Bool) : Message :=
  { m with
    text := m.text ++ storedChars m chars
    substituted := m.substituted || substitutesChar m chars
    truncated := m.truncated || discardsChars m chars
    words := (countWords m.words carry (storedChars m chars)).1 }

/-- The entry context after an append: the carry is updated and the last activity set to now (R34, steps 6 and 7). -/
def appendActivity (now : Nat) (m : Message) (chars : List Byte) (x : EntryContext) : EntryContext :=
  { filling := x.filling.map (fun e => { e with lastActivity := now })
    spaceCarry := (countWords m.words x.spaceCarry (storedChars m chars)).2 }

/-- An append that the reserve has allowed (R34). -/
def appendAccepted (p : Port) (k : SlotNo) (m : Message) (chars : List Byte) (s : State) : Reply × State :=
  let carry := (s.entryOf p).spaceCarry
  let m' := storeChars m chars carry
  let s := takeSegments (segmentNeed m chars) s
  let s := s.modRecord k (fun m => storeChars m chars carry)
  let s := s.modEntry p (appendActivity s.seconds m chars)
  answer .ok (be1 (storedChars m chars).length ++ be2 m'.text.length ++ be2 m'.words) s

/-- APPEND-TEXT at the Entry Unit (R33, R34). -/
def appendText (p : Port) (h : HandleField) (chars : List Byte) (s : State) : Reply × State :=
  withHandle h (fun k s =>
    if chars.length = 0 ∨ 40 < chars.length then refuse .badField s
    else
      match s.record k with
      | none => refuse .wrongState s
      | some m =>
        if m.custody ≠ .filling then refuse .wrongState s
        else if m.entryPort ≠ p then refuse .notYours s
        else
          match segmentRefusal m.klass (segmentNeed m chars) s with
          | some r => refuse r s
          | none => appendAccepted p k m chars s) s

/-! ### ENTER-END and ENTER-CANCEL -/

/-- The conditions that ENTER-END and ENTER-CANCEL share (R39, R46). -/
def onOwnEntry (p : Port) (h : HandleField) (act : SlotNo → Message → State → Reply × State) (s : State) :
    Reply × State :=
  withHandle h (fun k s =>
    match s.record k with
    | none => refuse .wrongState s
    | some m =>
      if m.custody ≠ .filling then refuse .wrongState s
      else if m.entryPort ≠ p then refuse .notYours s
      else act k m s) s

/-- The check status of a message whose entry ends (R40). -/
def checkStatus (m : Message) : CheckStatus :=
  match m.declaredCheck with
  | none => .notDeclared
  | some n => if n = m.words then .agrees else .disagrees

/-- The existing message after a duplicate copy of class c: copies heard advances, and a higher class raises it or is
recorded as its pending upgrade (R42). -/
def creditCopy (c : Class) (m : Message) : Message :=
  let m := { m with copies := min (m.copies + 1) 15 }
  if Class.higher c m.klass then
    match m.custody with
    | .queued => { m with klass := c }
    | .held _ => { m with klass := c }
    | .handed _ _ _ | .suspended _ _ _ =>
      { m with pendingUpgrade := some (match m.pendingUpgrade with
          | none => c
          | some d => Class.highest d c) }
    | .disposed _ _ | .filling | .void => m
  else m

/-- The existing message in slot k is changed by a duplicate copy of class c: STATE-CHANGE where its class or pending
upgrade changed, then the break-in check where a QUEUED message was raised (R42). -/
def creditDuplicate (k : SlotNo) (c : Class) (s : State) : State :=
  match s.record k with
  | none => s
  | some m =>
    let m' := creditCopy c m
    let s := s.modRecord k (creditCopy c)
    let s := if m'.klass ≠ m.klass ∨ m'.pendingUpgrade ≠ m.pendingUpgrade then notifyWatchers k s else s
    if m'.klass ≠ m.klass then
      match s.queueOf k with
      | some q => breakInCheck q s
      | none => s
    else s

/-- The entry number after n: 4,294,967,295 is followed by 1 (R8). -/
def nextNumber (n : Nat) : Nat := if Config.entryNumberLimit ≤ n then 1 else n + 1

/-- An entry number belongs to a live message (R8). -/
def State.numberInUse (s : State) (n : Nat) : Bool :=
  allSlots.any (fun k =>
    match s.record k with
    | some m =>
      match m.entry with
      | some e => decide (e.number = n)
      | none => false
    | none => false)

/-- The number that the counter assigns: values of live messages are passed over (R8). At most 192 values are in use, so
after 192 passings the value is free. -/
def assignNumber (s : State) : Nat → Nat → Nat
  | 0, n => n
  | tries + 1, n => if s.numberInUse n then assignNumber s tries (nextNumber n) else n

/-- The entry number that an acceptance receives now (R8). -/
def State.numberToGive (s : State) : Nat := assignNumber s 192 s.nextEntryNumber

/-- A delivery deadline in minutes converted to a time in seconds (R6, R43). -/
def convertDeadline (now minutes : Nat) : Nat := heldTime (now + minutes * 60)

/-- The record that an accepting ENTER-END makes of a FILLING message: its entry fields, the converted deadline and
ENTERED in its history (R43). -/
def acceptMessage (now number : Nat) (m : Message) : Message :=
  Message.log now (some m.entryPort) .entered
    { m with
      entry := some { time := now, number := number, check := checkStatus m }
      deadline := m.deadline.map (convertDeadline now) }

/-- The message in slot k is accepted: its entry fields are set, the counter advances and the entry of port p ends
(R43). -/
def accept (p : Port) (k : SlotNo) (s : State) : State :=
  let n := s.numberToGive
  closeEntry p { s.modRecord k (acceptMessage s.seconds n) with nextEntryNumber := nextNumber n }

/-- The accepted message is placed: HELD(UNROUTED), HELD(DEADLINE-PASSED) or in a queue (R44). -/
def place (p : Port) (k : SlotNo) (s : State) : State :=
  match s.record k with
  | none => s
  | some m =>
    match s.resolve m.area with
    | none => reportHeld k (holdFor k .unrouted (some p) s)
    | some q =>
      if Message.deadlinePassed s.seconds m = true then reportHeld k (holdFor k .deadlinePassed (some p) s)
      else joinQueue k q s

/-- The payload of an ENTER-END answered OK (R45). -/
def acceptedBytes (s : State) (k : SlotNo) : List Byte :=
  match s.record k with
  | none => []
  | some m =>
    handleBytes (some (s.handleOf k)) ++ placementBytes s k m ++ be4 (Message.number m) ++ be4 (Message.enteredAt m)
      ++ be2 m.words ++ be1 (CheckStatus.code (m.entry.map (fun e => e.check))) ++ be2 m.text.length
      ++ attributesByte m.truncated m.substituted

/-- The payload of an ENTER-END answered DUPLICATE (R41). -/
def duplicateBytes (s : State) (k : SlotNo) : List Byte :=
  match s.record k with
  | none => []
  | some m =>
    handleBytes (some (s.handleOf k)) ++ be1 m.custody.name.code ++ classByte (some m.klass) ++ classByte m.pendingUpgrade
      ++ be1 m.copies

/-- ENTER-END at the Entry Unit: the duplicate search, then DUPLICATE or acceptance and placement (R39 to R45). -/
def enterEnd (p : Port) (h : HandleField) (s : State) : Reply × State :=
  onOwnEntry p h (fun k m s =>
    match s.keyHolder m.origin m.serial m.day with
    | some held =>
      let s := closeEntry p (freeSlot k (creditDuplicate held m.klass s))
      answer .duplicate (duplicateBytes s held) s
    | none =>
      let s := place p k (accept p k s)
      answer .ok (acceptedBytes s k) s) s

/-- ENTER-CANCEL at the Entry Unit (R46). -/
def enterCancel (p : Port) (h : HandleField) (s : State) : Reply × State :=
  onOwnEntry p h (fun k m s =>
    answer .ok (handleBytes (some (s.handleOf k)) ++ be2 m.segments) (closeEntry p (freeSlot k s))) s

/-! ### The commands -/

/-- ENTER-BEGIN (R31, R32). -/
def execEnterBegin (p : Port) (f : EnterBeginFields) (s : State) : Host.Outcome State Fault Refusal :=
  serve (.enterBegin p f) (enterBegin p f) s

/-- APPEND-TEXT (R33, R34). -/
def execAppendText (p : Port) (h : HandleField) (chars : List Byte) (s : State) : Host.Outcome State Fault Refusal :=
  serve (.appendText p h chars) (appendText p h chars) s

/-- ENTER-END (R39 to R45). -/
def execEnterEnd (p : Port) (h : HandleField) (s : State) : Host.Outcome State Fault Refusal :=
  serve (.enterEnd p h) (enterEnd p h) s

/-- ENTER-CANCEL (R46). -/
def execEnterCancel (p : Port) (h : HandleField) (s : State) : Host.Outcome State Fault Refusal :=
  serve (.enterCancel p h) (enterCancel p h) s

/-- ENTRY_IDLE_TIMEOUT (R47, R184). -/
def execEntryIdleTimeout (s : State) : Host.Outcome State Fault Refusal := whenPowered takeEntryTick s

end Sys2Proof.Machine
end

