-- ==== Sys2Proof/Machine/NetControl.lean ====
section
/-! DEFINITION. Net control: HOLD, RELEASE, VOID, AMEND and ADD-NOTE (chapter 8). -/

namespace Sys2Proof.Machine

/-! ### HOLD -/

/-- A HOLD of the QUEUED message in slot k, in the order of R146: the departure from its queue, HELD(CONTROL), the
history, then STATE-CHANGE (log entry 13). -/
def holdMessage (k : SlotNo) (by_ : Port) (s : State) : State :=
  let q := s.queueOf k
  let s := s.modRecord k (fun m => { m with custody := .held .control })
  let s := match q with
    | some q => departed q (s.handleOf k) s
    | none => s
  notifyWatchers k (s.modRecord k (Message.log s.seconds (some by_) .held))

/-- HOLD at the store (R145, R146). -/
def hold (p : Port) (h : HandleField) (s : State) : Reply × State :=
  controlOnly p (withHandle h (fun k s =>
    match s.record k with
    | none => refuse .wrongState s
    | some m =>
      if Message.inHand m = true then refuse .inHand s
      else if m.custody = .queued then
        answer .ok
          (handleBytes (some (s.handleOf k)) ++ be1 StateName.held.code ++ reasonByte (some .control)
            ++ portByte (s.queueOf k)) (holdMessage k p s)
      else refuse .wrongState s)) s

/-! ### RELEASE -/

/-- The HELD message after steps 1 to 3 of R148: bounce count 0, the deadline of a DEADLINE-PASSED hold removed, a pending
upgrade applied. -/
def Message.released (m : Message) : Message :=
  Message.applyUpgrade
    { m with
      bounces := 0
      deadline := if m.custody = .held .deadlinePassed then none else m.deadline }

/-- A RELEASE that leaves the message HELD with a new reason: RELEASED then HELD, STATE-CHANGE only where its class
changed, and the HELD notice (R148, steps 4 and 6). -/
def holdAgain (k : SlotNo) (reason : HoldReason) (by_ : Port) (classChanged : Bool) (s : State) : State :=
  let s := holdFor k reason (some by_) (s.modRecord k (Message.log s.seconds (some by_) .released))
  reportHeld k (if classChanged then notifyWatchers k s else s)

/-- A RELEASE that is taken acts on the HELD message m in slot k; the result is OK or UNROUTED (R148). -/
def releaseMessage (k : SlotNo) (by_ : Port) (m : Message) (s : State) : Result × State :=
  let m' := Message.released m
  let changed := !decide (m'.klass = m.klass)
  let s := s.modRecord k Message.released
  if Message.deadlinePassed s.seconds m' = true then (.ok, holdAgain k .deadlinePassed by_ changed s)
  else
    match s.resolve m'.area with
    | some q => (.ok, joinQueue k q (s.modRecord k (Message.log s.seconds (some by_) .released)))
    | none => (.unrouted, holdAgain k .unrouted by_ changed s)

/-- The payload of a RELEASE that is taken (R148). -/
def releaseBytes (s : State) (k : SlotNo) : List Byte :=
  match s.record k with
  | none => []
  | some m =>
    handleBytes (some (s.handleOf k)) ++ classByte (some m.klass) ++ be1 m.bounces ++ placementBytes s k m

/-- RELEASE at the store (R147, R148). -/
def release (p : Port) (h : HandleField) (s : State) : Reply × State :=
  controlOnly p (withHandle h (fun k s =>
    match s.record k with
    | none => refuse .wrongState s
    | some m =>
      if Message.inHand m = true then refuse .inHand s
      else if m.custody.reason.isSome = true then
        let r := releaseMessage k p m s
        answer r.1 (releaseBytes r.2 k) r.2
      else refuse .wrongState s)) s

/-! ### VOID -/

/-- The message in slot k becomes VOID: VOIDED in its history, its handle at the tail of the retained list, STATE-CHANGE to
its watchers (R149). -/
def becomeVoid (k : SlotNo) (by_ : Port) (s : State) : State :=
  let s := s.modRecord k (fun m => Message.log s.seconds (some by_) .voided { m with custody := .void })
  notifyWatchers k (retain (s.handleOf k) s)

/-- The record of h's stack that names a voided message is flagged revoked and keeps its place (R134). -/
def revokeRecord (p : Port) (h : Handle) (s : State) : State :=
  s.modBreakin p (fun b =>
    { b with stack := b.stack.map (fun r => if r.handle = h ∧ r.revoked = false then { r with revoked := true } else r) })

/-- A VOID acts on the message m in slot k (R149 to R151): out of a queue, a break-in that names it is withdrawn before it
becomes VOID, and the BREAK-IN of the renewed check follows its STATE-CHANGE (R150; log entry 14). In a full queue that
BREAK-IN has the place of the withdrawn one, as R164 says, and the STATE-CHANGE is the notice that is discarded (log entry
29). -/
def voidMessage (k : SlotNo) (by_ : Port) (m : Message) (s : State) : State :=
  let h := s.handleOf k
  match m.custody with
  | .queued =>
    match s.queueOf k with
    | some q => leaveQueue q h (becomeVoid k by_) s
    | none => becomeVoid k by_ s
  | .handed p _ _ =>
    settleFences s.outstanding
      (becomeVoid k by_ (post p .revoked (some h) (.token m.token) (clearActive p s)))
  | .suspended p _ _ =>
    settleFences s.outstanding
      (becomeVoid k by_ (post p .revoked (some h) (.token m.token) (revokeRecord p h s)))
  | .held _ | .filling | .disposed _ _ | .void => becomeVoid k by_ s

/-- The payload of a VOID answered OK: the handle, the state before and, of a message in custody, holder and token
(R149). -/
def voidBytes (h : Handle) (m : Message) : List Byte :=
  handleBytes (some h) ++ be1 m.custody.name.code ++ portByte m.custody.holder
    ++ be1 (if m.custody.holder.isSome then m.token.toNat else 0)

/-- VOID at the store (R149). -/
def void (p : Port) (h : HandleField) (s : State) : Reply × State :=
  controlOnly p (withHandle h (fun k s =>
    match s.record k with
    | none => refuse .wrongState s
    | some m =>
      if Message.inTraffic m = true then answer .ok (voidBytes (s.handleOf k) m) (voidMessage k p m s)
      else refuse .wrongState s)) s

/-! ### AMEND -/

/-- An adjust clamped to its range (R152). -/
def clampAdjust (x : Int) : Int := if x < -4096 then -4096 else if 4095 < x then 4095 else x

/-- The class of a QUEUED or HELD message is set and a pending upgrade removed (R153). -/
def amendClass (k : SlotNo) (c : Class) (m : Message) (s : State) : State :=
  let s := s.modRecord k (fun m => { m with klass := c, pendingUpgrade := none })
  let s := if c ≠ m.klass ∨ m.pendingUpgrade ≠ none then notifyWatchers k s else s
  match s.queueOf k with
  | none => s
  | some q =>
    if Class.higher c m.klass = true then breakInCheck q s
    else if Class.higher m.klass c = true then
      match s.activeClass q with
      | none => s
      | some a => if Class.higher c a then s else departed q (s.handleOf k) s
    else s

/-- The class and adjust that an AMEND carries; the class is none where its byte is no class (R152, R192). -/
def AmendFields.hasClass (f : AmendFields) : Bool := f.presence.getLsbD 0
/-- An adjust is present (R152). -/
def AmendFields.hasAdjust (f : AmendFields) : Bool := f.presence.getLsbD 1

/-- The payload of an AMEND answered OK (R152). -/
def amendBytes (s : State) (k : SlotNo) (clamped : Bool) : List Byte :=
  match s.record k with
  | none => []
  | some m =>
    handleBytes (some (s.handleOf k)) ++ be1 m.custody.name.code ++ classByte (some m.klass) ++ classByte m.pendingUpgrade
      ++ be2 (twos 16 m.adjust) ++ boolByte clamped

/-- An AMEND that is taken: the adjust as R154 gives, then the class as R153 gives (R152; log entry 25). -/
def amendMessage (k : SlotNo) (f : AmendFields) (m : Message) (s : State) : State :=
  let s :=
    if AmendFields.hasAdjust f then s.modRecord k (fun m => { m with adjust := clampAdjust f.adjust.toInt }) else s
  match AmendFields.hasClass f, readClass f.klass with
  | true, some c => amendClass k c m s
  | _, _ => s

/-- AMEND at the store (R152). -/
def amend (p : Port) (f : AmendFields) (s : State) : Reply × State :=
  controlOnly p (fun s =>
    if (AmendFields.hasClass f = false ∧ AmendFields.hasAdjust f = false)
        ∨ (AmendFields.hasClass f = true ∧ readClass f.klass = none) then refuse .badField s
    else
      withHandle f.handle (fun k s =>
        match s.record k with
        | none => refuse .wrongState s
        | some m =>
          if Message.inTraffic m = false then refuse .wrongState s
          else if AmendFields.hasClass f = true ∧ Message.inHand m = true then refuse .inHand s
          else
            let s := amendMessage k f m s
            answer .ok
              (amendBytes s k (AmendFields.hasAdjust f && !decide (clampAdjust f.adjust.toInt = f.adjust.toInt))) s) s) s

/-! ### ADD-NOTE -/

/-- A note joins the end of a message's notes, with characters outside 20h to 7Eh stored as "?" (R155). -/
def noted (chars : List Byte) (m : Message) : Message :=
  { m with
    notes := m.notes ++ [chars.map substitute]
    substituted := m.substituted || chars.any (fun c => !printable c) }

/-- ADD-NOTE at the store (R155). -/
def addNote (p : Port) (h : HandleField) (chars : List Byte) (s : State) : Reply × State :=
  controlOnly p (withHandle h (fun k s =>
    if chars.length = 0 ∨ 40 < chars.length then refuse .badField s
    else
      match s.record k with
      | none => refuse .wrongState s
      | some m =>
        if Message.inTraffic m = false then refuse .wrongState s
        else if Config.noteLimit ≤ m.notes.length then refuse .notesFull s
        else if s.freeSegments + s.retainedSegments < 1 then refuse .poolFull s
        else
          let s := notifyWatchers k ((takeSegments 1 s).modRecord k (noted chars))
          answer .ok
            (handleBytes (some (s.handleOf k)) ++ be1 m.notes.length ++ be1 (m.notes.length + 1)
              ++ boolByte (chars.any (fun c => !printable c))) s)) s

/-- HOLD (R145). -/
def execHold (p : Port) (h : HandleField) (s : State) : Host.Outcome State Fault Refusal :=
  serve (.hold p h) (hold p h) s

/-- RELEASE (R147). -/
def execRelease (p : Port) (h : HandleField) (s : State) : Host.Outcome State Fault Refusal :=
  serve (.release p h) (release p h) s

/-- VOID (R149). -/
def execVoid (p : Port) (h : HandleField) (s : State) : Host.Outcome State Fault Refusal :=
  serve (.void p h) (void p h) s

/-- AMEND (R152). -/
def execAmend (p : Port) (f : AmendFields) (s : State) : Host.Outcome State Fault Refusal :=
  serve (.amend p f) (amend p f) s

/-- ADD-NOTE (R155). -/
def execAddNote (p : Port) (h : HandleField) (chars : List Byte) (s : State) : Host.Outcome State Fault Refusal :=
  serve (.addNote p h chars) (addNote p h chars) s

end Sys2Proof.Machine
end

