-- ==== Sys2Proof/Machine/NoticeUnit.lean ====
section
/-! DEFINITION. WATCH and NOTICES (chapter 9). -/

namespace Sys2Proof.Machine

/-- Port p is made a member of a watcher set, or not a member (R159). -/
def setWatcher (p : Port) (on : Bool) (m : Message) : Message :=
  { m with watchers := m.watchers.set p.val on p.isLt }

/-- WATCH at the store (R159). -/
def watch (p : Port) (h : HandleField) (value : Byte) (s : State) : Reply × State :=
  match readFlag value with
  | none => refuse .badField s
  | some on =>
    withHandle h (fun k s =>
      match s.record k with
      | none => refuse .wrongState s
      | some m =>
        if m.custody = .filling then refuse .wrongState s
        else
          answer .ok
            (handleBytes (some (s.handleOf k)) ++ be1 m.custody.name.code ++ classByte (some m.klass)
              ++ be1 (portBits (setWatcher p on m).watchers))
            (s.modRecord k (setWatcher p on))) s

/-- A notice queue after a fetch: the oldest notices, up to 4, are gone and the flag is cleared (R166). -/
def NoticeQueue.fetched (q : NoticeQueue) : NoticeQueue :=
  { items := q.items.drop Config.noticesPerFetch, overrun := false }

/-- The payload of NOTICES: the number returned, the count left, the flag that is cleared, the notices (R166, 11.6). -/
def fetchBytes (q : NoticeQueue) : List Byte :=
  be1 (q.items.take Config.noticesPerFetch).length ++ be1 (q.items.drop Config.noticesPerFetch).length
    ++ boolByte q.overrun ++ ((q.items.take Config.noticesPerFetch).map noticeBytes).flatten

/-- NOTICES at the Notice Unit (R166). -/
def notices (p : Port) (s : State) : Reply × State :=
  answer .ok (fetchBytes (s.noticeQueue p)) (s.modNoticeQueue p NoticeQueue.fetched)

/-- WATCH (R159). -/
def execWatch (p : Port) (h : HandleField) (value : Byte) (s : State) : Host.Outcome State Fault Refusal :=
  serve (.watch p h value) (watch p h value) s

/-- NOTICES (R166). -/
def execNotices (p : Port) (s : State) : Host.Outcome State Fault Refusal :=
  serve (.notices p) (notices p) s

end Sys2Proof.Machine
end

