-- ==== Sys2Proof/Machine/Ports.lean ====
section
/-! DEFINITION. The station ports: SELECT_FALL, EXCHANGE and NOP (chapter 10). -/

namespace Sys2Proof.Machine

/-- Port p takes exchanges: its port reset line is released and the device reset input is not asserted (R171, R181,
R188). -/
def State.takesExchanges (s : State) (p : Port) : Bool := !(s.port p).resetLine && !s.deviceReset

/-- The frame that port p shifts out when an exchange begins now (R172). -/
def chooseFrame (s : State) (p : Port) : Exchange :=
  match (s.port p).exchangeState, (s.port p).lastDelivered with
  | .ready r, _ => { choice := .held, frame := responseFrame r (statusBits s p false) }
  | .idle, some r => { choice := .repeated, frame := responseFrame r (statusBits s p true) }
  | .idle, none => { choice := .filler, frame := responseFrame filler (statusBits s p false) }
  | .working _, _ => { choice := .filler, frame := responseFrame filler (statusBits s p false) }

/-- A fall of select begins an exchange (R171, R172). A fall while an exchange is in progress changes nothing (log entry
8). -/
def beginExchange (p : Port) (s : State) : State :=
  if s.takesExchanges p = true ∧ (s.port p).exchange = none then
    s.modPort p (fun x => { x with exchange := some (chooseFrame s p) })
  else s

/-- SELECT_FALL (R172, R173). -/
def execSelectFall (p : Port) (s : State) : Host.Outcome State Fault Refusal := whenPowered (beginExchange p) s

/-- What the bytes that arrived in an exchange are judged to be (R175). -/
inductive Judgement where
  | noRequest
  /-- A frame that the port answers itself. -/
  | answered (response : Response)
  /-- A request for its owning block. -/
  | request (request : Request)
  deriving DecidableEq, Repr

/-- A response that the port forms itself, without payload (R175, R176). -/
def portAnswer (code tag : Byte) (result : Result) : Judgement :=
  .answered { code := code, tag := tag, result := result, payload := [] }

/-- The judgement of the bytes that arrived (R175, R191). -/
def judge (bytes : List Byte) : Judgement :=
  match bytes with
  | [] => .noRequest
  | code :: rest =>
    if code = 0 then .noRequest
    else
      match rest with
      | tag :: len :: payload =>
        if Config.payloadLimit < len.toNat then portAnswer code tag .badFrame
        else if payload.length < len.toNat then portAnswer 0 0 .frameShort
        else
          match acceptedLength code with
          | none => portAnswer code tag .badRequest
          | some (lo, hi) =>
            if lo ≤ len.toNat ∧ len.toNat ≤ hi then
              .request { code := code, tag := tag, payload := payload.take len.toNat }
            else portAnswer code tag .badFrame
      | _ => portAnswer 0 0 .frameShort

/-- At the rise of select a held response that went out whole is delivered (R174). -/
def judgeDelivery (e : Exchange) (clocked : Nat) (x : StationPort) : StationPort :=
  match x.exchangeState with
  | .ready r =>
    if e.choice = .held ∧ e.frame.length ≤ clocked then
      { x with exchangeState := .idle, lastDelivered := some r, requestOverrun := false }
    else x
  | .idle => x
  | .working _ => x

/-- A frame judged a request is taken by an IDLE port and discarded by any other, with REQUEST-OVERRUN set (R176, R177). -/
def takeFrame (j : Judgement) (x : StationPort) : StationPort :=
  match j with
  | .noRequest => x
  | .answered r =>
    if x.exchangeState = .idle then { x with exchangeState := .ready r } else { x with requestOverrun := true }
  | .request rq =>
    if x.exchangeState = .idle then { x with exchangeState := .working rq } else { x with requestOverrun := true }

/-- The bytes that go out when n bytes are clocked: the frame, then 00h (R172). -/
def shiftedOut (frame : List Byte) (n : Nat) : List Byte := (frame ++ List.replicate n 0).take n

/-- A rise of select ends the exchange in progress: as many bytes go out as come in, delivery is judged, then the request
(R171, R174, R177). A rise with no exchange in progress has no effect (R171). -/
def endExchange (p : Port) (bytes : List Byte) (s : State) : State :=
  match (s.port p).exchange with
  | none => s
  | some e =>
    s.modPort p (fun x =>
      { takeFrame (judge bytes) (judgeDelivery e bytes.length x) with
        exchange := none
        lastOut := shiftedOut e.frame bytes.length })

/-- EXCHANGE (R174, R175, R177). The bits of a group of eight that was not completed move no byte and are dropped
(R171). -/
def execExchange (p : Port) (bytes : List Byte) (_extraBits : Nat) (s : State) : Host.Outcome State Fault Refusal :=
  whenPowered (endExchange p bytes) s

/-- NOP is answered OK with no payload (R179). -/
def execNop (p : Port) (s : State) : Host.Outcome State Fault Refusal :=
  serve (.nop p) (answer .ok []) s

end Sys2Proof.Machine
end

