-- ==== Sys2Proof/Machine/Routing.lean ====
section
/-! DEFINITION. The requests of the Route Unit: ROUTE-SET, ROUTE-CLEAR, ROUTE-READ, DEFAULT-ROUTE, LINK-STATE and FENCE
(chapter 4). -/

namespace Sys2Proof.Machine

/-- A change of the routing state by a request taken on port `by_`: where it alters the state it is a routing change and
has the effects of R74 to R77; the answer carries the account of R72. -/
def changeRouting (by_ : Port) (changes : Bool) (update : State → State) (s : State) : Reply × State :=
  if changes then
    let r := routingEffects by_ s (update s)
    answer .ok (boolByte true ++ be1 r.1.outstanding ++ be1 r.2.moved ++ be1 r.2.held ++ be1 r.2.released) r.1
  else answer .ok (boolByte false ++ be1 s.outstanding ++ be1 0 ++ be1 0 ++ be1 0) s

/-- An index of the route table; above 23 is none (R68). -/
def readIndex (b : Byte) : Option (Fin 24) :=
  if h : b.toNat < 24 then some ⟨b.toNat, h⟩ else none

/-- A route entry of the table (R64). -/
def State.route (s : State) (i : Fin 24) : RouteEntry := s.routes.get i

/-- Write a route entry. -/
def setRoute (i : Fin 24) (e : RouteEntry) (s : State) : State := { s with routes := vmod s.routes i (fun _ => e) }

/-- ROUTE-SET at the Route Unit (R67, R68). -/
def routeSet (p : Port) (index : Byte) (first last : Half) (port : Byte) : State → Reply × State :=
  controlOnly p (fun s =>
    match readIndex index, readPort port with
    | some i, some q =>
      if first.toNat ≤ 4095 ∧ last.toNat ≤ 4095 ∧ first.toNat ≤ last.toNat then
        let e : RouteEntry := { first := first.toNat, last := last.toNat, port := q, valid := true }
        changeRouting p (!decide (s.route i = e)) (setRoute i e) s
      else refuse .badField s
    | _, _ => refuse .badField s)

/-- ROUTE-CLEAR at the Route Unit (R67, R69). -/
def routeClear (p : Port) (index : Byte) : State → Reply × State :=
  controlOnly p (fun s =>
    match readIndex index with
    | some i => changeRouting p (s.route i).valid (setRoute i { s.route i with valid := false }) s
    | none => refuse .badField s)

/-- A default route as DEFAULT-ROUTE gives it: FFh is none (R192); the outer option is none for a value that is neither
(R70). -/
def readDefaultRoute (b : Byte) : Option (Option Port) :=
  if b.toNat = 255 then some none else (readPort b).map some

/-- DEFAULT-ROUTE at the Route Unit (R67, R70). -/
def defaultRoute (p : Port) (port : Byte) : State → Reply × State :=
  controlOnly p (fun s =>
    match readDefaultRoute port with
    | some d => changeRouting p (!decide (s.defaultRoute = d)) (fun s => { s with defaultRoute := d }) s
    | none => refuse .badField s)

/-- Set the link of a port UP or DOWN (R65). -/
def setLink (q : Port) (up : Bool) (s : State) : State := { s with links := vmod s.links q (fun _ => up) }

/-- LINK-STATE at the Route Unit (R67, R71). -/
def linkState (p : Port) (port state : Byte) (s : State) : Reply × State :=
  match readPort port, readFlag state with
  | some q, some up =>
    if q ≠ p ∧ s.isControl p = false then refuse .notControl s
    else changeRouting p (!decide (s.linkUp q = up)) (setLink q up) s
  | _, _ => refuse .badField s

/-- ROUTE-READ at the Route Unit (R73). -/
def routeRead (start : Byte) (area : Half) (s : State) : Reply × State :=
  if 23 < start.toNat then refuse .badField s
  else if optionalWithin 0 4095 (readOptional area) = true then
    let entries := (s.routes.toList.drop start.toNat).take Config.entriesPerRead
    answer .ok
      ([start] ++ be1 entries.length ++ (entries.map routeEntryBytes).flatten ++ portByte s.defaultRoute
        ++ be1 (portBits s.links) ++ be1 s.outstanding
        ++ resolutionBytes ((readOptional area).bind s.resolveBy)) s
  else refuse .badField s

/-- FENCE at the Route Unit (R79); the response reports complete or not, then the count (log entry 26). -/
def fence (p : Port) (s : State) : Reply × State :=
  if s.outstanding = 0 then answer .ok (boolByte true ++ be1 0) s
  else
    answer .ok (boolByte false ++ be1 s.outstanding) { s with fences := vmod s.fences p (fun _ => true) }

/-- ROUTE-SET (R68). -/
def execRouteSet (p : Port) (index : Byte) (first last : Half) (port : Byte) (s : State) :
    Host.Outcome State Fault Refusal :=
  serve (.routeSet p index first last port) (routeSet p index first last port) s

/-- ROUTE-CLEAR (R69). -/
def execRouteClear (p : Port) (index : Byte) (s : State) : Host.Outcome State Fault Refusal :=
  serve (.routeClear p index) (routeClear p index) s

/-- ROUTE-READ (R73). -/
def execRouteRead (p : Port) (start : Byte) (area : Half) (s : State) : Host.Outcome State Fault Refusal :=
  serve (.routeRead p start area) (routeRead start area) s

/-- DEFAULT-ROUTE (R70). -/
def execDefaultRoute (p : Port) (port : Byte) (s : State) : Host.Outcome State Fault Refusal :=
  serve (.defaultRoute p port) (defaultRoute p port) s

/-- LINK-STATE (R71). -/
def execLinkState (p : Port) (port state : Byte) (s : State) : Host.Outcome State Fault Refusal :=
  serve (.linkState p port state) (linkState p port state) s

/-- FENCE (R79). -/
def execFence (p : Port) (s : State) : Host.Outcome State Fault Refusal :=
  serve (.fence p) (fence p) s

end Sys2Proof.Machine
end

