-- ==== Sys2Proof/Machine/TimeAndResets.lean ====
section
/-! DEFINITION. The time base and the reset inputs: CLOCK-READ, TICK, the port reset, the warm reset, the cold reset, the
releases of the reset lines and the supply (10.7 to 10.9). -/

namespace Sys2Proof.Machine

/-! ### The time base -/

/-- The divisor that the time-base straps select (R183). -/
def State.divisor (s : State) : Nat :=
  match s.timeBase0, s.timeBase1 with
  | false, false => 32768
  | true, false => 1000000
  | false, true => 3686400
  | true, true => 10000000

/-- CLOCK-READ at the Time Base (R185). -/
def clockRead (s : State) : Reply × State :=
  answer .ok (be4 s.seconds ++ boolByte (decide (s.seconds = Config.timeLimit)) ++ be4 s.divisor) s

/-- The divider completes a second: it returns to 0, the seconds count advances and the tick is handed to the blocks that
keep timers; a saturated count does not advance and gives no tick (R183, R184). What a block has still to take of the
tick before it takes first, with the count of that tick (log entry 3). -/
def tickOnce (s : State) : State :=
  if s.seconds < Config.timeLimit then
    let s := takeTicks s
    { s with seconds := s.seconds + 1, divider := 0, entryTick := true, leaseTick := true, deadlineTick := true }
  else s

/-! ### The port reset -/

/-- A port's exchange is abandoned, its request dropped or its response discarded, and it is IDLE (R170, R181). -/
def resetStationPort (x : StationPort) : StationPort :=
  { x with exchangeState := .idle, lastDelivered := none, requestOverrun := false, exchange := none }

/-- The custody of a message ended by a reset: its token advances and REQUEUED is appended with its holder (R119,
R120). -/
def requeued (now : Nat) (holder : Port) (m : Message) : Message :=
  Message.log now (some holder) .requeued { m with token := m.token + 1 }

/-- The return of one handoff of p at its port reset (R119). It joins its queue as R98 gives, with QUEUE-READY where the queue
is empty before the join; where the change of p's link at this port reset has emptied that queue, R100, which looks at the
queue before the whole event, can be read as sending none (DESIGN CHOICE, log entry 28). -/
def returnAtReset (p : Port) (s : State) (h : Handle) : State :=
  returnToQueue h.slot p (s.modRecord h.slot (requeued s.seconds p))

/-- The handoffs of p that its port reset returns, in order: the active one, then the non-revoked records from the top of
the stack down (R119, R140). -/
def State.handoffsOf (s : State) (p : Port) : List Handle :=
  ((s.breakin p).active.map (fun a => a.handle)).toList
    ++ ((s.breakin p).stack.filter (fun r => !r.revoked)).map (fun r => r.handle)

/-- p's link is set UP, a routing change where it was DOWN (R81). -/
def raiseLink (p : Port) (s : State) : State :=
  if s.linkUp p then s else (routingEffects p s (setLink p true s)).1

/-- p leaves the watcher set of every record (R26, R158). -/
def unwatch (p : Port) (s : State) : State :=
  { s with slots := vmap (fun x =>
      { x with record := x.record.map (fun m => { m with watchers := m.watchers.set p.val false p.isLt }) }) s.slots }

/-- The port reset of p at the Break-in Unit and the Dispatch Unit: the enable off and no break-in pending, then the
returns; marks are judged after all of them (R119, R140, R81). What the checks of the returns set of the sticky flags does
not outlast the port reset (log entry 27). -/
def returnHandoffs (p : Port) (s : State) : State :=
  let handles := s.handoffsOf p
  let before := s.outstanding
  let s := s.modBreakin p (fun _ => BreakIn.cleared)
  settleFences before (handles.foldl (returnAtReset p) s)

/-- The port reset of p: the effects at every block, in the order of log entry 16 (R181, R182). The sticky flags of every
queue end as they stood, also where the checks of the routing change and of the returns evaluate: R89 and R182 say so,
R88, R126 and R140 can be read otherwise (DESIGN CHOICE, log entry 27). -/
def resetPort (p : Port) (s : State) : State :=
  let flags := s.flags
  let s := s.modPort p (fun x => { resetStationPort x with resetLine := true })
  let s := abandonEntry p s
  let s := s.modBreakin p (fun b => { b with enable := false, pending := none })
  let s := { s with fences := vmod s.fences p (fun _ => false) }
  let s := raiseLink p s
  let s := returnHandoffs p s
  { (unwatch p s).modNoticeQueue p (fun _ => NoticeQueue.empty) with flags := flags }

/-- The assertion of p's port reset line; a tick that came before it is taken before it (log entry 22). Asserting the line
while it is asserted has no effect (R181). -/
def assertPortReset (p : Port) (s : State) : State :=
  if (s.port p).resetLine then s else resetPort p (takeTicks s)

/-! ### The warm reset -/

/-- A HANDED or SUSPENDED message at a warm reset: its custody ends, and its pending upgrade is applied and its deadline
tested (R120). -/
def warmReturn (now : Nat) (m : Message) : Message :=
  match m.custody.holder with
  | none => m
  | some p =>
    let m := Message.applyUpgrade (requeued now p m)
    if Message.deadlinePassed now m = true then
      Message.log now (some p) .held { m with custody := .held .deadlinePassed }
    else { m with custody := .queued }

/-- A message at the re-resolution of a warm reset: a QUEUED one that is unresolved is held, a HELD(UNROUTED) one that
resolves is released or held again for its deadline, with no port (R82). -/
def warmResolve (now : Nat) (resolved : Bool) (m : Message) : Message :=
  match m.custody with
  | .queued => if resolved then m else Message.log now none .held { m with custody := .held .unrouted }
  | .held .unrouted =>
    if resolved then
      let m := Message.log now none .released (Message.applyUpgrade m)
      if Message.deadlinePassed now m = true then
        Message.log now none .held { m with custody := .held .deadlinePassed }
      else { m with custody := .queued }
    else m
  | .held .bounceLimit | .held .refused | .held .deadlinePassed | .held .control => m
  | .filling | .handed _ _ _ | .suspended _ _ _ | .disposed _ _ | .void => m

/-- A record after a warm reset: returned where it was in custody, re-resolved, its watcher set emptied (R25). -/
def warmRecord (s : State) (m : Message) : Message :=
  let m := warmReturn s.seconds m
  { warmResolve s.seconds (s.resolve m.area).isSome m with watchers := Vector.replicate 4 false }

/-- Every entry ends at a warm reset (R49). -/
def abandonEntries (s : State) : State := allPorts.foldl (fun t p => abandonEntry p t) s

/-- A port at a warm reset, with its CONTROL strap sampled (R170, R186, R188). -/
def warmStationPort (x : StationPort) (control : Bool) : StationPort := { resetStationPort x with control := control }

/-- The warm reset at every block (R188). -/
def warmReset (straps : Straps) (s : State) : State :=
  let s := { abandonEntries s with links := Vector.replicate 4 true, fences := Vector.replicate 4 false }
  { s with
    slots := vmap (fun x => { x with record := x.record.map (warmRecord s) }) s.slots
    ports := vzip warmStationPort s.ports straps.control
    flags := Vector.replicate 4 QueueFlags.clear
    breakins := Vector.replicate 4 BreakIn.cleared
    noticeQueues := Vector.replicate 4 NoticeQueue.empty
    divider := 0
    timeBase0 := straps.timeBase0
    timeBase1 := straps.timeBase1
    deviceReset := true }

/-- The assertion of the device reset input; a tick that came before it is taken before it (log entry 22). Asserting it
while it is asserted has no effect (R188). -/
def assertDeviceReset (straps : Straps) (s : State) : State :=
  if s.deviceReset then s else warmReset straps (takeTicks s)

/-! ### The commands -/

/-- CLOCK-READ (R185). -/
def execClockRead (p : Port) (s : State) : Host.Outcome State Fault Refusal :=
  serve (.clockRead p) clockRead s

/-- TICK (R183). -/
def execTick (s : State) : Host.Outcome State Fault Refusal := whenPowered tickOnce s

/-- PORT_RESET (R181, R182). -/
def execPortReset (p : Port) (s : State) : Host.Outcome State Fault Refusal := whenPowered (assertPortReset p) s

/-- WARM_RESET (R188). -/
def execWarmReset (straps : Straps) (s : State) : Host.Outcome State Fault Refusal :=
  whenPowered (assertDeviceReset straps) s

/-- COLD_RESET: every piece of state takes its cold-reset value (R187); the commands that wait are no state of the
part. -/
def execColdReset (straps : Straps) (lines : ResetLines) (s : State) : Host.Outcome State Fault Refusal :=
  .next { State.cold straps lines with pending := s.pending }

/-- PORT_RESET_LINE_RELEASE (R181). -/
def execPortResetLineRelease (p : Port) (s : State) : Host.Outcome State Fault Refusal :=
  whenPowered (fun s => s.modPort p (fun x => { x with resetLine := false })) s

/-- DEVICE_RESET_INPUT_RELEASE (R188). -/
def execDeviceResetInputRelease (s : State) : Host.Outcome State Fault Refusal :=
  whenPowered (fun s => { s with deviceReset := false }) s

/-- SUPPLY_BELOW_WORKING_LEVEL: a dip that the detector sees leaves the part without working supply until the cold reset
that follows; one that it does not see leaves the part as it stood (R187). -/
def execSupplyBelowWorkingLevel (seen : Bool) (s : State) : Host.Outcome State Fault Refusal :=
  .next (if seen then { s with supplyLow := true } else s)

end Sys2Proof.Machine
end

