-- ==== Sys2Proof/Machine/Dispatch.lean ====
section
/-! DEFINITION. The meaning of every command: one arm a constructor. -/

namespace Sys2Proof.Machine

def exec (i : Instr) (s : State) : Host.Outcome State Fault Refusal :=
  match i with
  | .selectFall p => Sys2Proof.Machine.execSelectFall p s
  | .exchange p bytes extraBits => Sys2Proof.Machine.execExchange p bytes extraBits s
  | .nop p => Sys2Proof.Machine.execNop p s
  | .clockRead p => Sys2Proof.Machine.execClockRead p s
  | .readHeader p h => Sys2Proof.Machine.execReadHeader p h s
  | .readText p h index => Sys2Proof.Machine.execReadText p h index s
  | .readNotes p h index => Sys2Proof.Machine.execReadNotes p h index s
  | .readHistory p h => Sys2Proof.Machine.execReadHistory p h s
  | .find p station serial day => Sys2Proof.Machine.execFind p station serial day s
  | .enterBegin p fields => Sys2Proof.Machine.execEnterBegin p fields s
  | .appendText p h chars => Sys2Proof.Machine.execAppendText p h chars s
  | .enterEnd p h => Sys2Proof.Machine.execEnterEnd p h s
  | .enterCancel p h => Sys2Proof.Machine.execEnterCancel p h s
  | .purge p h => Sys2Proof.Machine.execPurge p h s
  | .storeStatus p => Sys2Proof.Machine.execStoreStatus p s
  | .routeSet p index first last port => Sys2Proof.Machine.execRouteSet p index first last port s
  | .routeClear p index => Sys2Proof.Machine.execRouteClear p index s
  | .routeRead p start area => Sys2Proof.Machine.execRouteRead p start area s
  | .defaultRoute p port => Sys2Proof.Machine.execDefaultRoute p port s
  | .linkState p port state => Sys2Proof.Machine.execLinkState p port state s
  | .fence p => Sys2Proof.Machine.execFence p s
  | .configure p fields => Sys2Proof.Machine.execConfigure p fields s
  | .configRead p => Sys2Proof.Machine.execConfigRead p s
  | .queueList p queue rank => Sys2Proof.Machine.execQueueList p queue rank s
  | .next p => Sys2Proof.Machine.execNext p s
  | .extend p h token => Sys2Proof.Machine.execExtend p h token s
  | .dispose p fields => Sys2Proof.Machine.execDispose p fields s
  | .breakinEnable p value => Sys2Proof.Machine.execBreakinEnable p value s
  | .nextBreakin p h token => Sys2Proof.Machine.execNextBreakin p h token s
  | .resume p h token => Sys2Proof.Machine.execResume p h token s
  | .portStatus p port => Sys2Proof.Machine.execPortStatus p port s
  | .hold p h => Sys2Proof.Machine.execHold p h s
  | .release p h => Sys2Proof.Machine.execRelease p h s
  | .void p h => Sys2Proof.Machine.execVoid p h s
  | .amend p fields => Sys2Proof.Machine.execAmend p fields s
  | .addNote p h chars => Sys2Proof.Machine.execAddNote p h chars s
  | .watch p h value => Sys2Proof.Machine.execWatch p h value s
  | .notices p => Sys2Proof.Machine.execNotices p s
  | .tick => Sys2Proof.Machine.execTick s
  | .entryIdleTimeout => Sys2Proof.Machine.execEntryIdleTimeout s
  | .leaseExpiry => Sys2Proof.Machine.execLeaseExpiry s
  | .deliveryDeadlineExpiry => Sys2Proof.Machine.execDeliveryDeadlineExpiry s
  | .portReset p => Sys2Proof.Machine.execPortReset p s
  | .warmReset straps => Sys2Proof.Machine.execWarmReset straps s
  | .coldReset straps lines => Sys2Proof.Machine.execColdReset straps lines s
  | .portResetLineRelease p => Sys2Proof.Machine.execPortResetLineRelease p s
  | .deviceResetInputRelease => Sys2Proof.Machine.execDeviceResetInputRelease s
  | .supplyBelowWorkingLevel seen => Sys2Proof.Machine.execSupplyBelowWorkingLevel seen s

end Sys2Proof.Machine
end

