-- ==== Sys2Proof/WellFormed.lean ====
section
/-! DEFINITION. Which terms of Instr a station can bring about. Every field of a request is as wide as its place on the
wire, so only what has a varying length is checked. -/

namespace Sys2Proof

/-- The characters of an APPEND-TEXT or ADD-NOTE fit a payload whose first two bytes are the handle (R190, R191). -/
def charsFit (chars : List Byte) : Bool :=
  decide (chars.length + 2 ≤ Config.payloadLimit)

/-- A group that was not completed has fewer than eight bits (R171). -/
def groupUnfinished (extraBits : Nat) : Bool :=
  decide (extraBits < 8)

/-- A command that the spec's frames and lines can express. -/
def Instr.wellFormed : Instr → Bool
  | .exchange _ _ extraBits => groupUnfinished extraBits
  | .appendText _ _ chars => charsFit chars
  | .addNote _ _ chars => charsFit chars
  | .selectFall _ | .nop _ | .clockRead _ | .readHeader _ _ | .readText _ _ _ | .readNotes _ _ _ | .readHistory _ _
  | .find _ _ _ _ | .enterBegin _ _ | .enterEnd _ _ | .enterCancel _ _ | .purge _ _ | .storeStatus _
  | .routeSet _ _ _ _ _ | .routeClear _ _ | .routeRead _ _ _ | .defaultRoute _ _ | .linkState _ _ _ | .fence _
  | .configure _ _ | .configRead _ | .queueList _ _ _ | .next _ | .extend _ _ _ | .dispose _ _ | .breakinEnable _ _
  | .nextBreakin _ _ _ | .resume _ _ _ | .portStatus _ _ | .hold _ _ | .release _ _ | .void _ _ | .amend _ _
  | .watch _ _ _ | .notices _ | .tick | .entryIdleTimeout | .leaseExpiry | .deliveryDeadlineExpiry | .portReset _
  | .warmReset _ | .coldReset _ _ | .portResetLineRelease _ | .deviceResetInputRelease
  | .supplyBelowWorkingLevel _ => true

end Sys2Proof
end

