-- ==== Sys2Proof/Safety.lean ====
section
/-! DEFINITION. The terms in which statements speak of the part: what a command meets, what it leaves, and the laws that
every state of a working part obeys. -/

namespace Sys2Proof.Machine

/-! ### What a command meets -/

/-- Every block has taken the last tick (R184; a command that acts on the part brings this about first, log entry 3). -/
abbrev State.ticksTaken (s : State) : Prop := s.entryTick = false ∧ s.leaseTick = false ∧ s.deadlineTick = false

/-- Command c is the request that port p is working on, the part has its supply, and every block has taken the last tick: the
request was taken at the port and its owning block takes it now (R178). -/
abbrev Serving (s : State) (c : Instr) (p : Port) (rq : Request) : Prop :=
  s.supplyLow = false ∧ s.inProgress c = some (p, rq) ∧ s.ticksTaken

/-- Command c acts on the part as it stands: a request in progress at its port, a TICK of a count that is not saturated, or
the assertion of a reset line that is released (R178, R181, R183, R188). -/
abbrev ActsNow (s : State) (c : Instr) : Prop :=
  s.supplyLow = false
    ∧ ((s.inProgress c).isSome = true ∨ c = .tick ∧ s.seconds < 4294967295
      ∨ (∃ p, c = .portReset p ∧ (s.port p).resetLine = false) ∨ ∃ straps, c = .warmReset straps ∧ s.deviceReset = false)

/-- A tick waits at which p's active handoff, the message in slot k, lapses: the Dispatch Unit has still to take the lease
expiries of the last tick, and the lease deadline is not later than now (R114, R139). -/
abbrev LapseWaits (s : State) (p : Port) (k : SlotNo) : Prop :=
  s.leaseTick = true ∧ (s.breakin p).active.map (fun a => a.handle.slot) = some k
    ∧ (s.record k).any (fun m =>
      match m.custody with
      | .handed _ deadline _ => decide (deadline ≤ s.seconds)
      | .filling | .queued | .suspended _ _ _ | .held _ | .disposed _ _ | .void => false) = true

/-- A handle in a request is current and names slot k: its slot number is k and its incarnation is that of the slot
(R5, R192). -/
abbrev Names (h : HandleField) (k : SlotNo) (s : State) : Prop :=
  h.slot.toNat = k.val ∧ h.inc.toNat % 16 = (s.slot k).inc.toNat

/-- Slot k holds message m, FILLING on port p. -/
abbrev FillingOn (s : State) (k : SlotNo) (m : Message) (p : Port) : Prop :=
  s.record k = some m ∧ m.custody = .filling ∧ m.entryPort = p

/-- Every field of an ENTER-BEGIN is in its range, and its origin station reads as `origin` (R30, R192). -/
abbrev HeaderInRange (f : EnterBeginFields) (origin : List Byte) : Prop :=
  f.klass.toNat ≤ 3 ∧ readStation f.station = some origin ∧ 1 ≤ f.serial.toNat ∧ f.serial.toNat ≤ 9999
    ∧ 1 ≤ f.day.toNat ∧ f.day.toNat ≤ 366 ∧ f.hour.toNat ≤ 23 ∧ f.minute.toNat ≤ 59 ∧ f.area.toNat ≤ 4095
    ∧ (f.check.toNat = 65535 ∨ f.check.toNat ≤ 999)
    ∧ (f.deadline.toNat = 65535 ∨ 1 ≤ f.deadline.toNat ∧ f.deadline.toNat ≤ 1440)

/-- No slot in QUEUED, HANDED, SUSPENDED, HELD or DISPOSED holds the duplicate key of m (R17, R41). -/
abbrev KeyFree (s : State) (m : Message) : Prop := s.keyHolder m.origin m.serial m.day = none

/-- The port whose command a request or a port's own event is; none for an event of the whole part. -/
def commandPort (c : Instr) : Option Port :=
  match requestFrame c with
  | some f => some f.port
  | none =>
    match c with
    | .selectFall p => some p
    | .exchange p _ _ => some p
    | .portReset p => some p
    | .portResetLineRelease p => some p
    | _ => none

/-- The slot number that a request's handle gives, for the requests whose handle check is that of R5. -/
def checkedHandle : Instr → Option HandleField
  | .readHeader _ h => some h
  | .readText _ h _ => some h
  | .readNotes _ h _ => some h
  | .readHistory _ h => some h
  | .appendText _ h _ => some h
  | .enterEnd _ h => some h
  | .enterCancel _ h => some h
  | .purge _ h => some h
  | .hold _ h => some h
  | .release _ h => some h
  | .void _ h => some h
  | .amend _ f => some f.handle
  | .addNote _ h _ => some h
  | .watch _ h _ => some h
  | _ => none

/-- The requests reserved to CONTROL ports by their first condition (R143). -/
def reserved : Instr → Bool
  | .hold _ _ => true
  | .release _ _ => true
  | .void _ _ => true
  | .amend _ _ => true
  | .addNote _ _ _ => true
  | .purge _ _ => true
  | .routeSet _ _ _ _ _ => true
  | .routeClear _ _ => true
  | .defaultRoute _ _ => true
  | .configure _ _ => true
  | _ => false

/-! ### What a command leaves -/

/-- The part s with the answer of a request held at port p, which is READY (R178). -/
def responded (p : Port) (rq : Request) (r : Result) (payload : List Byte) (s : State) : State :=
  s.modPort p (fun x =>
    { x with exchangeState := .ready { code := rq.code, tag := rq.tag, result := r, payload := payload } })

/-- The part s with message m written into the record of slot k. -/
def State.withRecord (s : State) (k : SlotNo) (m : Message) : State :=
  s.modSlot k (fun x => { x with record := some m })

/-- The part s with slot k freed of message m: EMPTY, its incarnation one further, the segments of m in the pool and its
handle off the retained list (R54). -/
def State.withoutRecord (s : State) (k : SlotNo) (m : Message) : State :=
  { s.modSlot k (fun x => { inc := x.inc + 1, record := none }) with
    freeSegments := s.freeSegments + m.segments
    retained := s.retained.filter (fun h => !decide (h = s.handleOf k)) }

/-- The part s with port p's entry ended (R28). -/
def State.withoutEntry (s : State) (p : Port) : State :=
  s.modEntry p (fun _ => { filling := none, spaceCarry := true })

/-- The part after a read of message m by port p: a read from the entry port of a FILLING message is activity on the entry
(R18, R29). -/
def State.afterRead (s : State) (p : Port) (m : Message) : State :=
  if m.custody = .filling then
    s.modEntry p (fun x => { x with filling := x.filling.map (fun e => { e with lastActivity := s.seconds }) })
  else s

/-- A notice joins a queue where it is addressed to that queue's port. -/
def joinIf (addressed : Bool) (n : Notice) (q : NoticeQueue) : NoticeQueue :=
  if addressed then NoticeQueue.join n q else q

/-- The part s after notice n has joined the queue of every port of a set. -/
def State.told (s : State) (ports : PortSet) (n : Notice) : State :=
  { s with noticeQueues := vzip (fun addressed q => joinIf addressed n q) ports s.noticeQueues }

/-- The set whose one member is port p. -/
def onlyPort (p : Port) : PortSet := (Vector.replicate 4 false).set p.val true p.isLt

/-- The CONTROL ports as sampled at the last cold or warm reset (R142). -/
def controlSet (s : State) : PortSet := vmap (fun x => x.control) s.ports

/-- The STATE-CHANGE of a message m in slot k: its state and class (R161). -/
def stateChange (s : State) (k : SlotNo) (m : Message) : Notice :=
  { kind := .stateChange, handle := some (s.handleOf k), detail := .stateAndClass m.custody.name m.klass, time := s.seconds }

/-- The HELD notice of the message in slot k for the given reason (R161). -/
def heldNotice (s : State) (k : SlotNo) (r : HoldReason) : Notice :=
  { kind := .held, handle := some (s.handleOf k), detail := .reason r, time := s.seconds }

/-- QUEUE-READY or FENCE-DONE, which name no handle (R161). -/
def bareNotice (s : State) (kind : NoticeKind) : Notice :=
  { kind := kind, handle := none, detail := .nothing, time := s.seconds }

/-- The part s with the BREAK-IN notice that names h out of p's queue (R164). -/
def State.withoutBreakIn (s : State) (p : Port) (h : Handle) : State :=
  { s with noticeQueues := vmod s.noticeQueues p (fun q =>
      { q with items := q.items.filter (fun n => !decide (n.kind = .breakIn ∧ n.handle = some h)) }) }

/-- The part s with p's pending break-in, if any, cleared, and its BREAK-IN notice withdrawn (R164). -/
def State.withoutPending (s : State) (p : Port) : State :=
  match (s.breakin p).pending with
  | none => s
  | some h => (s.modBreakin p (fun b => { b with pending := none })).withoutBreakIn p h

/-- The part s with p's active handoff cleared, and p's pending break-in with it (R108). -/
def State.withoutActive (s : State) (p : Port) : State :=
  (s.modBreakin p (fun b => { b with active := none })).withoutPending p

/-- The part s after an event that lowered the outstanding count from `before`: where it is now 0, each port whose fence is
pending has received FENCE-DONE, and no fence is pending (R78). -/
def State.fencesSettled (before : Nat) (s : State) : State :=
  if 0 < before ∧ s.outstanding = 0 then
    { s.told s.fences (bareNotice s .fenceDone) with fences := Vector.replicate 4 false }
  else s

/-- Message m out of the custody of its holder and back toward the queues: the pending upgrade is applied, a deadline not
later than now holds it, an area that does not resolve holds it, else it is QUEUED (R112, R113). -/
def returned (now : Nat) (holder : Port) (resolves : Bool) (m : Message) : Message :=
  let m := Message.applyUpgrade m
  if Message.deadlinePassed now m = true then
    Message.log now (some holder) .held { m with custody := .held .deadlinePassed }
  else if resolves = true then { m with custody := .queued }
  else Message.log now (some holder) .held { m with custody := .held .unrouted }

/-- Message m after a bounce, reported by BOUNCED or LAPSED: held at the seventh, else returned (R110). -/
def bounced (now : Nat) (holder : Port) (event : HistoryEvent) (resolves : Bool) (m : Message) : Message :=
  let m := Message.log now (some holder) event { m with bounces := m.bounces + 1 }
  if 7 ≤ m.bounces then Message.log now (some holder) .held { m with custody := .held .bounceLimit }
  else returned now holder resolves m

/-- A HANDED message whose lease deadline is not later than now has lapsed; any other message stands (R114). -/
def lapsedIfDue (now : Nat) (resolves : Bool) (m : Message) : Message :=
  match m.custody with
  | .handed p d _ => if d ≤ now then bounced now p .lapsed resolves m else m
  | .filling | .queued | .suspended _ _ _ | .held _ | .disposed _ _ | .void => m

/-- A QUEUED message whose delivery deadline is not later than now is held for it; any other message stands (R116). -/
def expiredIfDue (now : Nat) (m : Message) : Message :=
  if m.custody = .queued ∧ Message.deadlinePassed now m = true then
    Message.log now none .held { m with custody := .held .deadlinePassed }
  else m

/-- Message m after a routing change by port p under which its area resolves or not (R74 to R76). -/
def rerouted (now : Nat) (p : Port) (resolves : Bool) (m : Message) : Message :=
  match m.custody with
  | .handed q d _ => { m with custody := .handed q d true }
  | .suspended q r _ => { m with custody := .suspended q r true }
  | .queued => if resolves then m else Message.log now (some p) .held { m with custody := .held .unrouted }
  | .held .unrouted =>
    if resolves then
      let m := Message.log now (some p) .released (Message.applyUpgrade m)
      if Message.deadlinePassed now m = true then
        Message.log now (some p) .held { m with custody := .held .deadlinePassed }
      else { m with custody := .queued }
    else m
  | .held .bounceLimit | .held .refused | .held .deadlinePassed | .held .control => m
  | .filling | .disposed _ _ | .void => m

/-- Message m after a port reset of p that found p's link UP or DOWN, where its area resolves or not with the link UP: the
routing change where there is one, the return where p held it, and p out of the watcher set (R81, R119, R158). -/
def afterPortReset (now : Nat) (p : Port) (linkUp resolves : Bool) (m : Message) : Message :=
  let m₁ := if linkUp then m else rerouted now p resolves m
  let m₂ :=
    if m.custody.holder = some p then
      returned now p resolves (Message.log now (some p) .requeued { m₁ with token := m₁.token + 1 })
    else m₁
  { m₂ with watchers := m₂.watchers.set p.val false p.isLt }

/-- A message that waits at a warm reset, QUEUED already or returned from custody, where its area resolves or not
(R82). -/
def warmQueued (now : Nat) (resolves : Bool) (m : Message) : Message :=
  if resolves then { m with custody := .queued }
  else Message.log now none .held { m with custody := .held .unrouted }

/-- Message m after a warm reset, where its area resolves or not with every link UP: returned where it was in custody,
re-resolved, and watched by no port (R25, R82, R120). -/
def afterWarmReset (now : Nat) (resolves : Bool) (m : Message) : Message :=
  let m₁ : Message :=
    match m.custody with
    | .handed p _ _ | .suspended p _ _ =>
      let m := Message.applyUpgrade (Message.log now (some p) .requeued { m with token := m.token + 1 })
      if Message.deadlinePassed now m = true then
        Message.log now (some p) .held { m with custody := .held .deadlinePassed }
      else warmQueued now resolves m
    | .queued => warmQueued now resolves m
    | .held .unrouted =>
      if resolves then
        let m := Message.log now none .released (Message.applyUpgrade m)
        if Message.deadlinePassed now m = true then
          Message.log now none .held { m with custody := .held .deadlinePassed }
        else { m with custody := .queued }
      else m
    | .held .bounceLimit | .held .refused | .held .deadlinePassed | .held .control => m
    | .filling | .disposed _ _ | .void => m
  { m₁ with watchers := Vector.replicate 4 false }

/-- The part s after the message of slot k has been left as m, QUEUED or HELD: STATE-CHANGE to its watchers, then HELD to
the CONTROL ports, or QUEUE-READY and the break-in check of the queue it joined (R98, R108). -/
def State.leftAs (s : State) (k : SlotNo) (m : Message) : State :=
  let t := (s.withRecord k m).told m.watchers (stateChange s k m)
  match m.custody with
  | .held r => t.told (controlSet s) (heldNotice s k r)
  | .filling | .queued | .handed _ _ _ | .suspended _ _ _ | .disposed _ _ | .void =>
    match s.resolve m.area with
    | some q =>
      breakInCheck q (if s.queue q = [] then t.told (onlyPort q) (bareNotice s .queueReady) else t)
    | none => t

/-- The message of slot k leaves its queue by `act`, whose notices join before a BREAK-IN of the renewed check: a pending
break-in that names it is cleared, its notice withdrawn and the check made again (R99, R116, R150). A new BREAK-IN has the
place that the old one left, beside which the notices of `act` join; where none is raised, that place is theirs (R164; log
entry 29). -/
def State.leaving (s : State) (k : SlotNo) (act : State → State) : State :=
  match s.queueOf k with
  | none => act s
  | some q =>
    if (s.breakin q).pending = some (s.handleOf k) then
      let renewed := breakInCheck q
        ((act (s.modBreakin q (fun b => { b with pending := none }))).withoutBreakIn q (s.handleOf k))
      if (renewed.breakin q).pending.isSome = true then renewed else act (s.withoutPending q)
    else act s

/-- The part s after the tick's examination of slot k for a lapsed lease: the handoff ends, LAPSED with its token goes to the
holder, the message bounces, and fences that wait for its mark complete (R78, R108, R110, R114). -/
def State.lapsed (s : State) (k : SlotNo) : State :=
  match s.record k with
  | none => s
  | some m =>
    match m.custody with
    | .handed p d _ =>
      if d ≤ s.seconds then
        (((s.withoutActive p).told (onlyPort p)
            { kind := .lapsed, handle := some (s.handleOf k), detail := .token m.token, time := s.seconds }).leftAs
          k (bounced s.seconds p .lapsed (s.resolve m.area).isSome m)).fencesSettled s.outstanding
      else s
    | .filling | .queued | .suspended _ _ _ | .held _ | .disposed _ _ | .void => s

/-- The part s after the tick's examination of slot k for a passed delivery deadline: the message is HELD(DEADLINE-PASSED),
with STATE-CHANGE and HELD, and out of its queue (R116). -/
def State.expired (s : State) (k : SlotNo) : State :=
  match s.record k with
  | none => s
  | some m =>
    if m.custody = .queued ∧ Message.deadlinePassed s.seconds m = true then
      s.leaving k (fun t => t.leftAs k (expiredIfDue s.seconds m))
    else s

/-- The part s after a routing change by port p; s₁ is s with the new routing state. The records are as the change leaves
them; STATE-CHANGE and HELD go out message by message in ascending slot order, first for those that it holds (R75), then
for those that were HELD(UNROUTED) and resolve (R76); then each port whose queue was empty and is not receives
QUEUE-READY, its pending break-in is cleared and checked again where the message it names has left the queue, and the
check is made where the queue gained a message (R77). -/
def State.rerouting (s : State) (p : Port) (s₁ : State) : State :=
  let after := fun m : Message => rerouted s.seconds p (s₁.resolve m.area).isSome m
  let placed : State := { s₁ with slots := vmap (fun x => { x with record := x.record.map after }) s.slots }
  let held := allSlots.foldl (fun (t : State) k =>
    match s.record k with
    | some m =>
      if m.custody = .queued ∧ s₁.resolve m.area = none then
        (t.told m.watchers (stateChange s k (after m))).told (controlSet s) (heldNotice s k .unrouted)
      else t
    | none => t) placed
  let told := allSlots.foldl (fun (t : State) k =>
    match s.record k with
    | some m =>
      if m.custody = .held .unrouted ∧ (s₁.resolve m.area).isSome = true then
        if Message.deadlinePassed s.seconds m = true then t.told (controlSet s) (heldNotice s k .deadlinePassed)
        else t.told m.watchers (stateChange s k (after m))
      else t
    | none => t) held
  allPorts.foldl (fun t q =>
    let ready :=
      if s.queue q = [] ∧ placed.queue q ≠ [] then t.told (onlyPort q) (bareNotice s .queueReady) else t
    let cleared :=
      match (s.breakin q).pending with
      | none => ready
      | some h =>
        if placed.queueOf h.slot = some q ∧ s.handleOf h.slot = h then ready else breakInCheck q (ready.withoutPending q)
    if (placed.queue q).any (fun k => decide (s.queueOf k ≠ some q)) then breakInCheck q cleared else cleared) told

/-- The part s after the end of p's entry at a reset: its FILLING message freed, its context closed (R48, R49). -/
def State.entryAbandoned (s : State) (p : Port) : State :=
  match (s.entryOf p).filling with
  | none => s.withoutEntry p
  | some o =>
    match s.record o.handle.slot with
    | none => s.withoutEntry p
    | some m => (s.withoutRecord o.handle.slot m).withoutEntry p

/-- The part s after the return of one handoff of p at its port reset: the token advances, REQUEUED is logged, and the
message goes back toward the queues (R119). -/
def State.handedBack (p : Port) (s : State) (h : Handle) : State :=
  match s.record h.slot with
  | none => s
  | some m =>
    s.leftAs h.slot
      (returned s.seconds p (s.resolve m.area).isSome
        (Message.log s.seconds (some p) .requeued { m with token := m.token + 1 }))

/-- The handle of p's open entry where it has been idle for 300 seconds (R47). -/
def idleEntry (s : State) (p : Port) : Option Handle :=
  match (s.entryOf p).filling with
  | some o => if o.lastActivity + 300 ≤ s.seconds then some o.handle else none
  | none => none

/-- The record that an ENTER-BEGIN of class c on port p begins (R32). -/
def begun (p : Port) (c : Class) (origin : List Byte) (f : EnterBeginFields) : Message :=
  { klass := c, pendingUpgrade := none
    origin := origin, serial := f.serial.toNat, day := f.day.toNat, hour := f.hour.toNat, minute := f.minute.toNat
    area := f.area.toNat
    declaredCheck := if f.check.toNat = 65535 then none else some f.check.toNat
    deadline := if f.deadline.toNat = 65535 then none else some f.deadline.toNat
    entryPort := p, entry := none
    words := 0, truncated := false, substituted := false, text := [], notes := []
    token := 0, bounces := 0, adjust := 0, copies := 0
    custody := .filling, watchers := Vector.replicate 4 false, history := [], dropped := 0 }

/-- The value of the entry-number counter after it has passed n values; 4,294,967,295 is followed by 1 (R8). -/
def numberAfter : Nat → Nat → Nat
  | 0, start => start
  | n + 1, start => numberAfter n (if 4294967295 ≤ start then 1 else start + 1)

/-- A record test over the slots. -/
def State.counted (s : State) (test : Message → Bool) : Nat :=
  allSlots.countP (fun k => match s.record k with | some m => test m | none => false)

/-- What a request of the Route Unit taken on port p reports and leaves: s is the part before, s₁ is s with the routing
state that the request gives, u the part after, `payload` the account (R67, R72 to R77). A request that is no change leaves
the part as it stood. -/
structure RoutingDone (p : Port) (changes : Bool) (s s₁ u : State) (payload : List Byte) : Prop where
  /-- No change: nothing happens, and the account says so. -/
  still : changes = false → u = s ∧ payload = [0, BitVec.ofNat 8 s.outstanding, 0, 0, 0]
  /-- The routing state is the one given. -/
  routing : changes = true → u.routes = s₁.routes ∧ u.defaultRoute = s₁.defaultRoute ∧ u.links = s₁.links
  /-- Every record is as the change leaves it. -/
  records : changes = true → ∀ k, u.slot k =
    { s.slot k with record := (s.record k).map (fun m => rerouted s.seconds p (s₁.resolve m.area).isSome m) }
  /-- Of the break-in state only what is pending may change. -/
  breakins : changes = true → ∀ q, u.breakin q = { s.breakin q with pending := (u.breakin q).pending }
  /-- The part after the change, with its notices, what is pending and the sticky flags. -/
  whole : changes = true → u = s.rerouting p s₁
  /-- Nothing else changes but what is pending, the sticky flags and the notices. -/
  frame : changes = true → u = { s₁ with
    slots := u.slots, breakins := u.breakins, flags := u.flags, noticeQueues := u.noticeQueues }
  /-- The account: change, marked, moved, held, released. -/
  account : changes = true → payload =
    [1, BitVec.ofNat 8 u.outstanding,
      BitVec.ofNat 8 (allSlots.countP (fun k => match s.queueOf k, s₁.queueOf k with
        | some a, some b => decide (a ≠ b)
        | _, _ => false)),
      BitVec.ofNat 8 (s.counted (fun m => decide (m.custody = .queued) && (s₁.resolve m.area).isNone)),
      BitVec.ofNat 8 (s.counted (fun m => decide (m.custody = .held .unrouted) && (s₁.resolve m.area).isSome))]

/-- The code of each request with the least and greatest length of its payload (R190). -/
def requestLengths : List (Nat × Nat × Nat) :=
  [(0x01, 0, 0), (0x02, 0, 0), (0x10, 2, 2), (0x11, 3, 3), (0x12, 3, 3), (0x13, 2, 2), (0x14, 12, 12), (0x20, 21, 21),
    (0x21, 2, 60), (0x22, 2, 2), (0x23, 2, 2), (0x28, 2, 2), (0x29, 0, 0), (0x30, 6, 6), (0x31, 1, 1), (0x32, 3, 3),
    (0x33, 1, 1), (0x34, 2, 2), (0x35, 0, 0), (0x38, 10, 10), (0x39, 0, 0), (0x40, 2, 2), (0x41, 0, 0), (0x42, 3, 3),
    (0x43, 14, 14), (0x48, 1, 1), (0x49, 3, 3), (0x4A, 3, 3), (0x4B, 1, 1), (0x50, 2, 2), (0x51, 2, 2), (0x52, 2, 2),
    (0x53, 6, 6), (0x54, 2, 60), (0x58, 3, 3), (0x59, 0, 0)]

/-- Whether a word begins at each character: the number of runs of characters other than the space, the place before the
first character counting as a space where `carry` is yes (R38). -/
def runStarts : Bool → List Byte → Nat
  | _, [] => 0
  | carry, c :: cs => if c = 0x20 then runStarts true cs else (if carry then 1 else 0) + runStarts false cs

/-! ### The laws of a working part -/

/-- Every record satisfies P. -/
def State.everyRecord (s : State) (P : SlotNo → Message → Prop) : Prop := ∀ k m, s.record k = some m → P k m

/-- A message's counts and lists are within their limits (R9, R10, R12, R13, R110). -/
abbrev Message.withinLimits (m : Message) : Prop :=
  m.words ≤ 999 ∧ m.text.length ≤ 2560 ∧ m.notes.length ≤ 4 ∧ m.history.length ≤ 8 ∧ m.dropped ≤ 255 ∧ m.copies ≤ 15
    ∧ -4096 ≤ m.adjust ∧ m.adjust ≤ 4095
    ∧ (m.bounces ≤ 6 ∨ m.bounces = 7 ∧ (m.custody = .held .bounceLimit ∨ m.custody = .void))

/-- A FILLING message has no entry fields, no watcher, no pending upgrade, no note and an empty history; any other has entry
fields, and its history begins with ENTERED (R13, R15, R16, R32, R158). -/
abbrev Message.enteredRightly (m : Message) : Prop :=
  (m.custody = .filling →
      m.entry = none ∧ m.history = [] ∧ m.watchers = Vector.replicate 4 false ∧ m.pendingUpgrade = none ∧ m.notes = [])
    ∧ (m.custody ≠ .filling → m.entry.isSome = true ∧ (m.history.head?.map (fun e => e.event)) = some .entered)

/-- The retained list holds the handles of exactly the DISPOSED and VOID records, without repeats (R53). -/
abbrev State.retainedListed (s : State) : Prop :=
  s.retained.Nodup
    ∧ (∀ h, h ∈ s.retained → s.handleOf h.slot = h)
    ∧ (∀ k, s.handleOf k ∈ s.retained ↔ (s.record k).any Message.retainedRecord = true)

/-- The free segments and the segments held by all records number 1,024 (R52). -/
abbrev State.segmentsKept (s : State) : Prop :=
  s.freeSegments + (allSlots.map (fun k => match s.record k with | some m => m.segments | none => 0)).sum = 1024

/-- The entry contexts name exactly the FILLING messages, each on its entry port, and carry yes where none is open (R27,
R28). -/
abbrev State.entriesNamed (s : State) : Prop :=
  (∀ p o, (s.entryOf p).filling = some o →
      s.handleOf o.handle.slot = o.handle
        ∧ (s.record o.handle.slot).any (fun m => decide (m.custody = .filling ∧ m.entryPort = p)) = true)
    ∧ (∀ p, (s.entryOf p).filling = none → (s.entryOf p).spaceCarry = true)
    ∧ s.everyRecord (fun k m => m.custody = .filling →
      (s.entryOf m.entryPort).filling.map (fun o => o.handle) = some (s.handleOf k))

/-- The records of p's stack that are not revoked. -/
def State.openRecords (s : State) (p : Port) : List Suspension := (s.breakin p).stack.filter (fun r => !r.revoked)

/-- Every HANDED message is the active handoff of exactly one port, its holder, and every SUSPENDED message appears in
exactly one non-revoked record of exactly one stack, that of its holder (R122, R123). -/
abbrev State.custodyKept (s : State) : Prop :=
  (∀ p a, (s.breakin p).active = some a →
      s.handleOf a.handle.slot = a.handle
        ∧ (s.record a.handle.slot).any (fun m =>
          decide (m.token = a.token) && decide (m.custody.name = .handed) && decide (m.custody.holder = some p)) = true)
    ∧ (∀ p, ∀ r ∈ s.openRecords p,
      s.handleOf r.handle.slot = r.handle
        ∧ (s.record r.handle.slot).any (fun m =>
          decide (m.token = r.token) && decide (m.klass = r.klass)
            && (decide (m.custody = .suspended p r.leaseRemaining true)
              || decide (m.custody = .suspended p r.leaseRemaining false))) = true)
    ∧ (∀ p, ((s.openRecords p).map (fun r => r.handle)).Nodup)
    ∧ s.everyRecord (fun k m => ∀ p, m.custody.holder = some p →
      (m.custody.name = .handed → (s.breakin p).active = some { handle := s.handleOf k, token := m.token })
        ∧ (m.custody.name = .suspended → s.handleOf k ∈ (s.openRecords p).map (fun r => r.handle)))

/-- The store, the pool, the retained list, the entry contexts and the handoffs agree with the records. -/
structure State.storeSound (s : State) : Prop where
  limits : s.everyRecord (fun _ m => m.withinLimits)
  entered : s.everyRecord (fun _ m => m.enteredRightly)
  retained : s.retainedListed
  segments : s.segmentsKept
  entries : s.entriesNamed
  custody : s.custodyKept

/-- Every QUEUED message has an area that resolves, and no pending upgrade (R97, R113). -/
abbrev State.queuesRoutable (s : State) : Prop :=
  s.everyRecord (fun _ m => m.custody = .queued → (s.resolve m.area).isSome = true ∧ m.pendingUpgrade = none)

/-- A notice queue holds at most 16 notices, at most one of each kind for each handle and at most one of each handle-less
kind (R163). -/
abbrev NoticeQueue.inForm (q : NoticeQueue) : Prop :=
  q.items.length ≤ 16 ∧ q.items.Pairwise (fun a b => ¬ (a.kind = b.kind ∧ a.handle = b.handle))

/-- Every port's notice queue is in form (R163). -/
abbrev State.noticesInForm (s : State) : Prop := ∀ p, (s.noticeQueue p).inForm

/-- A break-in is pending only while the port has an active handoff, its enable is on, and the named message is QUEUED in
its queue with a class higher than that of the active handoff (R126). -/
abbrev State.pendingQualifies (s : State) : Prop :=
  ∀ p h, (s.breakin p).pending = some h →
    (s.breakin p).enable = true ∧ s.handleOf h.slot = h ∧ s.queueOf h.slot = some p
      ∧ (match s.record h.slot, s.activeClass p with
        | some m, some c => decide (c.code < m.klass.code)
        | _, _ => false) = true

/-- A BREAK-IN notice in p's queue names p's pending break-in (R164). -/
abbrev State.breakInNoticesNamed (s : State) : Prop :=
  ∀ p, ∀ n ∈ (s.noticeQueue p).items, n.kind = .breakIn → n.handle.isSome = true ∧ n.handle = (s.breakin p).pending

/-- The classes of p's stack from bottom to top, then that of its active handoff. -/
def State.classesInHand (s : State) (p : Port) : List Nat :=
  (s.breakin p).stack.reverse.map (fun r => r.klass.code) ++ ((s.activeClass p).map (fun c => c.code)).toList

/-- A stack holds at most 3 records, and the classes of its records from bottom to top, followed by that of the active
handoff, strictly increase (R123). -/
abbrev State.stacksOrdered (s : State) : Prop :=
  ∀ p, (s.breakin p).stack.length ≤ 3 ∧ (s.classesInHand p).Pairwise (fun a b => a < b)

/-- The laws of the Break-in Unit. -/
structure State.breakInSound (s : State) : Prop where
  pending : s.pendingQualifies
  notices : s.breakInNoticesNamed
  order : s.stacksOrdered

/-- A pending fence waits for at least one mark (R78, R79). -/
abbrev State.fencesWait (s : State) : Prop := ∀ p : Port, s.fences.get p = true → 1 ≤ s.outstanding

/-- The entry numbers of two live messages differ, and the counter holds a value that is given (R8). -/
abbrev State.numbersDistinct (s : State) : Prop :=
  1 ≤ s.nextEntryNumber ∧ s.nextEntryNumber ≤ 4294967295
    ∧ s.everyRecord (fun j a => s.everyRecord (fun k b => j ≠ k → a.entry.isSome = true →
        a.entry.map (fun e => e.number) ≠ b.entry.map (fun e => e.number)))

/-- No two slots in QUEUED, HANDED, SUSPENDED, HELD and DISPOSED hold the same duplicate key (R17). -/
abbrev State.keysDistinct (s : State) : Prop :=
  s.everyRecord (fun j a => s.everyRecord (fun k b => j ≠ k → a.holdsKey = true → b.holdsKey = true →
      ¬ (a.origin = b.origin ∧ a.serial = b.serial ∧ a.day = b.day)))

/-- The scoring configuration and the route table are within their ranges (R64, R91). -/
abbrev State.settingsInRange (s : State) : Prop :=
  s.scoring.weightImmediate ≤ 255 ∧ s.scoring.weightUrgent ≤ 255 ∧ s.scoring.weightWelfare ≤ 255
    ∧ s.scoring.weightRoutine ≤ 255 ∧ s.scoring.shift ≤ 7 ∧ s.scoring.penalty ≤ 4095
    ∧ 60 ≤ s.scoring.lease ∧ s.scoring.lease ≤ 3600
    ∧ ∀ i, (s.routes.get i).first ≤ (s.routes.get i).last ∧ (s.routes.get i).last ≤ 4095

/-- A part that obeys every law of a working part. -/
structure State.lawful (s : State) : Prop where
  store : s.storeSound
  notices : s.noticesInForm
  breakIn : s.breakInSound
  fences : s.fencesWait
  queues : s.queuesRoutable
  settings : s.settingsInRange
  numbers : s.numbersDistinct
  keys : s.keysDistinct

end Sys2Proof.Machine
end

