-- ==== Sys2Proof/Certificates/Slice0/Obligations.lean ====
section
/-! DEFINITION. The statements for the provers. `Serving s c p rq` is the premise of every request: port p is working on
the request of command c, and its owning block takes it now (log entry 2), every block having taken the last tick;
TimeLinesAndSupply says what a command does where a tick still waits (log entry 3). -/

section

open Sys2Proof Sys2Proof.Machine

/-! ### The queue of commands -/

/-- A step takes the command at the front of the queue and runs it on the part with the queue's rest. -/
def Obligations.StepTakesFrontCommand : Prop :=
  ∀ (c : Instr) (rest : List Instr) (s : State), step { s with pending := c :: rest } = exec c { s with pending := rest }

/-- Every command is taken to a next state, and none touches the commands that wait; with none waiting the part idles (the
model's choice, log entry 1). -/
def Obligations.EveryCommandIsTaken : Prop :=
  (∀ (c : Instr) (s : State), ∃ t, exec c s = .next t ∧ t.pending = s.pending)
    ∧ ∀ s : State, s.pending = [] → step s = .next s

/-! ### The station ports (chapter 10) -/

/-- The frame that a port chooses at the fall of select, by its exchange state; a port in reset ignores the fall (R171,
R172). The seven flags of a status byte stand each at its bit (R173, 11.1), and the attention line is high for a held
response, a waiting notice or a pending break-in (R180). -/
def Obligations.SelectFallChoosesFrame : Prop :=
  (∀ (p : Port) (s : State), s.supplyLow = false →
      ((s.port p).exchange = none → (s.port p).resetLine = false → s.deviceReset = false →
        exec (.selectFall p) s = .next (s.modPort p (fun x =>
          { x with exchange := some (
              match x.exchangeState, x.lastDelivered with
              | .ready r, _ =>
                { choice := .held
                  frame := [r.code, r.tag, BitVec.ofNat 8 r.result.code, BitVec.ofNat 8 (statusBits s p false),
                    BitVec.ofNat 8 r.payload.length] ++ r.payload }
              | .idle, some r =>
                { choice := .repeated
                  frame := [r.code, r.tag, BitVec.ofNat 8 r.result.code, BitVec.ofNat 8 (statusBits s p true),
                    BitVec.ofNat 8 r.payload.length] ++ r.payload }
              | .idle, none => { choice := .filler, frame := [0, 0, 2, BitVec.ofNat 8 (statusBits s p false), 0] }
              | .working _, _ =>
                { choice := .filler, frame := [0, 0, 2, BitVec.ofNat 8 (statusBits s p false), 0] }) })))
      ∧ ((s.port p).resetLine = true ∨ s.deviceReset = true → exec (.selectFall p) s = .next s))
    ∧ ∀ (s : State) (p : Port) (isRepeat : Bool),
        let b := BitVec.ofNat 8 (statusBits s p isRepeat)
        b.getLsbD 7 = !(s.noticeQueue p).items.isEmpty ∧ b.getLsbD 6 = (s.breakin p).pending.isSome
          ∧ b.getLsbD 5 = (s.breakin p).enable ∧ b.getLsbD 4 = (s.noticeQueue p).overrun
          ∧ b.getLsbD 3 = (s.port p).requestOverrun ∧ b.getLsbD 2 = isRepeat ∧ b.getLsbD 1 = (s.port p).control
          ∧ b.getLsbD 0 = false
          ∧ (attention s p = true ↔ (∃ r, (s.port p).exchangeState = .ready r) ∨ (s.noticeQueue p).items ≠ []
            ∨ (s.breakin p).pending ≠ none)

/-- The judgement of the bytes that arrived in an exchange, row by row (R175, R191); a request code accepts the payload
lengths of R190, and a code of no request none. -/
def Obligations.ExchangeJudgesFrames : Prop :=
  judge [] = .noRequest
    ∧ (∀ code : Byte, acceptedLength code = (requestLengths.find? (fun r => decide (r.1 = code.toNat))).map Prod.snd)
    ∧ ∀ (code tag len : Byte) (rest : List Byte),
      (code = 0 → judge (code :: rest) = .noRequest)
      ∧ (code ≠ 0 →
        judge [code] = .answered { code := 0, tag := 0, result := .frameShort, payload := [] }
        ∧ judge [code, tag] = .answered { code := 0, tag := 0, result := .frameShort, payload := [] }
        ∧ (60 < len.toNat →
          judge (code :: tag :: len :: rest) = .answered { code := code, tag := tag, result := .badFrame, payload := [] })
        ∧ (len.toNat ≤ 60 → rest.length < len.toNat →
          judge (code :: tag :: len :: rest) = .answered { code := 0, tag := 0, result := .frameShort, payload := [] })
        ∧ (len.toNat ≤ 60 → len.toNat ≤ rest.length →
          (acceptedLength code = none →
            judge (code :: tag :: len :: rest)
              = .answered { code := code, tag := tag, result := .badRequest, payload := [] })
          ∧ ∀ lo hi, acceptedLength code = some (lo, hi) →
            (len.toNat < lo ∨ hi < len.toNat →
              judge (code :: tag :: len :: rest)
                = .answered { code := code, tag := tag, result := .badFrame, payload := [] })
            ∧ (lo ≤ len.toNat → len.toNat ≤ hi →
              judge (code :: tag :: len :: rest)
                = .request { code := code, tag := tag, payload := rest.take len.toNat })))

/-- At the rise of select delivery is judged, then the frame that arrived is taken or discarded; as many bytes went out
as came in, 00h after the frame's last (R171, R172, R174, R177). That a rise without an exchange in progress has no
effect and the record of what went out are the model's (log entries 8 and 9). -/
def Obligations.ExchangeDeliversThenTakes : Prop :=
  ∀ (p : Port) (bytes : List Byte) (extraBits : Nat) (s : State) (e : Exchange),
    s.supplyLow = false →
    ((s.port p).exchange = none → exec (.exchange p bytes extraBits) s = .next s)
    ∧ ((s.port p).exchange = some e →
      let arrives : Bool := decide (judge bytes ≠ .noRequest)
      let taken : ExchangeState :=
        match judge bytes with
        | .noRequest => .idle
        | .answered r => .ready r
        | .request rq => .working rq
      exec (.exchange p bytes extraBits) s = .next (s.modPort p (fun x =>
        let y : StationPort :=
          match x.exchangeState with
          | .ready r =>
            if e.choice = .held ∧ e.frame.length ≤ bytes.length then
              { x with exchangeState := taken, lastDelivered := some r, requestOverrun := false }
            else { x with requestOverrun := x.requestOverrun || arrives }
          | .idle => { x with exchangeState := taken }
          | .working _ => { x with requestOverrun := x.requestOverrun || arrives }
        { y with exchange := none, lastOut := (e.frame ++ List.replicate bytes.length 0).take bytes.length })))

/-- The frame of every well-formed request, with any tag and whatever is clocked after it, is judged that request, and an
IDLE port that takes it has it in progress for its owning block (R175, R178, R190, R191). -/
def Obligations.RequestFramesReachTheirBlock : Prop :=
  ∀ (c : Instr) (f : RequestFrame) (tag : Byte) (after : List Byte),
    c.wellFormed = true → requestFrame c = some f →
    let bytes := [f.code, tag, BitVec.ofNat 8 f.payload.length] ++ f.payload ++ after
    judge bytes = .request { code := f.code, tag := tag, payload := f.payload }
    ∧ ∀ (s : State) (e : Exchange) (extraBits : Nat), s.supplyLow = false → (s.port f.port).exchangeState = .idle →
      (s.port f.port).exchange = some e →
      ∃ t, exec (.exchange f.port bytes extraBits) s = .next t ∧ t.supplyLow = false
        ∧ t.inProgress c = some (f.port, { code := f.code, tag := tag, payload := f.payload })

/-- No bit of a request's fields is lost in its frame: two requests with one frame are one request (R190). -/
def Obligations.RequestFramesTellCommandsApart : Prop :=
  ∀ (c d : Instr) (f : RequestFrame), requestFrame c = some f → requestFrame d = some f → c = d

/-! ### Every request -/

/-- A request answered with a refusal changes nothing but its port: every result but OK, DUPLICATE, NONE, the UNROUTED of
a RELEASE and the REVOKED of a RESUME is a refusal (R1). -/
def Obligations.RefusedRequestsChangeNothing : Prop :=
  ∀ (c : Instr) (p : Port) (rq : Request) (s t : State) (r : Response), Serving s c p rq →
    exec c s = .next t → (t.port p).exchangeState = .ready r →
    r.result ≠ .ok → r.result ≠ .duplicate → r.result ≠ .none → r.result ≠ .unrouted →
    (r.result = .revoked → ∀ h token, c ≠ .resume p h token) →
    t = responded p rq r.result r.payload s

/-- A handle out of range is answered BAD-FIELD and a handle that is not current STALE-HANDLE, before the state of the slot
is examined (R5); the fields of READ-TEXT, READ-NOTES, WATCH and AMEND are examined first. -/
def Obligations.HandleCheckComesFirst : Prop :=
  ∀ (c : Instr) (p : Port) (rq : Request) (s : State) (h : HandleField), Serving s c p rq → checkedHandle c = some h →
    (reserved c = true → (s.port p).control = true) →
    (191 < h.slot.toNat → exec c s = .next (responded p rq .badField [] s))
    ∧ (∀ k : SlotNo, h.slot.toNat = k.val → h.inc.toNat % 16 ≠ (s.slot k).inc.toNat →
      (∀ i, c = .readText p h i → i.toNat ≤ 63) → (∀ i, c = .readNotes p h i → i.toNat ≤ 3) →
      (∀ v, c = .watch p h v → v.toNat ≤ 1) →
      (∀ f, c = .amend p f → (f.presence.getLsbD 0 = true ∨ f.presence.getLsbD 1 = true)
        ∧ (f.presence.getLsbD 0 = true → f.klass.toNat ≤ 3)) →
      exec c s = .next (responded p rq .staleHandle [] s))

/-- A request reserved to CONTROL ports is answered NOT-CONTROL from any other port, whatever its fields (R143); so is a
LINK-STATE that names another port, once its fields are good (R71). -/
def Obligations.ReservedRequestsNeedControl : Prop :=
  ∀ (c : Instr) (p : Port) (rq : Request) (s : State), Serving s c p rq → (s.port p).control = false →
    (reserved c = true → exec c s = .next (responded p rq .notControl [] s))
    ∧ ∀ (port state : Byte), c = .linkState p port state → port.toNat ≤ 3 → state.toNat ≤ 1 → port.toNat ≠ p.val →
      exec c s = .next (responded p rq .notControl [] s)

/-- A command of one port leaves every other port's exchange state, held response, last delivered response and
REQUEST-OVERRUN as they stand (R170). -/
def Obligations.CommandsLeaveOtherPorts : Prop :=
  ∀ (c : Instr) (s t : State) (q p : Port), commandPort c = some q → p ≠ q → exec c s = .next t → t.port p = s.port p

/-! ### Reading (1.7, 3.7, 4.3, 5.5, 7.7, 10.8) -/

/-- NOP is answered OK with no payload and changes nothing outside its port (R179); CLOCK-READ reports the seconds count,
whether it has saturated, and the divisor that the straps select (R185, R183). -/
def Obligations.NopAndClockReadAnswer : Prop :=
  ∀ (p : Port) (s : State) (rq : Request),
    (Serving s (.nop p) p rq → exec (.nop p) s = .next (responded p rq .ok [] s))
    ∧ (Serving s (.clockRead p) p rq →
      exec (.clockRead p) s = .next (responded p rq .ok
        (be4 s.seconds ++ be1 (if s.seconds = 4294967295 then 1 else 0)
          ++ be4 (match s.timeBase0, s.timeBase1 with
            | false, false => 32768
            | true, false => 1000000
            | false, true => 3686400
            | true, true => 10000000)) s))

/-- CONFIG-READ, STORE-STATUS, PORT-STATUS and ROUTE-READ report the state as it stands and change nothing (R61, R73,
R95, R138), each item in its place and width (11.4, 11.7). The widths of the configuration items, and that what PORT-STATUS
reports as none stands item by item with its absent value, are the model's reading (log entries 10 and 11). A port above 3, a
start index above 23 and an area from 4096 to 65534 are answered BAD-FIELD (R73, R138, R192). -/
def Obligations.StatusReadsReport : Prop :=
  ∀ (p : Port) (s : State) (rq : Request),
    (Serving s (.configRead p) p rq →
      exec (.configRead p) s = .next (responded p rq .ok
        (be1 s.scoring.weightImmediate ++ be1 s.scoring.weightUrgent ++ be1 s.scoring.weightWelfare
          ++ be1 s.scoring.weightRoutine ++ be1 s.scoring.shift ++ be2 s.scoring.penalty ++ be2 s.scoring.lease) s))
    ∧ (Serving s (.storeStatus p) p rq →
      exec (.storeStatus p) s = .next (responded p rq .ok
        (be1 (allSlots.countP (fun k => (s.record k).isNone))
          ++ be1 (s.counted (fun m => decide (m.custody.name = .disposed ∨ m.custody.name = .void)))
          ++ be2 s.freeSegments
          ++ be2 ((allSlots.map (fun k => match s.record k with
            | some m => if m.custody.name = .disposed ∨ m.custody.name = .void then m.segments else 0
            | none => 0)).sum)) s))
    ∧ (∀ (port : Byte) (q : Port), Serving s (.portStatus p port) p rq → port.toNat = q.val →
      exec (.portStatus p port) s = .next (responded p rq .ok
        (boolByte (s.port q).control ++ boolByte (s.breakin q).enable ++ handleBytes (s.breakin q).pending
          ++ classByte ((s.breakin q).pending.bind (fun h => (s.record h.slot).map (fun m => m.klass)))
          ++ (match (s.breakin q).active with
            | none => handleBytes none ++ [0] ++ classByte none ++ be4 0
            | some a => handleBytes (some a.handle) ++ [a.token]
              ++ classByte ((s.record a.handle.slot).map (fun m => m.klass))
              ++ be4 (match ((s.record a.handle.slot).map (fun m => m.custody) : Option Custody) with
                | some (.handed _ deadline _) => deadline
                | some (.suspended _ remaining _) => remaining
                | some (.disposed _ time) => time
                | some .filling | some .queued | some (.held _) | some .void | none => 0))
          ++ be1 (s.breakin q).stack.length
          ++ ((s.breakin q).stack.reverse.map (fun r =>
            handleBytes (some r.handle) ++ [r.token] ++ be1 r.klass.code ++ be4 r.leaseRemaining
              ++ boolByte r.savedEnable ++ boolByte r.revoked)).flatten
          ++ handleBytes ((s.entryOf q).filling.map (fun o => o.handle)) ++ boolByte (s.fences.get q)) s))
    ∧ (∀ port : Byte, Serving s (.portStatus p port) p rq → 3 < port.toNat →
      exec (.portStatus p port) s = .next (responded p rq .badField [] s))
    ∧ (∀ (start : Byte) (area : Half), Serving s (.routeRead p start area) p rq →
      23 < start.toNat ∨ 4095 < area.toNat ∧ area.toNat ≠ 65535 →
      exec (.routeRead p start area) s = .next (responded p rq .badField [] s))
    ∧ (∀ (start : Byte) (area : Half), Serving s (.routeRead p start area) p rq → start.toNat ≤ 23 →
      area.toNat ≤ 4095 ∨ area.toNat = 65535 →
      exec (.routeRead p start area) s = .next (responded p rq .ok
        ([start] ++ be1 (min 8 (24 - start.toNat))
          ++ (((s.routes.toList.drop start.toNat).take 8).map (fun e =>
            be2 (e.first + 8192 * e.port.val + (if e.valid then 32768 else 0)) ++ be2 e.last)).flatten
          ++ portByte s.defaultRoute ++ be1 (portBits s.links) ++ be1 s.outstanding
          ++ (match (if area.toNat = 65535 then none else s.resolveBy area.toNat) with
            | none => [0xFF, 0xFF]
            | some (q, .entry i) => [BitVec.ofNat 8 q.val, BitVec.ofNat 8 i]
            | some (q, .byDefault) => [BitVec.ofNat 8 q.val, 0x40])) s))

/-- The four reads of a record by a port that may read it: the whole header; a segment of the text, or NONE past the
last; a note, or NONE past the last; the whole history. A read of the port's own FILLING message refreshes the entry,
and nothing else changes (R18 to R22, R29). A read of an EMPTY slot is answered WRONG-STATE, one of a FILLING message of
another port NOT-YOURS (R18). A segment index above 63 and a note index above 3 are answered BAD-FIELD, whatever the handle
(R20, R21). That the characters follow their count, one byte each, is the model's reading (log entry
12). -/
def Obligations.ReadsReportRecord : Prop :=
  (∀ (c : Instr) (p : Port) (h : HandleField) (k : SlotNo) (s : State) (rq : Request), Serving s c p rq →
    Names h k s →
    c = .readHeader p h ∨ (∃ i : Byte, c = .readText p h i ∧ i.toNat ≤ 63)
      ∨ (∃ i : Byte, c = .readNotes p h i ∧ i.toNat ≤ 3) ∨ c = .readHistory p h →
    (s.record k = none → exec c s = .next (responded p rq .wrongState [] s))
    ∧ ∀ q, q ≠ p → ∀ m, FillingOn s k m q → exec c s = .next (responded p rq .notYours [] s))
  ∧ (∀ (p : Port) (h : HandleField) (i : Byte) (s : State) (rq : Request),
    (Serving s (.readText p h i) p rq → 63 < i.toNat →
      exec (.readText p h i) s = .next (responded p rq .badField [] s))
    ∧ (Serving s (.readNotes p h i) p rq → 3 < i.toNat →
      exec (.readNotes p h i) s = .next (responded p rq .badField [] s)))
  ∧ ∀ (p : Port) (h : HandleField) (k : SlotNo) (m : Message) (s : State) (rq : Request), Names h k s →
    s.record k = some m → (m.custody = .filling → m.entryPort = p) →
    (Serving s (.readHeader p h) p rq →
      exec (.readHeader p h) s = .next (responded p rq .ok (headerBytes (s.handleOf k) m) (s.afterRead p m)))
    ∧ (∀ i : Byte, Serving s (.readText p h i) p rq → i.toNat ≤ 63 →
      (40 * i.toNat < m.text.length →
        exec (.readText p h i) s = .next (responded p rq .ok
          ([i] ++ be1 ((m.text.drop (40 * i.toNat)).take 40).length ++ (m.text.drop (40 * i.toNat)).take 40
            ++ be2 m.text.length) (s.afterRead p m)))
      ∧ (m.text.length ≤ 40 * i.toNat →
        exec (.readText p h i) s = .next (responded p rq .none (be2 m.text.length) (s.afterRead p m))))
    ∧ (∀ i : Byte, Serving s (.readNotes p h i) p rq → i.toNat ≤ 3 →
      (∀ note, m.notes[i.toNat]? = some note →
        exec (.readNotes p h i) s = .next (responded p rq .ok
          ([i] ++ be1 note.length ++ note ++ be1 m.notes.length) (s.afterRead p m)))
      ∧ (m.notes.length ≤ i.toNat →
        exec (.readNotes p h i) s = .next (responded p rq .none (be1 m.notes.length) (s.afterRead p m))))
    ∧ (Serving s (.readHistory p h) p rq →
      exec (.readHistory p h) s = .next (responded p rq .ok
        (be1 m.history.length ++ be1 m.dropped
          ++ (m.history.map (fun e => be4 e.time ++ portByte e.port ++ be1 e.event.code)).flatten) (s.afterRead p m)))

/-- The places of the fields in the 59-byte message header, each bit and byte that a state leaves unused 0 (11.5, R192); the
custody part is its first 48 bytes. A station field reads as a station exactly where it holds
3 to 8 characters from A to Z, 0 to 9 and the oblique stroke, and only 00h after them (R30, R192). Every result, class, state,
hold reason, history event, notice kind and check status has its code, and the detail of a notice its byte (11.3, 11.4, 11.6); a
handle, a port and a number stand in their bytes, the most significant first, and none has its absent value (11.4). -/
def Obligations.FieldsStandInPlace : Prop :=
  (∀ (h : Handle) (m : Message), m.origin.length ≤ 8 →
      (∀ station serial time, m.custody = .disposed (.relayed station serial) time → station.length ≤ 8) →
      let b := headerBytes h m
      b.length = 59
        ∧ b.take 48 = custodyPart h m
        ∧ b.take 3 = be1 h.slot.val ++ be1 h.inc.toNat ++ be1 m.custody.name.code
        ∧ b[3]? = some (BitVec.ofNat 8
          (m.klass.code + (match m.pendingUpgrade with | some c => 4 + 8 * c.code | none => 0)
            + (if m.declaredCheck.isSome then 32 else 0) + (if m.deadline.isSome then 64 else 0)))
        ∧ (b.drop 4).take 8 = m.origin ++ List.replicate (8 - m.origin.length) 0
        ∧ (b.drop 12).take 8 = be2 m.serial ++ be2 m.day ++ be1 m.hour ++ be1 m.minute ++ be2 m.area
        ∧ (b.drop 20).take 6 = be2 (orZero m.declaredCheck) ++ be4 (orZero m.deadline)
        ∧ (b.drop 26).take 2 = be2 m.words
        ∧ b[28]? = some (BitVec.ofNat 8
          ((match m.entry.map (fun e => e.check) with
            | none => 0 | some .agrees => 1 | some .disagrees => 2 | some .notDeclared => 3)
            + (if m.truncated then 4 else 0) + (if m.substituted then 8 else 0)
            + (match m.custody with
              | .handed _ _ true | .suspended _ _ true => 16
              | .handed _ _ false | .suspended _ _ false | .filling | .queued | .held _ | .disposed _ _ | .void => 0)
            + 32 * m.notes.length))
        ∧ b[29]? = some (BitVec.ofNat 8
          ((if m.watchers.get 0 then 1 else 0) + (if m.watchers.get 1 then 2 else 0)
            + (if m.watchers.get 2 then 4 else 0) + (if m.watchers.get 3 then 8 else 0) + 16 * m.entryPort.val
            + 64 * (match m.custody with
              | .handed q _ _ | .suspended q _ _ => q.val
              | .filling | .queued | .held _ | .disposed _ _ | .void => 0)))
        ∧ (b.drop 30).take 10 = be2 m.text.length ++ be4 (Message.enteredAt m) ++ be4 (Message.number m)
        ∧ (b.drop 40).take 4 = be1 (m.bounces + 16 * m.copies) ++ be2 (twos 16 m.adjust) ++ be1 m.token.toNat
        ∧ (b.drop 44).take 4 = be4 (match m.custody with
          | .handed _ deadline _ => deadline
          | .suspended _ remaining _ => remaining
          | .disposed _ time => time
          | .filling | .queued | .held _ | .void => 0)
        ∧ b.drop 48 = (match m.custody with
          | .held reason => be1 reason.code ++ List.replicate 10 0
          | .disposed (.relayed station serial) _ =>
            [1] ++ station ++ List.replicate (8 - station.length) 0 ++ be2 serial
          | .disposed .delivered _ => [2] ++ List.replicate 10 0
          | .filling | .queued | .handed _ _ _ | .suspended _ _ _ | .void => List.replicate 11 0))
    ∧ (∀ (f : StationField) (chars : List Byte), readStation f = some chars ↔
        3 ≤ chars.length ∧ chars.length ≤ 8
          ∧ (∀ c ∈ chars, 0x41 ≤ c.toNat ∧ c.toNat ≤ 0x5A ∨ 0x30 ≤ c.toNat ∧ c.toNat ≤ 0x39 ∨ c.toNat = 0x2F)
          ∧ f.toList = chars ++ List.replicate (8 - chars.length) 0)
    ∧ ([.ok, .duplicate, .none, .badFrame, .frameShort, .badRequest, .badField, .notControl, .notesFull, .staleHandle,
        .wrongState, .notYours, .entryOpen, .storeLow, .storeFull, .poolLow, .poolFull, .handoffOpen, .noBreakin,
        .staleHandoff, .revoked, .nothingSuspended, .inHand, .notFound, .unrouted, .queueEmpty,
        .suspendedPending] : List Result).map Result.code
      = [0x00, 0x01, 0x02, 0x03, 0x04, 0x05, 0x06, 0x07, 0x08, 0x09, 0x0A, 0x0B, 0x0C, 0x0D, 0x0E, 0x0F, 0x10, 0x11, 0x12,
        0x13, 0x14, 0x15, 0x16, 0x17, 0x18, 0x19, 0x1A]
    ∧ ([.routine, .welfare, .urgent, .immediate] : List Machine.Class).map Class.code = [0, 1, 2, 3]
    ∧ ([.empty, .filling, .queued, .handed, .suspended, .held, .disposed, .void] : List StateName).map StateName.code
      = [0, 1, 2, 3, 4, 5, 6, 7]
    ∧ ([.bounceLimit, .refused, .unrouted, .deadlinePassed, .control] : List HoldReason).map HoldReason.code
      = [1, 2, 3, 4, 5]
    ∧ ([.entered, .handed, .relayed, .delivered, .bounced, .lapsed, .refused, .held, .released, .voided,
        .requeued] : List HistoryEvent).map HistoryEvent.code = [1, 2, 3, 4, 5, 6, 7, 8, 9, 10, 11]
    ∧ ([.queueReady, .breakIn, .stateChange, .revoked, .lapsed, .entryLapsed, .held, .fenceDone,
        .reclaimed] : List NoticeKind).map NoticeKind.code = [1, 2, 3, 4, 5, 6, 7, 8, 9]
    ∧ ([none, some .agrees, some .disagrees, some .notDeclared] : List (Option CheckStatus)).map CheckStatus.code
      = [0, 1, 2, 3]
    ∧ (∀ (c : Machine.Class) (n : StateName) (token : BitVec 8) (r : HoldReason),
      Detail.code .nothing = 0 ∧ Detail.code (.klass c) = c.code
        ∧ Detail.code (.stateAndClass n c) = n.code + 8 * c.code ∧ Detail.code (.token token) = token.toNat
        ∧ Detail.code (.reason r) = r.code)
    ∧ (∀ (h : Handle) (q : Port) (two : BitVec 16) (four : BitVec 32),
      handleBytes (some h) = [BitVec.ofNat 8 h.slot.val, h.inc.zeroExtend 8] ∧ handleBytes none = [0xFF, 0x00]
        ∧ portByte (some q) = [BitVec.ofNat 8 q.val] ∧ portByte none = [0xFF]
        ∧ be2 two.toNat = [two.extractLsb' 8 8, two.extractLsb' 0 8]
        ∧ be4 four.toNat
          = [four.extractLsb' 24 8, four.extractLsb' 16 8, four.extractLsb' 8 8, four.extractLsb' 0 8]
        ∧ twos 16 two.toInt = two.toNat ∧ twos 32 four.toInt = four.toNat)

/-- FIND answers with the one message that holds the key, else with the VOID record that has it and entered VOID last, else
NOT-FOUND, and changes nothing; a station, serial or day out of its range is answered BAD-FIELD (R23). -/
def Obligations.FindLooksUpKeys : Prop :=
  (∀ (p : Port) (station : StationField) (serial day : Half) (s : State) (rq : Request),
    Serving s (.find p station serial day) p rq →
    readStation station = none ∨ serial.toNat = 0 ∨ 9999 < serial.toNat ∨ day.toNat = 0 ∨ 366 < day.toNat →
    exec (.find p station serial day) s = .next (responded p rq .badField [] s))
  ∧ ∀ (p : Port) (station : StationField) (serial day : Half) (origin : List Byte) (s : State) (rq : Request),
    Serving s (.find p station serial day) p rq → readStation station = some origin →
    1 ≤ serial.toNat → serial.toNat ≤ 9999 → 1 ≤ day.toNat → day.toNat ≤ 366 →
    let hasKey := fun m : Message => decide (m.origin = origin ∧ m.serial = serial.toNat ∧ m.day = day.toNat)
    let voids := s.counted (fun m => hasKey m && decide (m.custody = .void))
    let holding := s.counted (fun m => hasKey m && m.holdsKey)
    (∀ (k : SlotNo) (m : Message), s.record k = some m → hasKey m = true →
      m.holdsKey = true ∧ holding = 1
        ∨ m.custody = .void ∧ holding = 0 ∧ (∃ earlier later, s.retained = earlier ++ s.handleOf k :: later
          ∧ ∀ x ∈ later, (s.record x.slot).any (fun e => hasKey e && decide (e.custody = .void)) = false) →
      exec (.find p station serial day) s = .next (responded p rq .ok
        (handleBytes (some (s.handleOf k)) ++ be1 m.custody.name.code ++ be1 m.klass.code ++ be4 (Message.number m)
          ++ be1 m.copies ++ be1 voids) s))
    ∧ (holding = 0 → voids = 0 →
      exec (.find p station serial day) s = .next (responded p rq .notFound [] s))

/-! ### Entering traffic (chapter 2) and capacity (chapter 3) -/

/-- ENTER-BEGIN allocates the lowest EMPTY slot and opens the entry; where no slot is EMPTY, the record at the head of the
retained list is reclaimed first, with RECLAIMED to its watchers (R32, R55, R56). -/
def Obligations.EnterBeginOpensEntry : Prop :=
  ∀ (p : Port) (f : EnterBeginFields) (origin : List Byte) (c : Machine.Class) (k : SlotNo) (s : State) (rq : Request),
    Serving s (.enterBegin p f) p rq → (s.entryOf p).filling = none → HeaderInRange f origin → c.code = f.klass.toNat →
    (s.record k = none → (∀ j : SlotNo, j.val < k.val → s.record j ≠ none) →
      2 ≤ f.klass.toNat ∨ 8 < s.emptySlots + s.retainedRecords →
      exec (.enterBegin p f) s = .next (responded p rq .ok (handleBytes (some (s.handleOf k)))
        ((s.withRecord k (begun p c origin f)).modEntry p (fun _ =>
          { filling := some { handle := s.handleOf k, lastActivity := s.seconds }, spaceCarry := true }))))
    ∧ (∀ (old : Message) (rest : List Handle), (∀ j, s.record j ≠ none) → s.retained = s.handleOf k :: rest →
      s.record k = some old → 2 ≤ f.klass.toNat ∨ 8 < s.retainedRecords →
      let freed := (s.told old.watchers
        { kind := .reclaimed, handle := some (s.handleOf k), detail := .nothing, time := s.seconds }).withoutRecord k old
      exec (.enterBegin p f) s = .next (responded p rq .ok (handleBytes (some (freed.handleOf k)))
        ((freed.withRecord k (begun p c origin f)).modEntry p (fun _ =>
          { filling := some { handle := freed.handleOf k, lastActivity := s.seconds }, spaceCarry := true }))))

/-- The refusals of ENTER-BEGIN; of an APPEND-TEXT for its length, for the state of the slot, for another port's entry and
for want of segments; and of an ADD-NOTE for want of segments (R31, R33, R56, R57, R155). -/
def Obligations.ReservesRefuse : Prop :=
  ∀ (p : Port) (s : State) (rq : Request),
    (∀ (f : EnterBeginFields), Serving s (.enterBegin p f) p rq →
      (∀ o, (s.entryOf p).filling = some o →
        exec (.enterBegin p f) s = .next (responded p rq .entryOpen (handleBytes (some o.handle)) s))
      ∧ ((s.entryOf p).filling = none → (∀ origin, ¬ HeaderInRange f origin) →
        exec (.enterBegin p f) s = .next (responded p rq .badField [] s))
      ∧ (∀ origin, (s.entryOf p).filling = none → HeaderInRange f origin →
        (f.klass.toNat ≤ 1 → s.emptySlots + s.retainedRecords ≤ 8 →
          exec (.enterBegin p f) s = .next (responded p rq .storeLow [] s))
        ∧ (2 ≤ f.klass.toNat → s.emptySlots = 0 → s.retained = [] →
          exec (.enterBegin p f) s = .next (responded p rq .storeFull [] s))))
    ∧ (∀ (h : HandleField) (k : SlotNo) (chars : List Byte), Serving s (.appendText p h chars) p rq → Names h k s →
      (chars.length = 0 ∨ 40 < chars.length → exec (.appendText p h chars) s = .next (responded p rq .badField [] s))
      ∧ (1 ≤ chars.length → chars.length ≤ 40 →
        ((∀ m, s.record k = some m → m.custody ≠ .filling) →
          exec (.appendText p h chars) s = .next (responded p rq .wrongState [] s))
        ∧ ∀ q, q ≠ p → ∀ m, FillingOn s k m q →
          exec (.appendText p h chars) s = .next (responded p rq .notYours [] s)))
    ∧ (∀ (h : HandleField) (k : SlotNo) (m : Message) (chars : List Byte), Names h k s → s.record k = some m →
      1 ≤ chars.length → chars.length ≤ 40 →
      (Serving s (.appendText p h chars) p rq → FillingOn s k m p →
        (m.text.length + 39) / 40 < (m.text.length + (chars.take (2560 - m.text.length)).length + 39) / 40 →
        (m.klass.code ≤ 1 → s.freeSegments + s.retainedSegments < 65 →
          exec (.appendText p h chars) s = .next (responded p rq .poolLow [] s))
        ∧ (2 ≤ m.klass.code → s.freeSegments + s.retainedSegments = 0 →
          exec (.appendText p h chars) s = .next (responded p rq .poolFull [] s)))
      ∧ (Serving s (.addNote p h chars) p rq → (s.port p).control = true → m.inTraffic = true → m.notes.length < 4 →
        s.freeSegments + s.retainedSegments = 0 →
        exec (.addNote p h chars) s = .next (responded p rq .poolFull [] s)))

/-- APPEND-TEXT stores the characters that fit, substitutes, counts words and takes the segment it needs, where the pool
holds it and the reserve allows it (R34 to R38, R57). -/
def Obligations.AppendStoresText : Prop :=
  ∀ (p : Port) (h : HandleField) (k : SlotNo) (m : Message) (chars : List Byte) (s : State) (rq : Request),
    Serving s (.appendText p h chars) p rq → Names h k s → FillingOn s k m p → 1 ≤ chars.length → chars.length ≤ 40 →
    let offered := chars.take (2560 - m.text.length)
    let stored := offered.map (fun c => if 0x20 ≤ c.toNat ∧ c.toNat ≤ 0x7E then c else 0x3F)
    let need := (m.text.length + stored.length + 39) / 40 - (m.text.length + 39) / 40
    let counted := countWords m.words (s.entryOf p).spaceCarry stored
    need = 0 ∨ 2 ≤ m.klass.code ∧ need ≤ s.freeSegments + s.retainedSegments
      ∨ 64 + need ≤ s.freeSegments + s.retainedSegments →
    need ≤ s.freeSegments ∨ s.storeSound →
    exec (.appendText p h chars) s = .next (responded p rq .ok
      (be1 stored.length ++ be2 (m.text.length + stored.length) ++ be2 counted.1)
      (((takeSegments need s).withRecord k
        { m with
          text := m.text ++ stored
          substituted := m.substituted || offered.any (fun c => !decide (0x20 ≤ c.toNat ∧ c.toNat ≤ 0x7E))
          truncated := m.truncated || decide (stored.length < chars.length)
          words := counted.1 }).modEntry p (fun x =>
            { filling := x.filling.map (fun o => { o with lastActivity := s.seconds }), spaceCarry := counted.2 })))

/-- The word count of a text is the number of runs of characters other than the space, at most 999, however the text is
divided into appends; the carry is yes exactly after a space, whether or not the count has stopped (R38). -/
def Obligations.WordsAreRunsOfNonSpaces : Prop :=
  (∀ text, (countWords 0 true text).1 = min 999 (runStarts true text))
    ∧ (∀ words carry first second, countWords words carry (first ++ second)
      = countWords (countWords words carry first).1 (countWords words carry first).2 second)
    ∧ ∀ words carry text c, (countWords words carry (text ++ [c])).2 = decide (c = 0x20)

/-- ENTER-END accepts a message whose key no slot holds: it is numbered and stamped, its deadline becomes a time,
ENTERED opens its history, the entry ends, and it is HELD(UNROUTED), HELD(DEADLINE-PASSED) or joins the queue that its
area resolves to (R39, R40, R43 to R45, R98). That absent items stand in the payload with their absent values is the
model's reading (log entry 10). -/
def Obligations.EnterEndAccepts : Prop :=
  ∀ (p : Port) (h : HandleField) (k : SlotNo) (m : Message) (s : State) (rq : Request),
    Serving s (.enterEnd p h) p rq → Names h k s → FillingOn s k m p → m.watchers = Vector.replicate 4 false →
    m.pendingUpgrade = none → KeyFree s m → ∀ passed : Nat, passed ≤ 192 →
    (∀ i, i < passed → s.numberInUse (numberAfter i s.nextEntryNumber) = true) →
    s.numberInUse (numberAfter passed s.nextEntryNumber) = false →
    let n := numberAfter passed s.nextEntryNumber
    let status : CheckStatus :=
      match m.declaredCheck with
      | none => .notDeclared
      | some d => if d = m.words then .agrees else .disagrees
    let entered : Message := Message.log s.seconds (some p) .entered
      { m with
        entry := some { time := s.seconds, number := n, check := status }
        deadline := m.deadline.map (fun minutes => min (s.seconds + minutes * 60) 4294967295) }
    let settled : Message :=
      if s.resolve m.area = none then
        Message.log s.seconds (some p) .held { entered with custody := .held .unrouted }
      else if Message.deadlinePassed s.seconds entered = true then
        Message.log s.seconds (some p) .held { entered with custody := .held .deadlinePassed }
      else { entered with custody := .queued }
    exec (.enterEnd p h) s = .next (responded p rq .ok
      (handleBytes (some (s.handleOf k)) ++ be1 settled.custody.name.code
        ++ portByte (if settled.custody = .queued then s.resolve m.area else none) ++ reasonByte settled.custody.reason
        ++ be4 n ++ be4 s.seconds ++ be2 m.words ++ be1 (CheckStatus.code (some status)) ++ be2 m.text.length
        ++ attributesByte m.truncated m.substituted)
      (({ s.withoutEntry p with nextEntryNumber := if 4294967295 ≤ n then 1 else n + 1 } : State).leftAs k settled))

/-- ENTER-END of a copy whose key a slot holds credits the existing message with one more copy heard, raises its class
or records the pending upgrade, frees the new copy, and is answered DUPLICATE; no number is assigned (R41, R42). The
absent upgrade stands as 0 in the payload (log entry 10). -/
def Obligations.EnterEndCreditsDuplicate : Prop :=
  ∀ (p : Port) (h : HandleField) (k j : SlotNo) (m e : Message) (s : State) (rq : Request),
    Serving s (.enterEnd p h) p rq → Names h k s → FillingOn s k m p →
    s.keyHolder m.origin m.serial m.day = some j → s.record j = some e →
    let higher := decide (e.klass.code < m.klass.code)
    let raised := higher && (decide (e.custody.name = .queued) || decide (e.custody.name = .held))
    let recorded := higher && (decide (e.custody.name = .handed) || decide (e.custody.name = .suspended))
    let credited : Message :=
      { e with
        copies := min (e.copies + 1) 15
        klass := if raised then m.klass else e.klass
        pendingUpgrade :=
          if recorded then
            match e.pendingUpgrade with
            | some c => if c.code < m.klass.code then some m.klass else some c
            | none => some m.klass
          else e.pendingUpgrade }
    let s₁ := s.withRecord j credited
    let s₂ :=
      if raised = true ∨ credited.pendingUpgrade ≠ e.pendingUpgrade then s₁.told e.watchers (stateChange s j credited)
      else s₁
    let s₃ :=
      match raised, s.queueOf j with
      | true, some q => breakInCheck q s₂
      | _, _ => s₂
    exec (.enterEnd p h) s = .next (responded p rq .duplicate
      (handleBytes (some (s.handleOf j)) ++ be1 e.custody.name.code ++ be1 credited.klass.code
        ++ classByte credited.pendingUpgrade ++ be1 credited.copies)
      ((s₃.withoutRecord k m).withoutEntry p))

/-- ENTER-CANCEL frees the message and ends its entry; PURGE sends RECLAIMED to the watchers of a DISPOSED or VOID record
and frees it; each reports the old handle and the segments returned (R46, R54, R55, R60). ENTER-END and ENTER-CANCEL of
what is no FILLING message are answered WRONG-STATE, of another port's entry NOT-YOURS (R39, R46), and PURGE of any other
record WRONG-STATE (R60). A segment taken while the pool
holds one comes from the pool alone; one taken from an empty pool reclaims records from the head of the retained list, up
to and including the first that holds a segment, and no other, each with RECLAIMED to its watchers, oldest record first (R55,
R58). -/
def Obligations.FreeingAndReclamation : Prop :=
  (∀ (p : Port) (h : HandleField) (k : SlotNo) (m : Message) (s : State) (rq : Request), Names h k s →
      (Serving s (.enterCancel p h) p rq → FillingOn s k m p →
        exec (.enterCancel p h) s = .next (responded p rq .ok
          (handleBytes (some (s.handleOf k)) ++ be2 m.segments) ((s.withoutRecord k m).withoutEntry p)))
      ∧ (Serving s (.purge p h) p rq → (s.port p).control = true → s.record k = some m →
        m.custody.name = .disposed ∨ m.custody.name = .void →
        exec (.purge p h) s = .next (responded p rq .ok
          (handleBytes (some (s.handleOf k)) ++ be2 m.segments)
          ((s.told m.watchers
            { kind := .reclaimed, handle := some (s.handleOf k), detail := .nothing, time := s.seconds }).withoutRecord
              k m)))
      ∧ (∀ c, c = .enterEnd p h ∨ c = .enterCancel p h → Serving s c p rq →
        ((∀ e, s.record k = some e → e.custody ≠ .filling) → exec c s = .next (responded p rq .wrongState [] s))
        ∧ ∀ q, q ≠ p → FillingOn s k m q → exec c s = .next (responded p rq .notYours [] s))
      ∧ (Serving s (.purge p h) p rq → (s.port p).control = true →
        (∀ e, s.record k = some e → e.custody.name ≠ .disposed ∧ e.custody.name ≠ .void) →
        exec (.purge p h) s = .next (responded p rq .wrongState [] s)))
    ∧ (∀ (s : State) (n : Nat), n ≤ 1 → n ≤ s.freeSegments →
        takeSegments n s = { s with freeSegments := s.freeSegments - n })
    ∧ ∀ (s : State) (before after : List Handle) (h : Handle) (m : Message),
        s.freeSegments = 0 → s.retained = before ++ h :: after → s.retained.Nodup →
        (∀ x ∈ s.retained, s.handleOf x.slot = x) →
        (∀ x ∈ before, ∃ e, s.record x.slot = some e ∧ e.segments = 0) → s.record h.slot = some m → 1 ≤ m.segments →
        let u := takeSegments 1 s
        u.retained = after ∧ u.freeSegments = m.segments - 1
          ∧ (∀ x ∈ before ++ [h], u.slot x.slot = { inc := (s.slot x.slot).inc + 1, record := none })
          ∧ (∀ k, (∀ x ∈ before ++ [h], x.slot ≠ k) → u.slot k = s.slot k)
          ∧ u.noticeQueues = ((before ++ [h]).foldl (fun (t : State) x =>
            match s.record x.slot with
            | some e => t.told e.watchers { kind := .reclaimed, handle := some x, detail := .nothing, time := s.seconds }
            | none => t) s).noticeQueues
          ∧ u = { s with
            slots := u.slots, retained := u.retained, freeSegments := u.freeSegments, noticeQueues := u.noticeQueues }

/-- The Entry Unit's taking of a tick: each entry idle for 300 seconds ends, its message is freed and ENTRY-LAPSED goes to
its port; every other entry and slot stands (R47). A tick that has been taken is not taken again (log entry 3). -/
def Obligations.IdleEntriesTimeOut : Prop :=
  ∀ s : State, s.supplyLow = false →
    (s.entryTick = false → exec .entryIdleTimeout s = .next s)
    ∧ (s.entryTick = true → ∃ u, exec .entryIdleTimeout s = .next u
      ∧ (∀ p, u.entryOf p =
        if (idleEntry s p).isSome then { filling := none, spaceCarry := true } else s.entryOf p)
      ∧ (∀ k, u.slot k =
        if (∃ p, (idleEntry s p).map (fun h => h.slot) = some k) ∧ s.record k ≠ none then
          { inc := (s.slot k).inc + 1, record := none }
        else s.slot k)
      ∧ (∀ p, u.noticeQueue p =
        match idleEntry s p with
        | some h => NoticeQueue.join { kind := .entryLapsed, handle := some h, detail := .nothing, time := s.seconds }
            (s.noticeQueue p)
        | none => s.noticeQueue p)
      ∧ (s.segmentsKept → u.segmentsKept)
      ∧ u = { s with
        entryTick := false, entries := u.entries, slots := u.slots, noticeQueues := u.noticeQueues
        freeSegments := u.freeSegments, retained := u.retained })

/-! ### Routing (chapter 4) -/

/-- An area resolves to the port of the first entry that is valid, covers it and names a port whose link is UP, else to the
default route's port if its link is UP, else to none; a port whose link is DOWN has an empty queue (R66). -/
def Obligations.AreasResolveInTableOrder : Prop :=
  ∀ (s : State) (area : Nat) (p : Port),
    let decides := fun i : Fin 24 =>
      (s.routes.get i).valid = true ∧ (s.routes.get i).first ≤ area ∧ area ≤ (s.routes.get i).last
        ∧ s.links.get (s.routes.get i).port = true
    (s.resolve area = some p ↔
      (∃ i, decides i ∧ (s.routes.get i).port = p ∧ ∀ j, j.val < i.val → ¬ decides j)
        ∨ ((∀ i, ¬ decides i) ∧ s.defaultRoute = some p ∧ s.links.get p = true))
    ∧ (s.links.get p = false → s.resolve area ≠ some p ∧ s.queue p = [])

/-- ROUTE-SET, ROUTE-CLEAR, DEFAULT-ROUTE and LINK-STATE give the routing state the value they carry; where that alters it,
the open handoffs are marked, the queued and the unrouted traffic is re-resolved with its notices, and the new membership
of the queues is handed over; the answer is the account of the effect (R67 to R77). An index, area, port or state out of its
range, and a last area below the first, are answered BAD-FIELD (R68 to R71). -/
def Obligations.RoutingRequestsChangeRouting : Prop :=
  ∀ (p : Port) (s : State) (rq : Request),
    (∀ (index : Byte) (first last : Half) (port : Byte), Serving s (.routeSet p index first last port) p rq →
      (s.port p).control = true →
      23 < index.toNat ∨ 4095 < first.toNat ∨ 4095 < last.toNat ∨ last.toNat < first.toNat ∨ 3 < port.toNat →
      exec (.routeSet p index first last port) s = .next (responded p rq .badField [] s))
    ∧ (∀ index : Byte, Serving s (.routeClear p index) p rq → (s.port p).control = true → 23 < index.toNat →
      exec (.routeClear p index) s = .next (responded p rq .badField [] s))
    ∧ (∀ port : Byte, Serving s (.defaultRoute p port) p rq → (s.port p).control = true → 3 < port.toNat →
      port.toNat ≠ 255 → exec (.defaultRoute p port) s = .next (responded p rq .badField [] s))
    ∧ (∀ port state : Byte, Serving s (.linkState p port state) p rq → 3 < port.toNat ∨ 1 < state.toNat →
      exec (.linkState p port state) s = .next (responded p rq .badField [] s))
    ∧ (∀ (index : Byte) (first last : Half) (port : Byte) (i : Fin 24) (q : Port),
      Serving s (.routeSet p index first last port) p rq → (s.port p).control = true → index.toNat = i.val →
      port.toNat = q.val → first.toNat ≤ last.toNat → last.toNat ≤ 4095 →
      let e := s.routes.get i
      ∃ u payload, exec (.routeSet p index first last port) s = .next (responded p rq .ok payload u)
        ∧ RoutingDone p
          (!e.valid || decide (e.first ≠ first.toNat) || decide (e.last ≠ last.toNat) || decide (e.port ≠ q)) s
          { s with routes := vmod s.routes i (fun _ =>
            { first := first.toNat, last := last.toNat, port := q, valid := true }) } u payload)
    ∧ (∀ (index : Byte) (i : Fin 24), Serving s (.routeClear p index) p rq → (s.port p).control = true →
      index.toNat = i.val →
      ∃ u payload, exec (.routeClear p index) s = .next (responded p rq .ok payload u)
        ∧ RoutingDone p (s.routes.get i).valid s
          { s with routes := vmod s.routes i (fun e => { e with valid := false }) } u payload)
    ∧ (∀ (port : Byte) (d : Option Port), Serving s (.defaultRoute p port) p rq → (s.port p).control = true →
      port.toNat = (match d with | some q => q.val | none => 255) →
      ∃ u payload, exec (.defaultRoute p port) s = .next (responded p rq .ok payload u)
        ∧ RoutingDone p (decide (s.defaultRoute ≠ d)) s { s with defaultRoute := d } u payload)
    ∧ (∀ (port state : Byte) (q : Port) (up : Bool), Serving s (.linkState p port state) p rq →
      port.toNat = q.val → state.toNat = (if up then 1 else 0) → q = p ∨ (s.port p).control = true →
      ∃ u payload, exec (.linkState p port state) s = .next (responded p rq .ok payload u)
        ∧ RoutingDone p (decide (s.links.get q ≠ up)) s { s with links := vmod s.links q (fun _ => up) } u payload)

/-- FENCE with no mark outstanding is complete at once; with marks it reports their number and the port's fence becomes
pending (R79). The order of the two items of the response is the model's reading (log entry 26). -/
def Obligations.FenceWaitsForMarks : Prop :=
  ∀ (p : Port) (s : State) (rq : Request), Serving s (.fence p) p rq →
    (s.outstanding = 0 → exec (.fence p) s = .next (responded p rq .ok [1, 0] s))
    ∧ (s.outstanding ≠ 0 →
      exec (.fence p) s = .next (responded p rq .ok (be1 0 ++ be1 s.outstanding)
        { s with fences := vmod s.fences p (fun _ => true) }))

/-! ### Scoring (chapter 5) -/

/-- The age, the aged term and the full sum of an evaluation are computed exactly, and each has its range (R84 to R86).
The clamped score lies in the band of its class, equals the sum where that lies in it, and is clamped at a bound only by a
sum beyond it; so each IMMEDIATE message precedes each other message (R87). -/
def Obligations.EvaluationIsExactAndInBand : Prop :=
  (∀ (c : Scoring) (now : Nat) (k : SlotNo) (m : Message) (e : Entry), m.entry = some e →
      let minutes := if 65535 < (now - e.time) / 60 then 65535 else (now - e.time) / 60
      let weight :=
        match m.klass with
        | .immediate => c.weightImmediate
        | .urgent => c.weightUrgent
        | .welfare => c.weightWelfare
        | .routine => c.weightRoutine
      let aged := if c.shift = 0 then minutes * weight * 2 else minutes * weight / 2 ^ (c.shift - 1)
      let base : Int := 8192 * m.klass.code
      (evaluate c now k m).sum = base + aged - m.bounces * c.penalty + m.adjust
        ∧ (weight ≤ 255 → minutes * weight ≤ 16711425 ∧ aged ≤ 33422850 / 2 ^ c.shift)
        ∧ (weight ≤ 255 → c.penalty ≤ 4095 → m.bounces ≤ 6 → -4096 ≤ m.adjust → m.adjust ≤ 4095 →
          -28666 ≤ (evaluate c now k m).sum ∧ (evaluate c now k m).sum ≤ 33451521))
    ∧ ∀ (c : Scoring) (now : Nat) (k : SlotNo) (m : Message),
        let e := evaluate c now k m
        let low : Int := if m.klass = .immediate then 24576 else 0
        let high : Int := if m.klass = .immediate then 32767 else 24575
        low ≤ e.score ∧ e.score ≤ high
          ∧ (e.sum < low → e.score = low ∧ e.clamp = .raised) ∧ (high < e.sum → e.score = high ∧ e.clamp = .lowered)
          ∧ (low ≤ e.sum → e.sum ≤ high → e.score = e.sum ∧ e.clamp = .kept)
          ∧ ∀ (j : SlotNo) (n : Message), m.klass = .immediate → n.klass ≠ .immediate →
            (evaluate c now j n).score < e.score ∧ Evaluation.leads e (evaluate c now j n) = true
              ∧ Evaluation.leads (evaluate c now j n) e = false

/-- The queue order holds every evaluated message once, and each ahead of those behind it by K, then S, then the lower entry
number; with distinct entry numbers no two are level (R90). -/
def Obligations.QueueOrderIsTotal : Prop :=
  ∀ es : List Evaluation,
    (inQueueOrder es).Perm es
      ∧ (inQueueOrder es).Pairwise (fun a b =>
        b.score < a.score ∨ a.score = b.score ∧ (b.sum < a.sum ∨ a.sum = b.sum ∧ a.number ≤ b.number))
      ∧ (es.Pairwise (fun a b => a.number ≠ b.number) →
        ∀ fs, fs.Perm es → inQueueOrder fs = inQueueOrder es)

/-- CONFIGURE sets each item present, the penalty and the lease period clamped to their ranges and marked where clamped,
keeps each item absent, and changes nothing else (R92, R93). The widths of the response's items are the model's reading
(log entry 11). -/
def Obligations.ConfigureSetsItems : Prop :=
  ∀ (p : Port) (f : ConfigureFields) (s : State) (rq : Request), Serving s (.configure p f) p rq →
    (s.port p).control = true →
    let item := fun (bit given kept : Nat) => if f.mask.getLsbD bit then given else kept
    let penalty := if 4095 < f.penalty.toNat then 4095 else f.penalty.toNat
    let lease := if f.lease.toNat < 60 then 60 else if 3600 < f.lease.toNat then 3600 else f.lease.toNat
    let after : Scoring :=
      { weightImmediate := item 0 f.weightImmediate.toNat s.scoring.weightImmediate
        weightUrgent := item 1 f.weightUrgent.toNat s.scoring.weightUrgent
        weightWelfare := item 2 f.weightWelfare.toNat s.scoring.weightWelfare
        weightRoutine := item 3 f.weightRoutine.toNat s.scoring.weightRoutine
        shift := item 4 (f.shift.toNat % 8) s.scoring.shift
        penalty := item 5 penalty s.scoring.penalty
        lease := item 6 lease s.scoring.lease }
    exec (.configure p f) s = .next (responded p rq .ok
      (be1 after.weightImmediate ++ be1 after.weightUrgent ++ be1 after.weightWelfare ++ be1 after.weightRoutine
        ++ be1 after.shift ++ be2 after.penalty ++ be2 after.lease
        ++ be1 ((if f.mask.getLsbD 5 = true ∧ penalty ≠ f.penalty.toNat then 32 else 0)
          + (if f.mask.getLsbD 6 = true ∧ lease ≠ f.lease.toNat then 64 else 0)))
      { s with scoring := after })

/-! ### Queues and handoffs (chapter 6) -/

/-- QUEUE-LIST evaluates every member of the queue, reports its time, its length, its flags with those just set, and up to
five members from the start rank on, in 10 bytes each, and clears both flags (R89, R101, 11.6). A queue above 3 and a rank
above 191 are answered BAD-FIELD (R101). -/
def Obligations.QueueListReportsAndClears : Prop :=
  (∀ (p : Port) (queue rank : Byte) (s : State) (rq : Request), Serving s (.queueList p queue rank) p rq →
    3 < queue.toNat ∨ 191 < rank.toNat →
    exec (.queueList p queue rank) s = .next (responded p rq .badField [] s))
  ∧ ∀ (p : Port) (queue rank : Byte) (q : Port) (s : State) (rq : Request), Serving s (.queueList p queue rank) p rq →
    queue.toNat = q.val → rank.toNat ≤ 191 →
    let es := s.ranked (s.queue q)
    let topped := (s.flagsOf q).topped || es.any (fun e => decide (e.clamp = .lowered))
    let floored := (s.flagsOf q).floored || es.any (fun e => decide (e.clamp = .raised))
    let shown := (es.drop rank.toNat).take 5
    exec (.queueList p queue rank) s = .next (responded p rq .ok
      (be4 s.seconds ++ be1 es.length ++ be1 ((if topped then 1 else 0) + (if floored then 2 else 0)) ++ be1 shown.length
        ++ (shown.map (fun e =>
          match s.record e.slot with
          | none => []
          | some m =>
            be1 e.slot.val
              ++ be1 ((s.slot e.slot).inc.toNat + 16 * m.klass.code
                + 64 * (match e.clamp with | .kept => 0 | .raised => 1 | .lowered => 2))
              ++ be4 e.number ++ be4 ((e.sum % 67108864).toNat + 67108864 * m.bounces))).flatten)
      (s.modFlags q (fun _ => { topped := false, floored := false })))

/-- NEXT hands the first message of the port's queue to it: HANDED, the token one further, a lease of the period in force, no
mark, HANDED in its history, the port's active handoff, STATE-CHANGE to its watchers; and its three refusals (R102, R103,
R104, R88). A port with no active handoff has no break-in pending, by the law of R126. -/
def Obligations.NextHandsOutTheFirst : Prop :=
  ∀ (p : Port) (s : State) (rq : Request), Serving s (.next p) p rq →
    (∀ a, (s.breakin p).active = some a →
      exec (.next p) s = .next (responded p rq .handoffOpen (handleBytes (some a.handle) ++ be1 a.token.toNat) s))
    ∧ ((s.breakin p).active = none → (s.breakin p).stack ≠ [] →
      exec (.next p) s = .next (responded p rq .suspendedPending (be1 (s.breakin p).stack.length) s))
    ∧ ((s.breakin p).active = none → (s.breakin p).stack = [] → s.queue p = [] →
      exec (.next p) s = .next (responded p rq .queueEmpty [] s))
    ∧ (∀ (e : Evaluation) (es : List Evaluation) (m : Message), (s.breakin p).active = none → (s.breakin p).stack = [] →
      (s.breakin p).pending = none → s.ranked (s.queue p) = e :: es → s.record e.slot = some m →
      let handed : Message := Message.log s.seconds (some p) .handed
        { m with
          custody := .handed p (min (s.seconds + s.scoring.lease) 4294967295) false
          token := m.token + 1 }
      exec (.next p) s = .next (responded p rq .ok
        (custodyPart (s.handleOf e.slot) handed ++ be2 (twos 16 e.score) ++ be4 (twos 32 e.sum))
        ((((s.modFlags p (fun f =>
          { topped := f.topped || (e :: es).any (fun x => decide (x.clamp = .lowered))
            floored := f.floored || (e :: es).any (fun x => decide (x.clamp = .raised)) })).withRecord
              e.slot handed).modBreakin p (fun b =>
                { b with active := some { handle := s.handleOf e.slot, token := m.token + 1 } })).told
                  m.watchers (stateChange s e.slot handed))))

/-- EXTEND renews the lease of the handoff it names by handle and token, and changes no other field; a slot above 191, and an
outcome, station or serial of DISPOSE out of its range, are answered BAD-FIELD, and then the handoff check of EXTEND and
DISPOSE refuses every handoff that is not the port's own open one (R105, R106, R107). -/
def Obligations.ExtendRenewsTheNamedLease : Prop :=
  (∀ (p : Port) (s : State) (rq : Request),
    (∀ (h : HandleField) (token : Byte), Serving s (.extend p h token) p rq → 191 < h.slot.toNat →
      exec (.extend p h token) s = .next (responded p rq .badField [] s))
    ∧ ∀ f : DisposeFields, Serving s (.dispose p f) p rq →
      191 < f.handle.slot.toNat ∨ f.outcome.toNat = 0 ∨ 4 < f.outcome.toNat
        ∨ f.outcome.toNat = 1 ∧ (readStation f.station = none ∨ f.serial.toNat = 0 ∨ 9999 < f.serial.toNat) →
      exec (.dispose p f) s = .next (responded p rq .badField [] s))
  ∧ ∀ (p : Port) (h : HandleField) (token : Byte) (k : SlotNo) (s : State) (rq : Request), h.slot.toNat = k.val →
    (∀ (m : Message) (deadline : Nat) (mark : Bool), Serving s (.extend p h token) p rq → Names h k s →
      s.record k = some m → m.custody = .handed p deadline mark → token = m.token →
      let renewed := min (s.seconds + s.scoring.lease) 4294967295
      exec (.extend p h token) s = .next (responded p rq .ok
        (handleBytes (some (s.handleOf k)) ++ [token] ++ be4 renewed)
        (s.withRecord k { m with custody := .handed p renewed mark })))
    ∧ (∀ c : Instr, Serving s c p rq →
      (c = .extend p h token
        ∨ ∃ f : DisposeFields, c = .dispose p f ∧ f.handle = h ∧ f.token = token
          ∧ (2 ≤ f.outcome.toNat ∧ f.outcome.toNat ≤ 4
            ∨ f.outcome.toNat = 1 ∧ (readStation f.station).isSome = true ∧ 1 ≤ f.serial.toNat ∧ f.serial.toNat ≤ 9999)) →
      (h.inc.toNat % 16 ≠ (s.slot k).inc.toNat → exec c s = .next (responded p rq .staleHandoff [] s))
      ∧ (Names h k s → s.record k = none → exec c s = .next (responded p rq .staleHandoff [] s))
      ∧ (∀ m : Message, Names h k s → s.record k = some m →
        (m.custody.name ≠ .void → m.custody.holder ≠ some p ∨ token ≠ m.token →
          exec c s = .next (responded p rq .staleHandoff [] s))
        ∧ (m.custody.name = .suspended → m.custody.holder = some p → token = m.token →
          exec c s = .next (responded p rq .wrongState [] s))
        ∧ (∀ older last before, m.custody = .void → m.history = older ++ [before, last] →
          ((before.event = .handed ∧ before.port = some p ∧ token = m.token) →
            exec c s = .next (responded p rq .revoked [] s))
          ∧ (¬ (before.event = .handed ∧ before.port = some p ∧ token = m.token) →
            exec c s = .next (responded p rq .staleHandoff [] s)))))

/-- A DISPOSE of RELAYED or DELIVERED ends the handoff and makes the message DISPOSED: the disposition, the history, the
tail of the retained list, STATE-CHANGE, and FENCE-DONE where the last mark went (R107 to R109, R78). Absent items stand
in the payload with their absent values (log entry 10). -/
def Obligations.DisposeEndsCustody : Prop :=
  ∀ (p : Port) (f : DisposeFields) (k : SlotNo) (m : Message) (deadline : Nat) (mark : Bool) (s : State) (rq : Request)
    (outcome : Disposal) (event : HistoryEvent),
    Serving s (.dispose p f) p rq → Names f.handle k s → s.record k = some m → m.custody = .handed p deadline mark →
    f.token = m.token →
    (f.outcome.toNat = 2 ∧ outcome = .delivered ∧ event = .delivered
      ∨ f.outcome.toNat = 1 ∧ 1 ≤ f.serial.toNat ∧ f.serial.toNat ≤ 9999 ∧ event = .relayed
        ∧ (readStation f.station).map (fun st => Disposal.relayed st f.serial.toNat) = some outcome) →
    let after := Message.log s.seconds (some p) event { m with custody := .disposed outcome s.seconds }
    exec (.dispose p f) s = .next (responded p rq .ok
      (handleBytes (some (s.handleOf k)) ++ [f.outcome] ++ be1 m.token.toNat ++ be1 m.bounces ++ be1 6 ++ be1 255 ++ be1 0)
      ((({ (s.withoutActive p).withRecord k after with retained := s.retained ++ [s.handleOf k] } : State).told m.watchers
        (stateChange s k after)).fencesSettled s.outstanding))

/-- A DISPOSE of BOUNCED ends the handoff, advances the bounce count and holds the message at the seventh bounce or
returns it toward a queue; one of REFUSED makes it HELD(REFUSED) (R107, R108, R110 to R113). Absent items stand in the
payload with their absent values (log entry 10). -/
def Obligations.DisposeReturnsOrHolds : Prop :=
  ∀ (p : Port) (f : DisposeFields) (k : SlotNo) (m : Message) (deadline : Nat) (mark : Bool) (s : State) (rq : Request),
    Serving s (.dispose p f) p rq → Names f.handle k s → s.record k = some m → m.custody = .handed p deadline mark →
    f.token = m.token → f.outcome.toNat = 3 ∨ f.outcome.toNat = 4 →
    let after :=
      if f.outcome.toNat = 3 then bounced s.seconds p .bounced (s.resolve m.area).isSome m
      else Message.log s.seconds (some p) .held
        { Message.log s.seconds (some p) .refused m with custody := .held .refused }
    exec (.dispose p f) s = .next (responded p rq .ok
      (handleBytes (some (s.handleOf k)) ++ [f.outcome] ++ be1 m.token.toNat ++ be1 after.bounces
        ++ be1 after.custody.name.code ++ portByte (if after.custody = .queued then s.resolve m.area else none)
        ++ reasonByte after.custody.reason)
      (((s.withoutActive p).leftAs k after).fencesSettled s.outstanding))

/-- The Dispatch Unit's taking of a tick's lease expiries, in ascending slot order: every HANDED message whose lease
deadline is not later than now lapses, with LAPSED to its holder, bounces with its notices, and lets the fences that wait
for its mark complete (R78, R108, R110, R114). So each of those has bounced and every other record stands, and the holder
of a lapsed handoff has no active handoff and no pending break-in. How the tick reaches the unit is the model's (log
entry 3). -/
def Obligations.LeasesLapseAtTheTick : Prop :=
  ∀ s : State, s.supplyLow = false →
    (s.leaseTick = false → exec .leaseExpiry s = .next s)
    ∧ (s.leaseTick = true →
      let u := allSlots.foldl State.lapsed { s with leaseTick := false }
      exec .leaseExpiry s = .next u
      ∧ (∀ k, u.slot k = { s.slot k with record := (s.record k).map (fun m =>
          lapsedIfDue s.seconds (s.resolve m.area).isSome m) })
      ∧ (∀ p, (u.breakin p).enable = (s.breakin p).enable ∧ (u.breakin p).stack = (s.breakin p).stack
        ∧ (if 0 < s.counted (fun m => decide (lapsedIfDue s.seconds (s.resolve m.area).isSome m ≠ m)
              && decide (m.custody.holder = some p)) then
            (u.breakin p).active = none ∧ (u.breakin p).pending = none
          else (u.breakin p).active = (s.breakin p).active))
      ∧ u = { s with
        leaseTick := false, slots := u.slots, breakins := u.breakins, noticeQueues := u.noticeQueues, flags := u.flags
        fences := u.fences })

/-- The Dispatch Unit's taking of a tick's delivery-deadline expiries, after its lease expiries, in ascending slot order:
every QUEUED message whose deadline is not later than now becomes HELD(DEADLINE-PASSED), with STATE-CHANGE to its
watchers, HELD to the CONTROL ports and the renewed check of the queue it leaves, and every other record stands (R99,
R116, R184). That a pending break-in which names the message is cleared and its notice withdrawn before STATE-CHANGE and HELD
join, and that in a full queue the BREAK-IN of the renewed check has its place before them, is the model's reading (log
entries 15 and 29), and how the tick reaches the unit is the model's (log entry 3). -/
def Obligations.DeadlinesPassAtTheTick : Prop :=
  ∀ s : State, s.supplyLow = false →
    (s.deadlineTick = false → s.leaseTick = false → exec .deliveryDeadlineExpiry s = .next s)
    ∧ (s.leaseTick = true → ∃ v, exec .leaseExpiry s = .next v ∧ v.leaseTick = false ∧ v.deadlineTick = s.deadlineTick
      ∧ exec .deliveryDeadlineExpiry s = exec .deliveryDeadlineExpiry v)
    ∧ (s.deadlineTick = true → s.leaseTick = false →
      let u := allSlots.foldl State.expired { s with deadlineTick := false }
      exec .deliveryDeadlineExpiry s = .next u
      ∧ (∀ k, u.slot k = { s.slot k with record := (s.record k).map (expiredIfDue s.seconds) })
      ∧ (∀ p, u.breakin p = { s.breakin p with pending := (u.breakin p).pending })
      ∧ u = { s with
        deadlineTick := false, slots := u.slots, breakins := u.breakins, noticeQueues := u.noticeQueues
        flags := u.flags })

/-- A history holds at most its 8 entries: an entry that joins a full one first removes the second, the dropped count
advances and saturates, and the first entry stays (R15). -/
def Obligations.HistoryTrimsItsSecondEntry : Prop :=
  ∀ (now : Nat) (port : Option Port) (event : HistoryEvent) (m : Message),
    let entry : HistoryEntry := { time := now, port := port, event := event }
    (m.history.length < 8 → Message.log now port event m = { m with history := m.history ++ [entry] })
    ∧ (∀ first second rest, m.history = first :: second :: rest → m.history.length = 8 → m.dropped ≤ 255 →
      Message.log now port event m
        = { m with
            history := first :: (rest ++ [entry])
            dropped := if m.dropped = 255 then 255 else m.dropped + 1 })

/-! ### Break-in (chapter 7) -/

/-- The break-in check raises a break-in exactly where the port has an active handoff, its enable is on, none is pending and
its queue holds a higher class; the first of those in queue order is named, and BREAK-IN goes to the port (R126). -/
def Obligations.BreakInCheckNamesTheFirst : Prop :=
  ∀ (p : Port) (s : State),
    ((s.breakin p).active = none ∨ (s.breakin p).enable = false ∨ (s.breakin p).pending ≠ none → breakInCheck p s = s)
    ∧ ∀ (a : Handoff) (m : Message), (s.breakin p).active = some a → s.record a.handle.slot = some m →
      (s.breakin p).enable = true → (s.breakin p).pending = none →
      let higher := allSlots.filter (fun k => decide (s.queueOf k = some p)
        && (match s.record k with | some n => decide (m.klass.code < n.klass.code) | none => false))
      (higher = [] → breakInCheck p s = s)
      ∧ ∀ (e : Evaluation) (es : List Evaluation) (n : Message), s.ranked higher = e :: es → s.record e.slot = some n →
        breakInCheck p s =
          ((s.modFlags p (fun f =>
            { topped := f.topped || (e :: es).any (fun x => decide (x.clamp = .lowered))
              floored := f.floored || (e :: es).any (fun x => decide (x.clamp = .raised)) })).modBreakin p (fun b =>
                { b with pending := some (s.handleOf e.slot) })).told (onlyPort p)
                  { kind := .breakIn, handle := some (s.handleOf e.slot), detail := .klass n.klass, time := s.seconds }

/-- BREAKIN-ENABLE: a turning on is followed by the break-in check, a turning off clears the pending break-in and withdraws
its notice, and what already holds changes nothing (R124). -/
def Obligations.EnableSwitches : Prop :=
  ∀ (p : Port) (value : Byte) (s : State) (rq : Request), Serving s (.breakinEnable p value) p rq →
    (1 < value.toNat → exec (.breakinEnable p value) s = .next (responded p rq .badField [] s))
    ∧ ∀ on : Bool, value.toNat = (if on then 1 else 0) →
      let u :=
        if (s.breakin p).enable = on then s
        else if on then breakInCheck p (s.modBreakin p (fun b => { b with enable := true }))
        else (s.modBreakin p (fun b => { b with enable := false })).withoutPending p
      exec (.breakinEnable p value) s
        = .next (responded p rq .ok (be1 (if on then 1 else 0) ++ handleBytes (u.breakin p).pending) u)

/-- NEXT-BREAKIN suspends the active handoff it names, with its lease paused, and hands out the first of the queue's messages
of a class higher than the suspended one (R131, R132, R103); its refusals (R130). What a waiting tick does before it,
TimeLinesAndSupply says: a lease deadline that is not later than now leaves a lease remaining of 0 (R131, R139). -/
def Obligations.NextBreakinSuspendsAndHandsOut : Prop :=
  (∀ (p : Port) (h : HandleField) (token : Byte) (s : State) (rq : Request), Serving s (.nextBreakin p h token) p rq →
    191 < h.slot.toNat → exec (.nextBreakin p h token) s = .next (responded p rq .badField [] s))
  ∧ ∀ (p : Port) (h : HandleField) (token : Byte) (k : SlotNo) (s : State) (rq : Request),
    Serving s (.nextBreakin p h token) p rq → h.slot.toNat = k.val →
    ((s.breakin p).pending = none → exec (.nextBreakin p h token) s = .next (responded p rq .noBreakin [] s))
    ∧ ((s.breakin p).pending ≠ none →
      (∀ a, (s.breakin p).active = some a →
        ¬ (a.handle.slot = k ∧ a.handle.inc.toNat = h.inc.toNat % 16 ∧ a.token = token)) →
      exec (.nextBreakin p h token) s = .next (responded p rq .staleHandoff [] s))
    ∧ ∀ (named : Handle) (m n : Message) (deadline : Nat) (mark : Bool) (e : Evaluation) (es : List Evaluation),
      Names h k s → (s.breakin p).pending = some named → (s.breakin p).enable = true →
      (s.breakin p).active = some { handle := s.handleOf k, token := token } →
      s.record k = some m → m.custody = .handed p deadline mark → s.ranked (s.eligible p m.klass) = e :: es →
      s.record e.slot = some n →
      let suspended : Message := { m with custody := .suspended p (deadline - s.seconds) mark }
      let handed : Message := Message.log s.seconds (some p) .handed
        { n with
          custody := .handed p (min (s.seconds + s.scoring.lease) 4294967295) false
          token := n.token + 1 }
      let s₁ := ((s.modFlags p (fun f =>
        { topped := f.topped || (e :: es).any (fun x => decide (x.clamp = .lowered))
          floored := f.floored || (e :: es).any (fun x => decide (x.clamp = .raised)) })).withRecord k suspended).told
            m.watchers (stateChange s k suspended)
      let s₂ := (s₁.modBreakin p (fun b =>
        { b with
          active := none, enable := false
          stack :=
            { handle := s.handleOf k, token := token, leaseRemaining := deadline - s.seconds, savedEnable := true
              klass := m.klass, revoked := false } :: b.stack })).withoutPending p
      let s₃ := ((s₂.withRecord e.slot handed).modBreakin p (fun b =>
        { b with active := some { handle := s.handleOf e.slot, token := n.token + 1 } })).told
          n.watchers (stateChange s e.slot handed)
      exec (.nextBreakin p h token) s = .next (responded p rq .ok
        (custodyPart (s.handleOf e.slot) handed ++ be2 (twos 16 e.score) ++ be4 (twos 32 e.sum)
          ++ handleBytes (some (s.handleOf k)) ++ be1 ((s.breakin p).stack.length + 1) ++ handleBytes (some named)) s₃)

/-- RESUME pops the record it names, restores the saved enable and, where the record is not revoked, makes its message HANDED
again with the lease it had left and makes the break-in check (R136, R137); its refusals (R135). -/
def Obligations.ResumePopsTheTopRecord : Prop :=
  (∀ (p : Port) (h : HandleField) (token : Byte) (s : State) (rq : Request), Serving s (.resume p h token) p rq →
    191 < h.slot.toNat → exec (.resume p h token) s = .next (responded p rq .badField [] s))
  ∧ ∀ (p : Port) (h : HandleField) (token : Byte) (k : SlotNo) (s : State) (rq : Request),
    Serving s (.resume p h token) p rq → h.slot.toNat = k.val →
    (∀ a, (s.breakin p).active = some a →
      exec (.resume p h token) s = .next (responded p rq .handoffOpen (handleBytes (some a.handle) ++ be1 a.token.toNat) s))
    ∧ ((s.breakin p).active = none → (s.breakin p).stack = [] →
      exec (.resume p h token) s = .next (responded p rq .nothingSuspended [] s))
    ∧ ∀ (r : Suspension) (rest : List Suspension), (s.breakin p).active = none → (s.breakin p).stack = r :: rest →
      (¬ (r.handle.slot = k ∧ r.handle.inc.toNat = h.inc.toNat % 16 ∧ r.token = token) →
        exec (.resume p h token) s = .next (responded p rq .staleHandoff [] s))
      ∧ (r.handle.slot = k → r.handle.inc.toNat = h.inc.toNat % 16 → r.token = token →
        (r.revoked = true →
          exec (.resume p h token) s = .next (responded p rq .revoked
            (handleBytes (some r.handle) ++ be1 token.toNat ++ boolByte r.savedEnable ++ be1 rest.length)
            (s.modBreakin p (fun b => { b with stack := rest, enable := r.savedEnable }))))
        ∧ ∀ (m : Message) (remaining : Nat) (mark : Bool), r.revoked = false → s.record k = some m →
          m.custody = .suspended p remaining mark →
          let deadline := min (s.seconds + r.leaseRemaining) 4294967295
          let handed : Message := { m with custody := .handed p deadline mark }
          let u := breakInCheck p (((s.withRecord k handed).modBreakin p (fun b =>
            { b with
              stack := rest, enable := r.savedEnable
              active := some { handle := r.handle, token := token } })).told m.watchers (stateChange s k handed))
          exec (.resume p h token) s = .next (responded p rq .ok
            (handleBytes (some r.handle) ++ be1 token.toNat ++ be4 deadline ++ boolByte r.savedEnable
              ++ handleBytes (u.breakin p).pending ++ be1 rest.length) u))

/-! ### Net control (chapter 8) -/

/-- HOLD takes a QUEUED message out of its queue into HELD(CONTROL); a pending break-in that names it is cleared and
checked again (R146, R127); its other results (R145). The break-in is settled before STATE-CHANGE is sent (log entry
13). -/
def Obligations.HoldTakesOutOfTheQueue : Prop :=
  ∀ (p : Port) (h : HandleField) (k : SlotNo) (s : State) (rq : Request), Serving s (.hold p h) p rq →
    (s.port p).control = true → Names h k s →
    (∀ m, s.record k = some m → m.custody.name = .handed ∨ m.custody.name = .suspended →
      exec (.hold p h) s = .next (responded p rq .inHand [] s))
    ∧ ((∀ m, s.record k = some m → m.custody.name ≠ .handed ∧ m.custody.name ≠ .suspended ∧ m.custody.name ≠ .queued) →
      exec (.hold p h) s = .next (responded p rq .wrongState [] s))
    ∧ ∀ (m : Message) (q : Port), s.record k = some m → s.queueOf k = some q →
      let held : Message := { m with custody := .held .control }
      let out := s.withRecord k held
      let checked :=
        if (s.breakin q).pending = some (s.handleOf k) then breakInCheck q (out.withoutPending q) else out
      let after := Message.log s.seconds (some p) .held held
      exec (.hold p h) s = .next (responded p rq .ok
        (handleBytes (some (s.handleOf k)) ++ be1 5 ++ be1 5 ++ be1 q.val)
        ((checked.withRecord k after).told m.watchers (stateChange s k after)))

/-- RELEASE sets the bounce count to 0, removes the deadline of a DEADLINE-PASSED hold and applies a pending upgrade;
then the message is held again for its deadline, joins the queue its area resolves to, or stays HELD(UNROUTED) (R148);
its other results (R147). Absent items stand in the payload with their absent values (log entry 10). -/
def Obligations.ReleaseReturnsHeldTraffic : Prop :=
  ∀ (p : Port) (h : HandleField) (k : SlotNo) (s : State) (rq : Request), Serving s (.release p h) p rq →
    (s.port p).control = true → Names h k s →
    (∀ m, s.record k = some m → m.custody.name = .handed ∨ m.custody.name = .suspended →
      exec (.release p h) s = .next (responded p rq .inHand [] s))
    ∧ ((∀ m, s.record k = some m → m.custody.name ≠ .handed ∧ m.custody.name ≠ .suspended ∧ m.custody.name ≠ .held) →
      exec (.release p h) s = .next (responded p rq .wrongState [] s))
    ∧ ∀ (m : Message) (r : HoldReason), s.record k = some m → m.custody = .held r →
      let freed : Message := Message.applyUpgrade
        { m with bounces := 0, deadline := if r = .deadlinePassed then none else m.deadline }
      let released := Message.log s.seconds (some p) .released freed
      let again := fun reason => Message.log s.seconds (some p) .held { released with custody := .held reason }
      let heldAgain := fun reason =>
        (if freed.klass = m.klass then s.withRecord k (again reason)
          else (s.withRecord k (again reason)).told m.watchers (stateChange s k (again reason))).told
            (controlSet s) (heldNotice s k reason)
      let answered := fun (state : Nat) (port : Option Port) (reason : Option HoldReason) =>
        handleBytes (some (s.handleOf k)) ++ be1 freed.klass.code ++ be1 0 ++ be1 state ++ portByte port
          ++ reasonByte reason
      (Message.deadlinePassed s.seconds freed = true →
        exec (.release p h) s = .next (responded p rq .ok (answered 5 none (some .deadlinePassed))
          (heldAgain .deadlinePassed)))
      ∧ (Message.deadlinePassed s.seconds freed = false →
        (s.resolve m.area = none →
          exec (.release p h) s = .next (responded p rq .unrouted (answered 5 none (some .unrouted))
            (heldAgain .unrouted)))
        ∧ ∀ q, s.resolve m.area = some q →
          exec (.release p h) s = .next (responded p rq .ok (answered 2 (some q) none)
            (s.leftAs k { released with custody := .queued })))

/-- VOID makes a QUEUED, HELD, HANDED or SUSPENDED message a VOID record at the tail of the retained list; a handoff
ends by it, with REVOKED to its holder and the stack record flagged (R149 to R151, R134). A break-in that names a QUEUED
one is withdrawn before it becomes VOID, and a BREAK-IN of the renewed check follows its STATE-CHANGE (R150; log entry 14)
and joins at the tail even where the queue was full before (R164); that a STATE-CHANGE which finds no other place is then the
notice discarded is the model's reading (log entry 29). Absent items stand with their absent values (log entry 10). -/
def Obligations.VoidWithdrawsTraffic : Prop :=
  ∀ (p : Port) (h : HandleField) (k : SlotNo) (s : State) (rq : Request), Serving s (.void p h) p rq →
    (s.port p).control = true → Names h k s →
    ((∀ m, s.record k = some m →
        m.custody.name = .filling ∨ m.custody.name = .disposed ∨ m.custody.name = .void) →
      exec (.void p h) s = .next (responded p rq .wrongState [] s))
    ∧ ∀ m : Message, s.record k = some m →
      let after := Message.log s.seconds (some p) .voided { m with custody := .void }
      let withdrawn := fun t : State =>
        ({ t.withRecord k after with retained := s.retained ++ [s.handleOf k] }).told m.watchers (stateChange s k after)
      let revoked : Notice :=
        { kind := .revoked, handle := some (s.handleOf k), detail := .token m.token, time := s.seconds }
      (∀ q, s.queueOf k = some q →
        exec (.void p h) s = .next (responded p rq .ok
          (handleBytes (some (s.handleOf k)) ++ be1 2 ++ be1 255 ++ be1 0)
          (s.leaving k withdrawn))
        ∧ ∀ t named, exec (.void p h) s = .next t → (s.breakin q).pending = some (s.handleOf k) →
          (s.noticeQueue q).inForm →
          (∃ n, n ∈ (s.noticeQueue q).items ∧ n.kind = .breakIn ∧ n.handle = some (s.handleOf k)) →
          (t.breakin q).pending = some named →
          (t.noticeQueue q).items.getLast?.map (fun n => (n.kind, n.handle)) = some (.breakIn, some named))
      ∧ (∀ r, m.custody = .held r →
        exec (.void p h) s = .next (responded p rq .ok
          (handleBytes (some (s.handleOf k)) ++ be1 5 ++ be1 255 ++ be1 0) (withdrawn s)))
      ∧ (∀ holder deadline mark, m.custody = .handed holder deadline mark →
        exec (.void p h) s = .next (responded p rq .ok
          (handleBytes (some (s.handleOf k)) ++ be1 3 ++ be1 holder.val ++ be1 m.token.toNat)
          ((withdrawn ((s.withoutActive holder).told (onlyPort holder) revoked)).fencesSettled s.outstanding)))
      ∧ (∀ holder remaining mark, m.custody = .suspended holder remaining mark →
        exec (.void p h) s = .next (responded p rq .ok
          (handleBytes (some (s.handleOf k)) ++ be1 4 ++ be1 holder.val ++ be1 m.token.toNat)
          ((withdrawn ((s.modBreakin holder (fun b =>
            { b with stack := b.stack.map (fun r =>
              if r.handle = s.handleOf k then { r with revoked := true } else r) })).told
                (onlyPort holder) revoked)).fencesSettled s.outstanding)))

/-- AMEND of the adjust replaces it, clamped, in any state of traffic; AMEND of the class sets it and removes a pending
upgrade, with STATE-CHANGE where either changed, and a queue member's raise or its fall out of a pending break-in makes
the check (R152 to R154). An AMEND of neither or of a class that is none is answered BAD-FIELD, and one of no traffic
WRONG-STATE (R152). The adjust is set before the class (log entry 25). -/
def Obligations.AmendSetsClassAndAdjust : Prop :=
  (∀ (p : Port) (f : AmendFields) (s : State) (rq : Request), Serving s (.amend p f) p rq → (s.port p).control = true →
    let bad := f.presence.getLsbD 0 = false ∧ f.presence.getLsbD 1 = false
      ∨ f.presence.getLsbD 0 = true ∧ 3 < f.klass.toNat
    (bad → exec (.amend p f) s = .next (responded p rq .badField [] s))
    ∧ (¬ bad → ∀ k, Names f.handle k s → (∀ m, s.record k = some m → m.inTraffic = false) →
      exec (.amend p f) s = .next (responded p rq .wrongState [] s)))
  ∧ ∀ (p : Port) (f : AmendFields) (k : SlotNo) (m : Message) (s : State) (rq : Request), Serving s (.amend p f) p rq →
    (s.port p).control = true → Names f.handle k s → s.record k = some m → m.inTraffic = true →
    let given : Int := f.adjust.toInt
    let clamped : Int := if given < -4096 then -4096 else if 4095 < given then 4095 else given
    let adjusted : Message := if f.presence.getLsbD 1 then { m with adjust := clamped } else m
    let mark := boolByte (f.presence.getLsbD 1 && decide (clamped ≠ given))
    (f.presence.getLsbD 0 = false → f.presence.getLsbD 1 = true →
      exec (.amend p f) s = .next (responded p rq .ok
        (handleBytes (some (s.handleOf k)) ++ be1 m.custody.name.code ++ be1 m.klass.code ++ classByte m.pendingUpgrade
          ++ be2 (twos 16 clamped) ++ mark) (s.withRecord k adjusted)))
    ∧ (f.presence.getLsbD 0 = true → ∀ c : Machine.Class, c.code = f.klass.toNat →
      (m.custody.name = .handed ∨ m.custody.name = .suspended →
        exec (.amend p f) s = .next (responded p rq .inHand [] s))
      ∧ (m.custody.name = .queued ∨ m.custody.name = .held →
        let after : Message := { adjusted with klass := c, pendingUpgrade := none }
        let set := s.withRecord k after
        let told :=
          if c ≠ m.klass ∨ m.pendingUpgrade ≠ none then set.told m.watchers (stateChange s k after) else set
        let u :=
          match s.queueOf k with
          | none => told
          | some q =>
            if m.klass.code < c.code then breakInCheck q told
            else if c.code < m.klass.code ∧ (s.breakin q).pending = some (s.handleOf k)
                ∧ (match s.activeClass q with | some a => decide (c.code ≤ a.code) | none => false) = true then
              breakInCheck q (told.withoutPending q)
            else told
        exec (.amend p f) s = .next (responded p rq .ok
          (handleBytes (some (s.handleOf k)) ++ be1 m.custody.name.code ++ be1 c.code ++ be1 0
            ++ be2 (twos 16 after.adjust) ++ mark) u)))

/-- ADD-NOTE takes a segment of the pool and adds the note, substituted, at the end of the message's notes, with
STATE-CHANGE; four notes are the most (R155, R9). A note of no or of more than 40 characters is answered BAD-FIELD, and
one to no traffic WRONG-STATE (R155). -/
def Obligations.AddNoteAddsAtTheEnd : Prop :=
  (∀ (p : Port) (h : HandleField) (chars : List Byte) (k : SlotNo) (s : State) (rq : Request),
    Serving s (.addNote p h chars) p rq → (s.port p).control = true → Names h k s →
    (chars.length = 0 ∨ 40 < chars.length → exec (.addNote p h chars) s = .next (responded p rq .badField [] s))
    ∧ (1 ≤ chars.length → chars.length ≤ 40 → (∀ m, s.record k = some m → m.inTraffic = false) →
      exec (.addNote p h chars) s = .next (responded p rq .wrongState [] s)))
  ∧ ∀ (p : Port) (h : HandleField) (chars : List Byte) (k : SlotNo) (m : Message) (s : State) (rq : Request),
    Serving s (.addNote p h chars) p rq → (s.port p).control = true → Names h k s → s.record k = some m →
    1 ≤ chars.length → chars.length ≤ 40 → m.inTraffic = true →
    (4 ≤ m.notes.length → exec (.addNote p h chars) s = .next (responded p rq .notesFull [] s))
    ∧ (m.notes.length < 4 → 1 ≤ s.freeSegments ∨ s.storeSound ∧ 1 ≤ s.retainedSegments →
      let replaced := chars.any (fun c => !decide (0x20 ≤ c.toNat ∧ c.toNat ≤ 0x7E))
      let after : Message :=
        { m with
          notes := m.notes ++ [chars.map (fun c => if 0x20 ≤ c.toNat ∧ c.toNat ≤ 0x7E then c else 0x3F)]
          substituted := m.substituted || replaced }
      exec (.addNote p h chars) s = .next (responded p rq .ok
        (handleBytes (some (s.handleOf k)) ++ be1 m.notes.length ++ be1 (m.notes.length + 1) ++ boolByte replaced)
        (((takeSegments 1 s).withRecord k after).told m.watchers (stateChange s k after))))

/-! ### Watches and notices (chapter 9) -/

/-- WATCH makes the requesting port a member of the message's watcher set or not a member, and reports state, class and set;
an EMPTY or FILLING slot cannot be watched (R159). -/
def Obligations.WatchSetsMembership : Prop :=
  ∀ (p : Port) (h : HandleField) (value : Byte) (k : SlotNo) (s : State) (rq : Request),
    Serving s (.watch p h value) p rq → Names h k s →
    (1 < value.toNat → exec (.watch p h value) s = .next (responded p rq .badField [] s))
    ∧ (value.toNat ≤ 1 → (∀ m, s.record k = some m → m.custody = .filling) →
      exec (.watch p h value) s = .next (responded p rq .wrongState [] s))
    ∧ (∀ (on : Bool) (m : Message), value.toNat = (if on then 1 else 0) → s.record k = some m → m.custody ≠ .filling →
      let after : Message := { m with watchers := m.watchers.set p.val on p.isLt }
      exec (.watch p h value) s = .next (responded p rq .ok
        (handleBytes (some (s.handleOf k)) ++ be1 m.custody.name.code ++ be1 m.klass.code ++ be1 (portBits after.watchers))
        (s.withRecord k after)))

/-- NOTICES removes the oldest notices, up to 4, and reports them with the count left and the overrun flag, which is then
clear (R166). -/
def Obligations.NoticesAreFetchedOldestFirst : Prop :=
  ∀ (p : Port) (s : State) (rq : Request), Serving s (.notices p) p rq →
    let q := s.noticeQueue p
    exec (.notices p) s = .next (responded p rq .ok
      (be1 (q.items.take 4).length ++ be1 (q.items.length - 4) ++ boolByte q.overrun
        ++ ((q.items.take 4).map (fun n =>
          be1 n.kind.code ++ handleBytes n.handle ++ be1 n.detail.code ++ be4 n.time)).flatten)
      (s.modNoticeQueue p (fun q => { items := q.items.drop 4, overrun := false })))

/-- A notice joins a queue: it replaces the matching notice and stands at the tail, or is discarded by a full queue with
NOTICE-OVERRUN set, or joins at the tail; a queue in form stays in form (R163). -/
def Obligations.NoticeJoinsItsQueue : Prop :=
  ∀ (n : Notice) (q : NoticeQueue),
    (∀ before x after, q.items = before ++ x :: after → n.kind = x.kind → n.handle = x.handle →
      (∀ y ∈ before, ¬ (n.kind = y.kind ∧ n.handle = y.handle)) →
      NoticeQueue.join n q = { items := before ++ after ++ [n], overrun := q.overrun })
    ∧ ((∀ y ∈ q.items, ¬ (n.kind = y.kind ∧ n.handle = y.handle)) →
      (16 ≤ q.items.length → NoticeQueue.join n q = { items := q.items, overrun := true })
      ∧ (q.items.length < 16 → NoticeQueue.join n q = { items := q.items ++ [n], overrun := q.overrun }))
    ∧ (q.inForm → (NoticeQueue.join n q).inForm)

/-! ### Time, resets and supply (10.7 to 10.9) -/

/-- A TICK advances the seconds count and hands the tick on, but for a saturated count; the releases of the reset lines
release them; a dip of the supply that the detector sees leaves only a cold reset to be taken (R181, R183, R184, R187,
R188; log entries 3, 4 and 7). A command that acts on the part acts on it as the last tick leaves it: where a block has
still to take that tick, it does as after the entry idle timeouts, the lease expiries and the delivery-deadline expiries
(R184; log entry 3). But where a NEXT-BREAKIN meets the tick at which its port's active handoff lapses and suspends that
handoff, the tick does not examine it, and its lease remaining is 0 (R139); what else that tick reaches, it reaches first (log
entry 3). -/
def Obligations.TimeLinesAndSupply : Prop :=
  (∀ (c : Instr) (s : State), ActsNow s c →
      ∃ s₁, exec .entryIdleTimeout s = .next s₁ ∧ ∃ s₂, exec .leaseExpiry s₁ = .next s₂
        ∧ ∃ s₃, exec .deliveryDeadlineExpiry s₂ = .next s₃ ∧ s₃.ticksTaken
          ∧ ((∀ p h token, c = .nextBreakin p h token → ∀ k, ¬ LapseWaits s p k) → exec c s = exec c s₃)
          ∧ ∀ p h token, c = .nextBreakin p h token → ∀ k, LapseWaits s p k →
            let lapsed :=
              (allSlots.filter (fun j => decide (j ≠ k))).foldl State.lapsed { s₁ with leaseTick := false }
            ∃ v, exec .deliveryDeadlineExpiry lapsed = .next v ∧ v.ticksTaken
              ∧ ∃ t, exec c v = .next t
                ∧ ∀ r, (t.port p).exchangeState = .ready r →
                  (r.result ≠ .ok → exec c s = exec c s₃)
                  ∧ (r.result = .ok →
                    exec c s = .next t
                    ∧ (t.breakin p).stack.head?.map (fun x => (x.handle.slot, x.leaseRemaining)) = some (k, 0)
                    ∧ (s.storeSound → ∀ m deadline mark, s.record k = some m → m.custody = .handed p deadline mark →
                      t.record k = some { m with custody := .suspended p 0 mark })))
    ∧ ∀ s : State,
      (s.supplyLow = false →
        (s.seconds < 4294967295 → s.ticksTaken → exec .tick s = .next { s with
          seconds := s.seconds + 1, divider := 0, entryTick := true, leaseTick := true, deadlineTick := true })
        ∧ (s.seconds = 4294967295 → exec .tick s = .next s)
        ∧ (∀ p, exec (.portResetLineRelease p) s = .next (s.modPort p (fun x => { x with resetLine := false })))
        ∧ exec .deviceResetInputRelease s = .next { s with deviceReset := false })
      ∧ exec (.supplyBelowWorkingLevel true) s = .next { s with supplyLow := true }
      ∧ exec (.supplyBelowWorkingLevel false) s = .next s
      ∧ (s.supplyLow = true → ∀ c, (∀ straps lines, c ≠ .coldReset straps lines) → exec c s = .next s)

/-- The port reset of p: its exchange, entry, break-in state, fence and notices are cleared, its link is UP, it watches
nothing, its handoffs are on their way back to the queues, and the other ports stand; while the line is asserted,
asserting it has no effect (R181, R182, R26, R48, R81, R119, R140, R158, R169). The sticky flags of every queue stand
(R89, R182; log entry 27). A queue that the change of the link empties and a return then fills receives QUEUE-READY, as R98
gives for a join; R100 can be read otherwise (log entry 28). The order of the blocks is the model's (log entry 16); where a tick waits, it is taken first, as
TimeLinesAndSupply says. -/
def Obligations.PortResetClearsThePort : Prop :=
  ∀ (p : Port) (s : State), s.supplyLow = false →
    ((s.port p).resetLine = true → exec (.portReset p) s = .next s)
    ∧ ((s.port p).resetLine = false → s.ticksTaken →
      let s₁ := (s.modPort p (fun x =>
        { x with
          exchangeState := .idle, lastDelivered := none, requestOverrun := false, exchange := none
          resetLine := true })).entryAbandoned p
      let s₂ : State :=
        { s₁.modBreakin p (fun b => { b with enable := false, pending := none }) with
          fences := vmod s.fences p (fun _ => false) }
      let s₃ := if s.links.get p then s₂ else s₂.rerouting p { s₂ with links := vmod s.links p (fun _ => true) }
      let handles := ((s.breakin p).active.map (fun a => a.handle)).toList
        ++ ((s.breakin p).stack.filter (fun r => !r.revoked)).map (fun r => r.handle)
      let s₄ := (handles.foldl (State.handedBack p)
        (s₃.modBreakin p (fun _ =>
          { enable := false, pending := none, active := none, stack := [] }))).fencesSettled s₃.outstanding
      let u : State :=
        { s₄ with
          slots := vmap (fun x => { x with record := x.record.map (fun m =>
            { m with watchers := m.watchers.set p.val false p.isLt }) }) s₄.slots
          noticeQueues := vmod s₄.noticeQueues p (fun _ => { items := [], overrun := false })
          flags := s.flags }
      exec (.portReset p) s = .next u
      ∧ u.ports = vmod s.ports p (fun x =>
        { x with
          exchangeState := .idle, lastDelivered := none, requestOverrun := false, exchange := none, resetLine := true })
      ∧ u.entries = vmod s.entries p (fun _ => { filling := none, spaceCarry := true })
      ∧ u.breakin p = { enable := false, pending := none, active := none, stack := [] }
      ∧ u.links = vmod s.links p (fun _ => true) ∧ u.fences.get p = false
      ∧ u.noticeQueue p = { items := [], overrun := false }
      ∧ (∀ q, q ≠ p → u.breakin q = { s.breakin q with pending := (u.breakin q).pending })
      ∧ u = { s with
        ports := u.ports, entries := u.entries, breakins := u.breakins, links := u.links, fences := u.fences
        noticeQueues := u.noticeQueues, slots := u.slots, freeSegments := u.freeSegments, retained := u.retained }
      ∧ (s.storeSound →
        u.retained = s.retained ∧ u.segmentsKept
        ∧ ∀ k, u.slot k =
          match s.record k with
          | none => s.slot k
          | some m =>
            if m.custody = .filling ∧ m.entryPort = p then { inc := (s.slot k).inc + 1, record := none }
            else
              { s.slot k with
                record := some (afterPortReset s.seconds p (s.links.get p)
                  (({ s with links := vmod s.links p (fun _ => true) } : State).resolve m.area).isSome m) }))

/-- The warm reset: entries end, handoffs return, traffic is re-resolved with every link UP, per-port state is cleared,
the straps are sampled, and the store, the retained list, the counter, the routing, the configuration and the seconds
count are kept; while the input is asserted, asserting it has no effect (R188, R25, R49, R82, R89, R120, R141, R169,
R183, R186). The strap levels are operands of the command (log entry 6); where a tick waits, it is taken first, as
TimeLinesAndSupply says. -/
def Obligations.WarmResetKeepsTheStore : Prop :=
  ∀ (straps : Straps) (s : State), s.supplyLow = false →
    (s.deviceReset = true → exec (.warmReset straps) s = .next s)
    ∧ (s.deviceReset = false → s.ticksTaken → ∃ u, exec (.warmReset straps) s = .next u
      ∧ (∀ p, u.port p = { s.port p with
          exchangeState := .idle, lastDelivered := none, requestOverrun := false, exchange := none
          control := straps.control.get p })
      ∧ u = { s with
        slots := u.slots, freeSegments := u.freeSegments, retained := u.retained, ports := u.ports
        entries := Vector.replicate 4 { filling := none, spaceCarry := true }
        links := Vector.replicate 4 true, fences := Vector.replicate 4 false
        flags := Vector.replicate 4 { topped := false, floored := false }
        breakins := Vector.replicate 4 { enable := false, pending := none, active := none, stack := [] }
        noticeQueues := Vector.replicate 4 { items := [], overrun := false }
        divider := 0, timeBase0 := straps.timeBase0, timeBase1 := straps.timeBase1, deviceReset := true }
      ∧ (s.storeSound →
        u.retained = s.retained ∧ u.segmentsKept
        ∧ ∀ k, u.slot k =
          match s.record k with
          | none => s.slot k
          | some m =>
            if m.custody = .filling then { inc := (s.slot k).inc + 1, record := none }
            else
              { s.slot k with
                record := some (afterWarmReset s.seconds
                  (({ s with links := Vector.replicate 4 true } : State).resolve m.area).isSome m) }))

/-- A cold reset leaves every piece of state at its cold-reset value, with the straps and the reset lines as then
sampled (R24, R187, R186), whatever stood before; the commands that wait are no state of the part (log entry 7). The
strap and line levels are operands of the command (log entry 6). -/
def Obligations.ColdResetEmptiesThePart : Prop :=
  ∀ (straps : Straps) (lines : ResetLines) (s : State), ∃ u, exec (.coldReset straps lines) s = .next u
    ∧ (∀ k, u.slot k = { inc := 0, record := none }) ∧ u.freeSegments = 1024 ∧ u.retained = []
    ∧ u.nextEntryNumber = 1
    ∧ (∀ p, u.port p =
      { exchangeState := .idle, lastDelivered := none, requestOverrun := false, exchange := none
        resetLine := lines.port.get p, control := straps.control.get p, lastOut := [] })
    ∧ (∀ p, u.entryOf p = { filling := none, spaceCarry := true })
    ∧ (∀ i, u.routes.get i = { first := 0, last := 0, port := 0, valid := false }) ∧ u.defaultRoute = none
    ∧ (∀ p : Port, u.links.get p = true ∧ u.fences.get p = false)
    ∧ u.scoring =
      { weightImmediate := 32, weightUrgent := 16, weightWelfare := 8, weightRoutine := 4
        shift := 1, penalty := 512, lease := 600 }
    ∧ (∀ p, u.flagsOf p = { topped := false, floored := false }
      ∧ u.breakin p = { enable := false, pending := none, active := none, stack := [] }
      ∧ u.noticeQueue p = { items := [], overrun := false })
    ∧ u.seconds = 0 ∧ u.divider = 0 ∧ u.timeBase0 = straps.timeBase0 ∧ u.timeBase1 = straps.timeBase1
    ∧ u.deviceReset = lines.device ∧ u.supplyLow = false
    ∧ u.entryTick = false ∧ u.leaseTick = false ∧ u.deadlineTick = false ∧ u.pending = s.pending

/-- Only a TICK moves the seconds count, and only forward, between cold resets (R84, R183); a slot's incarnation advances by
one where the slot is freed and nowhere else: its record is gone, or an ENTER-BEGIN has put its new message there (R4,
R32, R54, R56). -/
def Obligations.TimeAndIncarnationsMoveForward : Prop :=
  ∀ (c : Instr) (s t : State), (∀ straps lines, c ≠ .coldReset straps lines) → exec c s = .next t →
    s.seconds ≤ t.seconds ∧ (t.seconds ≠ s.seconds → c = .tick)
    ∧ ∀ k, ((t.slot k).inc = (s.slot k).inc
        ∨ (t.slot k).inc = (s.slot k).inc + 1 ∧ (s.record k).isSome = true
          ∧ (t.record k = none
            ∨ ∃ p f origin cls, c = .enterBegin p f ∧ readStation f.station = some origin ∧ cls.code = f.klass.toNat
              ∧ t.record k = some (begun p cls origin f)))
      ∧ ((s.record k).isSome = true → t.record k = none → (t.slot k).inc = (s.slot k).inc + 1)

/-! ### The laws of a working part -/

/-- A cold reset leaves a part that obeys every law, with any straps and reset lines; so does the reset of the model, which is
one of them (log entry 5). -/
def Obligations.LawsHoldAtReset : Prop :=
  State.reset.lawful ∧ ∀ (straps : Straps) (lines : ResetLines), (State.cold straps lines).lawful

/-- Every step keeps each notice queue at 16 notices or fewer, with at most one of each kind for each handle and at most one
of each handle-less kind (R163), every QUEUED message a member of the queue of some port, with no pending upgrade (R97,
R113), and the configuration and the route table within their ranges (R64, R91). -/
def Obligations.EveryStepKeepsQueuesInForm : Prop :=
  ∀ s t : State, step s = .next t →
    (s.noticesInForm → t.noticesInForm) ∧ (s.queuesRoutable → t.queuesRoutable)
      ∧ (s.settingsInRange → t.settingsInRange)

/-- Every step keeps the store sound: the records within their limits, the retained list, the pool, the entry contexts and
the handoffs in agreement with the records (R13, R15, R27, R52, R53, R110, R122, R123). -/
def Obligations.EveryStepKeepsTheStoreSound : Prop :=
  ∀ s t : State, s.storeSound → step s = .next t → t.storeSound

/-- In a sound store every step keeps the laws of the Break-in Unit: a pending break-in qualifies, a BREAK-IN notice names it,
and each stack is at most 3 deep with its classes strictly rising to the active handoff's (R123, R126, R164). -/
def Obligations.EveryStepKeepsBreakInSound : Prop :=
  ∀ s t : State, s.storeSound → s.breakInSound → step s = .next t → t.breakInSound

/-- In a sound store every step keeps a pending fence waiting for a mark (R78), the entry numbers of live messages distinct
(R8), and the duplicate keys held by at most one message each (R17). -/
def Obligations.EveryStepKeepsMarksNumbersAndKeys : Prop :=
  ∀ s t : State, s.storeSound → step s = .next t →
    (s.fencesWait → t.fencesWait) ∧ (s.numbersDistinct → t.numbersDistinct) ∧ (s.keysDistinct → t.keysDistinct)

end
end

