-- ==== Sys2Proof/Laws/State.lean ====
section
/-! SUPPORT. One lemma for each field and each update of the state, so that no proof unfolds a record update; and what one
place of a table holds after it was changed. -/

namespace Sys2Proof

/-! ### Tables -/

/-- A place of a table whose place i was changed. -/
theorem get_vmod {α : Type} {n : Nat} (v : Vector α n) (i j : Fin n) (f : α → α) :
    (vmod v i f).get j = if i = j then f (v.get j) else v.get j := by
  simp only [vmod, Vector.get_eq_getElem, Vector.getElem_set, Fin.ext_iff]
  split <;> simp_all

/-- The place that was changed. -/
@[simp] theorem get_vmod_same {α : Type} {n : Nat} (v : Vector α n) (i : Fin n) (f : α → α) :
    (vmod v i f).get i = f (v.get i) := by
  simp [get_vmod]

/-- A place that was not changed. -/
theorem get_vmod_other {α : Type} {n : Nat} (v : Vector α n) {i j : Fin n} (f : α → α) (h : i ≠ j) :
    (vmod v i f).get j = v.get j := by
  simp [get_vmod, h]

/-- A place of a table of which every place was changed. -/
@[simp] theorem get_vmap {α β : Type} {n : Nat} (f : α → β) (v : Vector α n) (i : Fin n) :
    (vmap f v).get i = f (v.get i) := by
  simp [vmap, Vector.get_eq_getElem]

/-- A place of two tables joined. -/
@[simp] theorem get_vzip {α β γ : Type} {n : Nat} (f : α → β → γ) (v : Vector α n) (w : Vector β n) (i : Fin n) :
    (vzip f v w).get i = f (v.get i) (w.get i) := by
  simp [vzip, Vector.get_eq_getElem]

/-- Two tables that agree in every place are equal. -/
theorem vector_ext {α : Type} {n : Nat} {v w : Vector α n} (h : ∀ i, v.get i = w.get i) : v = w := by
  apply Vector.ext
  intro i hi
  exact h ⟨i, hi⟩

end Sys2Proof

namespace Sys2Proof.Machine

/-! ### What an update leaves as it was -/

@[simp] theorem State.modPort_slots (s : State) (i : Port) (f : StationPort → StationPort) : (s.modPort i f).slots = s.slots := rfl
@[simp] theorem State.modPort_freeSegments (s : State) (i : Port) (f : StationPort → StationPort) : (s.modPort i f).freeSegments = s.freeSegments := rfl
@[simp] theorem State.modPort_retained (s : State) (i : Port) (f : StationPort → StationPort) : (s.modPort i f).retained = s.retained := rfl
@[simp] theorem State.modPort_nextEntryNumber (s : State) (i : Port) (f : StationPort → StationPort) : (s.modPort i f).nextEntryNumber = s.nextEntryNumber := rfl
@[simp] theorem State.modPort_entries (s : State) (i : Port) (f : StationPort → StationPort) : (s.modPort i f).entries = s.entries := rfl
@[simp] theorem State.modPort_routes (s : State) (i : Port) (f : StationPort → StationPort) : (s.modPort i f).routes = s.routes := rfl
@[simp] theorem State.modPort_defaultRoute (s : State) (i : Port) (f : StationPort → StationPort) : (s.modPort i f).defaultRoute = s.defaultRoute := rfl
@[simp] theorem State.modPort_links (s : State) (i : Port) (f : StationPort → StationPort) : (s.modPort i f).links = s.links := rfl
@[simp] theorem State.modPort_fences (s : State) (i : Port) (f : StationPort → StationPort) : (s.modPort i f).fences = s.fences := rfl
@[simp] theorem State.modPort_scoring (s : State) (i : Port) (f : StationPort → StationPort) : (s.modPort i f).scoring = s.scoring := rfl
@[simp] theorem State.modPort_flags (s : State) (i : Port) (f : StationPort → StationPort) : (s.modPort i f).flags = s.flags := rfl
@[simp] theorem State.modPort_breakins (s : State) (i : Port) (f : StationPort → StationPort) : (s.modPort i f).breakins = s.breakins := rfl
@[simp] theorem State.modPort_noticeQueues (s : State) (i : Port) (f : StationPort → StationPort) : (s.modPort i f).noticeQueues = s.noticeQueues := rfl
@[simp] theorem State.modPort_seconds (s : State) (i : Port) (f : StationPort → StationPort) : (s.modPort i f).seconds = s.seconds := rfl
@[simp] theorem State.modPort_divider (s : State) (i : Port) (f : StationPort → StationPort) : (s.modPort i f).divider = s.divider := rfl
@[simp] theorem State.modPort_timeBase0 (s : State) (i : Port) (f : StationPort → StationPort) : (s.modPort i f).timeBase0 = s.timeBase0 := rfl
@[simp] theorem State.modPort_timeBase1 (s : State) (i : Port) (f : StationPort → StationPort) : (s.modPort i f).timeBase1 = s.timeBase1 := rfl
@[simp] theorem State.modPort_deviceReset (s : State) (i : Port) (f : StationPort → StationPort) : (s.modPort i f).deviceReset = s.deviceReset := rfl
@[simp] theorem State.modPort_supplyLow (s : State) (i : Port) (f : StationPort → StationPort) : (s.modPort i f).supplyLow = s.supplyLow := rfl
@[simp] theorem State.modPort_entryTick (s : State) (i : Port) (f : StationPort → StationPort) : (s.modPort i f).entryTick = s.entryTick := rfl
@[simp] theorem State.modPort_leaseTick (s : State) (i : Port) (f : StationPort → StationPort) : (s.modPort i f).leaseTick = s.leaseTick := rfl
@[simp] theorem State.modPort_deadlineTick (s : State) (i : Port) (f : StationPort → StationPort) : (s.modPort i f).deadlineTick = s.deadlineTick := rfl
@[simp] theorem State.modPort_pending (s : State) (i : Port) (f : StationPort → StationPort) : (s.modPort i f).pending = s.pending := rfl
@[simp] theorem State.modPort_entryOf (s : State) (i : Port) (f : StationPort → StationPort) (j : Port) : (s.modPort i f).entryOf j = s.entryOf j := rfl
@[simp] theorem State.modPort_breakin (s : State) (i : Port) (f : StationPort → StationPort) (j : Port) : (s.modPort i f).breakin j = s.breakin j := rfl
@[simp] theorem State.modPort_noticeQueue (s : State) (i : Port) (f : StationPort → StationPort) (j : Port) : (s.modPort i f).noticeQueue j = s.noticeQueue j := rfl
@[simp] theorem State.modPort_flagsOf (s : State) (i : Port) (f : StationPort → StationPort) (j : Port) : (s.modPort i f).flagsOf j = s.flagsOf j := rfl
@[simp] theorem State.modPort_slot (s : State) (i : Port) (f : StationPort → StationPort) (j : SlotNo) : (s.modPort i f).slot j = s.slot j := rfl
@[simp] theorem State.modPort_record (s : State) (i : Port) (f : StationPort → StationPort) (j : SlotNo) : (s.modPort i f).record j = s.record j := rfl
@[simp] theorem State.modPort_handleOf (s : State) (i : Port) (f : StationPort → StationPort) (j : SlotNo) : (s.modPort i f).handleOf j = s.handleOf j := rfl

@[simp] theorem State.modEntry_slots (s : State) (i : Port) (f : EntryContext → EntryContext) : (s.modEntry i f).slots = s.slots := rfl
@[simp] theorem State.modEntry_freeSegments (s : State) (i : Port) (f : EntryContext → EntryContext) : (s.modEntry i f).freeSegments = s.freeSegments := rfl
@[simp] theorem State.modEntry_retained (s : State) (i : Port) (f : EntryContext → EntryContext) : (s.modEntry i f).retained = s.retained := rfl
@[simp] theorem State.modEntry_nextEntryNumber (s : State) (i : Port) (f : EntryContext → EntryContext) : (s.modEntry i f).nextEntryNumber = s.nextEntryNumber := rfl
@[simp] theorem State.modEntry_ports (s : State) (i : Port) (f : EntryContext → EntryContext) : (s.modEntry i f).ports = s.ports := rfl
@[simp] theorem State.modEntry_routes (s : State) (i : Port) (f : EntryContext → EntryContext) : (s.modEntry i f).routes = s.routes := rfl
@[simp] theorem State.modEntry_defaultRoute (s : State) (i : Port) (f : EntryContext → EntryContext) : (s.modEntry i f).defaultRoute = s.defaultRoute := rfl
@[simp] theorem State.modEntry_links (s : State) (i : Port) (f : EntryContext → EntryContext) : (s.modEntry i f).links = s.links := rfl
@[simp] theorem State.modEntry_fences (s : State) (i : Port) (f : EntryContext → EntryContext) : (s.modEntry i f).fences = s.fences := rfl
@[simp] theorem State.modEntry_scoring (s : State) (i : Port) (f : EntryContext → EntryContext) : (s.modEntry i f).scoring = s.scoring := rfl
@[simp] theorem State.modEntry_flags (s : State) (i : Port) (f : EntryContext → EntryContext) : (s.modEntry i f).flags = s.flags := rfl
@[simp] theorem State.modEntry_breakins (s : State) (i : Port) (f : EntryContext → EntryContext) : (s.modEntry i f).breakins = s.breakins := rfl
@[simp] theorem State.modEntry_noticeQueues (s : State) (i : Port) (f : EntryContext → EntryContext) : (s.modEntry i f).noticeQueues = s.noticeQueues := rfl
@[simp] theorem State.modEntry_seconds (s : State) (i : Port) (f : EntryContext → EntryContext) : (s.modEntry i f).seconds = s.seconds := rfl
@[simp] theorem State.modEntry_divider (s : State) (i : Port) (f : EntryContext → EntryContext) : (s.modEntry i f).divider = s.divider := rfl
@[simp] theorem State.modEntry_timeBase0 (s : State) (i : Port) (f : EntryContext → EntryContext) : (s.modEntry i f).timeBase0 = s.timeBase0 := rfl
@[simp] theorem State.modEntry_timeBase1 (s : State) (i : Port) (f : EntryContext → EntryContext) : (s.modEntry i f).timeBase1 = s.timeBase1 := rfl
@[simp] theorem State.modEntry_deviceReset (s : State) (i : Port) (f : EntryContext → EntryContext) : (s.modEntry i f).deviceReset = s.deviceReset := rfl
@[simp] theorem State.modEntry_supplyLow (s : State) (i : Port) (f : EntryContext → EntryContext) : (s.modEntry i f).supplyLow = s.supplyLow := rfl
@[simp] theorem State.modEntry_entryTick (s : State) (i : Port) (f : EntryContext → EntryContext) : (s.modEntry i f).entryTick = s.entryTick := rfl
@[simp] theorem State.modEntry_leaseTick (s : State) (i : Port) (f : EntryContext → EntryContext) : (s.modEntry i f).leaseTick = s.leaseTick := rfl
@[simp] theorem State.modEntry_deadlineTick (s : State) (i : Port) (f : EntryContext → EntryContext) : (s.modEntry i f).deadlineTick = s.deadlineTick := rfl
@[simp] theorem State.modEntry_pending (s : State) (i : Port) (f : EntryContext → EntryContext) : (s.modEntry i f).pending = s.pending := rfl
@[simp] theorem State.modEntry_port (s : State) (i : Port) (f : EntryContext → EntryContext) (j : Port) : (s.modEntry i f).port j = s.port j := rfl
@[simp] theorem State.modEntry_breakin (s : State) (i : Port) (f : EntryContext → EntryContext) (j : Port) : (s.modEntry i f).breakin j = s.breakin j := rfl
@[simp] theorem State.modEntry_noticeQueue (s : State) (i : Port) (f : EntryContext → EntryContext) (j : Port) : (s.modEntry i f).noticeQueue j = s.noticeQueue j := rfl
@[simp] theorem State.modEntry_flagsOf (s : State) (i : Port) (f : EntryContext → EntryContext) (j : Port) : (s.modEntry i f).flagsOf j = s.flagsOf j := rfl
@[simp] theorem State.modEntry_slot (s : State) (i : Port) (f : EntryContext → EntryContext) (j : SlotNo) : (s.modEntry i f).slot j = s.slot j := rfl
@[simp] theorem State.modEntry_record (s : State) (i : Port) (f : EntryContext → EntryContext) (j : SlotNo) : (s.modEntry i f).record j = s.record j := rfl
@[simp] theorem State.modEntry_handleOf (s : State) (i : Port) (f : EntryContext → EntryContext) (j : SlotNo) : (s.modEntry i f).handleOf j = s.handleOf j := rfl

@[simp] theorem State.modBreakin_slots (s : State) (i : Port) (f : BreakIn → BreakIn) : (s.modBreakin i f).slots = s.slots := rfl
@[simp] theorem State.modBreakin_freeSegments (s : State) (i : Port) (f : BreakIn → BreakIn) : (s.modBreakin i f).freeSegments = s.freeSegments := rfl
@[simp] theorem State.modBreakin_retained (s : State) (i : Port) (f : BreakIn → BreakIn) : (s.modBreakin i f).retained = s.retained := rfl
@[simp] theorem State.modBreakin_nextEntryNumber (s : State) (i : Port) (f : BreakIn → BreakIn) : (s.modBreakin i f).nextEntryNumber = s.nextEntryNumber := rfl
@[simp] theorem State.modBreakin_ports (s : State) (i : Port) (f : BreakIn → BreakIn) : (s.modBreakin i f).ports = s.ports := rfl
@[simp] theorem State.modBreakin_entries (s : State) (i : Port) (f : BreakIn → BreakIn) : (s.modBreakin i f).entries = s.entries := rfl
@[simp] theorem State.modBreakin_routes (s : State) (i : Port) (f : BreakIn → BreakIn) : (s.modBreakin i f).routes = s.routes := rfl
@[simp] theorem State.modBreakin_defaultRoute (s : State) (i : Port) (f : BreakIn → BreakIn) : (s.modBreakin i f).defaultRoute = s.defaultRoute := rfl
@[simp] theorem State.modBreakin_links (s : State) (i : Port) (f : BreakIn → BreakIn) : (s.modBreakin i f).links = s.links := rfl
@[simp] theorem State.modBreakin_fences (s : State) (i : Port) (f : BreakIn → BreakIn) : (s.modBreakin i f).fences = s.fences := rfl
@[simp] theorem State.modBreakin_scoring (s : State) (i : Port) (f : BreakIn → BreakIn) : (s.modBreakin i f).scoring = s.scoring := rfl
@[simp] theorem State.modBreakin_flags (s : State) (i : Port) (f : BreakIn → BreakIn) : (s.modBreakin i f).flags = s.flags := rfl
@[simp] theorem State.modBreakin_noticeQueues (s : State) (i : Port) (f : BreakIn → BreakIn) : (s.modBreakin i f).noticeQueues = s.noticeQueues := rfl
@[simp] theorem State.modBreakin_seconds (s : State) (i : Port) (f : BreakIn → BreakIn) : (s.modBreakin i f).seconds = s.seconds := rfl
@[simp] theorem State.modBreakin_divider (s : State) (i : Port) (f : BreakIn → BreakIn) : (s.modBreakin i f).divider = s.divider := rfl
@[simp] theorem State.modBreakin_timeBase0 (s : State) (i : Port) (f : BreakIn → BreakIn) : (s.modBreakin i f).timeBase0 = s.timeBase0 := rfl
@[simp] theorem State.modBreakin_timeBase1 (s : State) (i : Port) (f : BreakIn → BreakIn) : (s.modBreakin i f).timeBase1 = s.timeBase1 := rfl
@[simp] theorem State.modBreakin_deviceReset (s : State) (i : Port) (f : BreakIn → BreakIn) : (s.modBreakin i f).deviceReset = s.deviceReset := rfl
@[simp] theorem State.modBreakin_supplyLow (s : State) (i : Port) (f : BreakIn → BreakIn) : (s.modBreakin i f).supplyLow = s.supplyLow := rfl
@[simp] theorem State.modBreakin_entryTick (s : State) (i : Port) (f : BreakIn → BreakIn) : (s.modBreakin i f).entryTick = s.entryTick := rfl
@[simp] theorem State.modBreakin_leaseTick (s : State) (i : Port) (f : BreakIn → BreakIn) : (s.modBreakin i f).leaseTick = s.leaseTick := rfl
@[simp] theorem State.modBreakin_deadlineTick (s : State) (i : Port) (f : BreakIn → BreakIn) : (s.modBreakin i f).deadlineTick = s.deadlineTick := rfl
@[simp] theorem State.modBreakin_pending (s : State) (i : Port) (f : BreakIn → BreakIn) : (s.modBreakin i f).pending = s.pending := rfl
@[simp] theorem State.modBreakin_port (s : State) (i : Port) (f : BreakIn → BreakIn) (j : Port) : (s.modBreakin i f).port j = s.port j := rfl
@[simp] theorem State.modBreakin_entryOf (s : State) (i : Port) (f : BreakIn → BreakIn) (j : Port) : (s.modBreakin i f).entryOf j = s.entryOf j := rfl
@[simp] theorem State.modBreakin_noticeQueue (s : State) (i : Port) (f : BreakIn → BreakIn) (j : Port) : (s.modBreakin i f).noticeQueue j = s.noticeQueue j := rfl
@[simp] theorem State.modBreakin_flagsOf (s : State) (i : Port) (f : BreakIn → BreakIn) (j : Port) : (s.modBreakin i f).flagsOf j = s.flagsOf j := rfl
@[simp] theorem State.modBreakin_slot (s : State) (i : Port) (f : BreakIn → BreakIn) (j : SlotNo) : (s.modBreakin i f).slot j = s.slot j := rfl
@[simp] theorem State.modBreakin_record (s : State) (i : Port) (f : BreakIn → BreakIn) (j : SlotNo) : (s.modBreakin i f).record j = s.record j := rfl
@[simp] theorem State.modBreakin_handleOf (s : State) (i : Port) (f : BreakIn → BreakIn) (j : SlotNo) : (s.modBreakin i f).handleOf j = s.handleOf j := rfl

@[simp] theorem State.modNoticeQueue_slots (s : State) (i : Port) (f : NoticeQueue → NoticeQueue) : (s.modNoticeQueue i f).slots = s.slots := rfl
@[simp] theorem State.modNoticeQueue_freeSegments (s : State) (i : Port) (f : NoticeQueue → NoticeQueue) : (s.modNoticeQueue i f).freeSegments = s.freeSegments := rfl
@[simp] theorem State.modNoticeQueue_retained (s : State) (i : Port) (f : NoticeQueue → NoticeQueue) : (s.modNoticeQueue i f).retained = s.retained := rfl
@[simp] theorem State.modNoticeQueue_nextEntryNumber (s : State) (i : Port) (f : NoticeQueue → NoticeQueue) : (s.modNoticeQueue i f).nextEntryNumber = s.nextEntryNumber := rfl
@[simp] theorem State.modNoticeQueue_ports (s : State) (i : Port) (f : NoticeQueue → NoticeQueue) : (s.modNoticeQueue i f).ports = s.ports := rfl
@[simp] theorem State.modNoticeQueue_entries (s : State) (i : Port) (f : NoticeQueue → NoticeQueue) : (s.modNoticeQueue i f).entries = s.entries := rfl
@[simp] theorem State.modNoticeQueue_routes (s : State) (i : Port) (f : NoticeQueue → NoticeQueue) : (s.modNoticeQueue i f).routes = s.routes := rfl
@[simp] theorem State.modNoticeQueue_defaultRoute (s : State) (i : Port) (f : NoticeQueue → NoticeQueue) : (s.modNoticeQueue i f).defaultRoute = s.defaultRoute := rfl
@[simp] theorem State.modNoticeQueue_links (s : State) (i : Port) (f : NoticeQueue → NoticeQueue) : (s.modNoticeQueue i f).links = s.links := rfl
@[simp] theorem State.modNoticeQueue_fences (s : State) (i : Port) (f : NoticeQueue → NoticeQueue) : (s.modNoticeQueue i f).fences = s.fences := rfl
@[simp] theorem State.modNoticeQueue_scoring (s : State) (i : Port) (f : NoticeQueue → NoticeQueue) : (s.modNoticeQueue i f).scoring = s.scoring := rfl
@[simp] theorem State.modNoticeQueue_flags (s : State) (i : Port) (f : NoticeQueue → NoticeQueue) : (s.modNoticeQueue i f).flags = s.flags := rfl
@[simp] theorem State.modNoticeQueue_breakins (s : State) (i : Port) (f : NoticeQueue → NoticeQueue) : (s.modNoticeQueue i f).breakins = s.breakins := rfl
@[simp] theorem State.modNoticeQueue_seconds (s : State) (i : Port) (f : NoticeQueue → NoticeQueue) : (s.modNoticeQueue i f).seconds = s.seconds := rfl
@[simp] theorem State.modNoticeQueue_divider (s : State) (i : Port) (f : NoticeQueue → NoticeQueue) : (s.modNoticeQueue i f).divider = s.divider := rfl
@[simp] theorem State.modNoticeQueue_timeBase0 (s : State) (i : Port) (f : NoticeQueue → NoticeQueue) : (s.modNoticeQueue i f).timeBase0 = s.timeBase0 := rfl
@[simp] theorem State.modNoticeQueue_timeBase1 (s : State) (i : Port) (f : NoticeQueue → NoticeQueue) : (s.modNoticeQueue i f).timeBase1 = s.timeBase1 := rfl
@[simp] theorem State.modNoticeQueue_deviceReset (s : State) (i : Port) (f : NoticeQueue → NoticeQueue) : (s.modNoticeQueue i f).deviceReset = s.deviceReset := rfl
@[simp] theorem State.modNoticeQueue_supplyLow (s : State) (i : Port) (f : NoticeQueue → NoticeQueue) : (s.modNoticeQueue i f).supplyLow = s.supplyLow := rfl
@[simp] theorem State.modNoticeQueue_entryTick (s : State) (i : Port) (f : NoticeQueue → NoticeQueue) : (s.modNoticeQueue i f).entryTick = s.entryTick := rfl
@[simp] theorem State.modNoticeQueue_leaseTick (s : State) (i : Port) (f : NoticeQueue → NoticeQueue) : (s.modNoticeQueue i f).leaseTick = s.leaseTick := rfl
@[simp] theorem State.modNoticeQueue_deadlineTick (s : State) (i : Port) (f : NoticeQueue → NoticeQueue) : (s.modNoticeQueue i f).deadlineTick = s.deadlineTick := rfl
@[simp] theorem State.modNoticeQueue_pending (s : State) (i : Port) (f : NoticeQueue → NoticeQueue) : (s.modNoticeQueue i f).pending = s.pending := rfl
@[simp] theorem State.modNoticeQueue_port (s : State) (i : Port) (f : NoticeQueue → NoticeQueue) (j : Port) : (s.modNoticeQueue i f).port j = s.port j := rfl
@[simp] theorem State.modNoticeQueue_entryOf (s : State) (i : Port) (f : NoticeQueue → NoticeQueue) (j : Port) : (s.modNoticeQueue i f).entryOf j = s.entryOf j := rfl
@[simp] theorem State.modNoticeQueue_breakin (s : State) (i : Port) (f : NoticeQueue → NoticeQueue) (j : Port) : (s.modNoticeQueue i f).breakin j = s.breakin j := rfl
@[simp] theorem State.modNoticeQueue_flagsOf (s : State) (i : Port) (f : NoticeQueue → NoticeQueue) (j : Port) : (s.modNoticeQueue i f).flagsOf j = s.flagsOf j := rfl
@[simp] theorem State.modNoticeQueue_slot (s : State) (i : Port) (f : NoticeQueue → NoticeQueue) (j : SlotNo) : (s.modNoticeQueue i f).slot j = s.slot j := rfl
@[simp] theorem State.modNoticeQueue_record (s : State) (i : Port) (f : NoticeQueue → NoticeQueue) (j : SlotNo) : (s.modNoticeQueue i f).record j = s.record j := rfl
@[simp] theorem State.modNoticeQueue_handleOf (s : State) (i : Port) (f : NoticeQueue → NoticeQueue) (j : SlotNo) : (s.modNoticeQueue i f).handleOf j = s.handleOf j := rfl

@[simp] theorem State.modFlags_slots (s : State) (i : Port) (f : QueueFlags → QueueFlags) : (s.modFlags i f).slots = s.slots := rfl
@[simp] theorem State.modFlags_freeSegments (s : State) (i : Port) (f : QueueFlags → QueueFlags) : (s.modFlags i f).freeSegments = s.freeSegments := rfl
@[simp] theorem State.modFlags_retained (s : State) (i : Port) (f : QueueFlags → QueueFlags) : (s.modFlags i f).retained = s.retained := rfl
@[simp] theorem State.modFlags_nextEntryNumber (s : State) (i : Port) (f : QueueFlags → QueueFlags) : (s.modFlags i f).nextEntryNumber = s.nextEntryNumber := rfl
@[simp] theorem State.modFlags_ports (s : State) (i : Port) (f : QueueFlags → QueueFlags) : (s.modFlags i f).ports = s.ports := rfl
@[simp] theorem State.modFlags_entries (s : State) (i : Port) (f : QueueFlags → QueueFlags) : (s.modFlags i f).entries = s.entries := rfl
@[simp] theorem State.modFlags_routes (s : State) (i : Port) (f : QueueFlags → QueueFlags) : (s.modFlags i f).routes = s.routes := rfl
@[simp] theorem State.modFlags_defaultRoute (s : State) (i : Port) (f : QueueFlags → QueueFlags) : (s.modFlags i f).defaultRoute = s.defaultRoute := rfl
@[simp] theorem State.modFlags_links (s : State) (i : Port) (f : QueueFlags → QueueFlags) : (s.modFlags i f).links = s.links := rfl
@[simp] theorem State.modFlags_fences (s : State) (i : Port) (f : QueueFlags → QueueFlags) : (s.modFlags i f).fences = s.fences := rfl
@[simp] theorem State.modFlags_scoring (s : State) (i : Port) (f : QueueFlags → QueueFlags) : (s.modFlags i f).scoring = s.scoring := rfl
@[simp] theorem State.modFlags_breakins (s : State) (i : Port) (f : QueueFlags → QueueFlags) : (s.modFlags i f).breakins = s.breakins := rfl
@[simp] theorem State.modFlags_noticeQueues (s : State) (i : Port) (f : QueueFlags → QueueFlags) : (s.modFlags i f).noticeQueues = s.noticeQueues := rfl
@[simp] theorem State.modFlags_seconds (s : State) (i : Port) (f : QueueFlags → QueueFlags) : (s.modFlags i f).seconds = s.seconds := rfl
@[simp] theorem State.modFlags_divider (s : State) (i : Port) (f : QueueFlags → QueueFlags) : (s.modFlags i f).divider = s.divider := rfl
@[simp] theorem State.modFlags_timeBase0 (s : State) (i : Port) (f : QueueFlags → QueueFlags) : (s.modFlags i f).timeBase0 = s.timeBase0 := rfl
@[simp] theorem State.modFlags_timeBase1 (s : State) (i : Port) (f : QueueFlags → QueueFlags) : (s.modFlags i f).timeBase1 = s.timeBase1 := rfl
@[simp] theorem State.modFlags_deviceReset (s : State) (i : Port) (f : QueueFlags → QueueFlags) : (s.modFlags i f).deviceReset = s.deviceReset := rfl
@[simp] theorem State.modFlags_supplyLow (s : State) (i : Port) (f : QueueFlags → QueueFlags) : (s.modFlags i f).supplyLow = s.supplyLow := rfl
@[simp] theorem State.modFlags_entryTick (s : State) (i : Port) (f : QueueFlags → QueueFlags) : (s.modFlags i f).entryTick = s.entryTick := rfl
@[simp] theorem State.modFlags_leaseTick (s : State) (i : Port) (f : QueueFlags → QueueFlags) : (s.modFlags i f).leaseTick = s.leaseTick := rfl
@[simp] theorem State.modFlags_deadlineTick (s : State) (i : Port) (f : QueueFlags → QueueFlags) : (s.modFlags i f).deadlineTick = s.deadlineTick := rfl
@[simp] theorem State.modFlags_pending (s : State) (i : Port) (f : QueueFlags → QueueFlags) : (s.modFlags i f).pending = s.pending := rfl
@[simp] theorem State.modFlags_port (s : State) (i : Port) (f : QueueFlags → QueueFlags) (j : Port) : (s.modFlags i f).port j = s.port j := rfl
@[simp] theorem State.modFlags_entryOf (s : State) (i : Port) (f : QueueFlags → QueueFlags) (j : Port) : (s.modFlags i f).entryOf j = s.entryOf j := rfl
@[simp] theorem State.modFlags_breakin (s : State) (i : Port) (f : QueueFlags → QueueFlags) (j : Port) : (s.modFlags i f).breakin j = s.breakin j := rfl
@[simp] theorem State.modFlags_noticeQueue (s : State) (i : Port) (f : QueueFlags → QueueFlags) (j : Port) : (s.modFlags i f).noticeQueue j = s.noticeQueue j := rfl
@[simp] theorem State.modFlags_slot (s : State) (i : Port) (f : QueueFlags → QueueFlags) (j : SlotNo) : (s.modFlags i f).slot j = s.slot j := rfl
@[simp] theorem State.modFlags_record (s : State) (i : Port) (f : QueueFlags → QueueFlags) (j : SlotNo) : (s.modFlags i f).record j = s.record j := rfl
@[simp] theorem State.modFlags_handleOf (s : State) (i : Port) (f : QueueFlags → QueueFlags) (j : SlotNo) : (s.modFlags i f).handleOf j = s.handleOf j := rfl

@[simp] theorem State.modSlot_freeSegments (s : State) (i : SlotNo) (f : Slot → Slot) : (s.modSlot i f).freeSegments = s.freeSegments := rfl
@[simp] theorem State.modSlot_retained (s : State) (i : SlotNo) (f : Slot → Slot) : (s.modSlot i f).retained = s.retained := rfl
@[simp] theorem State.modSlot_nextEntryNumber (s : State) (i : SlotNo) (f : Slot → Slot) : (s.modSlot i f).nextEntryNumber = s.nextEntryNumber := rfl
@[simp] theorem State.modSlot_ports (s : State) (i : SlotNo) (f : Slot → Slot) : (s.modSlot i f).ports = s.ports := rfl
@[simp] theorem State.modSlot_entries (s : State) (i : SlotNo) (f : Slot → Slot) : (s.modSlot i f).entries = s.entries := rfl
@[simp] theorem State.modSlot_routes (s : State) (i : SlotNo) (f : Slot → Slot) : (s.modSlot i f).routes = s.routes := rfl
@[simp] theorem State.modSlot_defaultRoute (s : State) (i : SlotNo) (f : Slot → Slot) : (s.modSlot i f).defaultRoute = s.defaultRoute := rfl
@[simp] theorem State.modSlot_links (s : State) (i : SlotNo) (f : Slot → Slot) : (s.modSlot i f).links = s.links := rfl
@[simp] theorem State.modSlot_fences (s : State) (i : SlotNo) (f : Slot → Slot) : (s.modSlot i f).fences = s.fences := rfl
@[simp] theorem State.modSlot_scoring (s : State) (i : SlotNo) (f : Slot → Slot) : (s.modSlot i f).scoring = s.scoring := rfl
@[simp] theorem State.modSlot_flags (s : State) (i : SlotNo) (f : Slot → Slot) : (s.modSlot i f).flags = s.flags := rfl
@[simp] theorem State.modSlot_breakins (s : State) (i : SlotNo) (f : Slot → Slot) : (s.modSlot i f).breakins = s.breakins := rfl
@[simp] theorem State.modSlot_noticeQueues (s : State) (i : SlotNo) (f : Slot → Slot) : (s.modSlot i f).noticeQueues = s.noticeQueues := rfl
@[simp] theorem State.modSlot_seconds (s : State) (i : SlotNo) (f : Slot → Slot) : (s.modSlot i f).seconds = s.seconds := rfl
@[simp] theorem State.modSlot_divider (s : State) (i : SlotNo) (f : Slot → Slot) : (s.modSlot i f).divider = s.divider := rfl
@[simp] theorem State.modSlot_timeBase0 (s : State) (i : SlotNo) (f : Slot → Slot) : (s.modSlot i f).timeBase0 = s.timeBase0 := rfl
@[simp] theorem State.modSlot_timeBase1 (s : State) (i : SlotNo) (f : Slot → Slot) : (s.modSlot i f).timeBase1 = s.timeBase1 := rfl
@[simp] theorem State.modSlot_deviceReset (s : State) (i : SlotNo) (f : Slot → Slot) : (s.modSlot i f).deviceReset = s.deviceReset := rfl
@[simp] theorem State.modSlot_supplyLow (s : State) (i : SlotNo) (f : Slot → Slot) : (s.modSlot i f).supplyLow = s.supplyLow := rfl
@[simp] theorem State.modSlot_entryTick (s : State) (i : SlotNo) (f : Slot → Slot) : (s.modSlot i f).entryTick = s.entryTick := rfl
@[simp] theorem State.modSlot_leaseTick (s : State) (i : SlotNo) (f : Slot → Slot) : (s.modSlot i f).leaseTick = s.leaseTick := rfl
@[simp] theorem State.modSlot_deadlineTick (s : State) (i : SlotNo) (f : Slot → Slot) : (s.modSlot i f).deadlineTick = s.deadlineTick := rfl
@[simp] theorem State.modSlot_pending (s : State) (i : SlotNo) (f : Slot → Slot) : (s.modSlot i f).pending = s.pending := rfl
@[simp] theorem State.modSlot_port (s : State) (i : SlotNo) (f : Slot → Slot) (j : Port) : (s.modSlot i f).port j = s.port j := rfl
@[simp] theorem State.modSlot_entryOf (s : State) (i : SlotNo) (f : Slot → Slot) (j : Port) : (s.modSlot i f).entryOf j = s.entryOf j := rfl
@[simp] theorem State.modSlot_breakin (s : State) (i : SlotNo) (f : Slot → Slot) (j : Port) : (s.modSlot i f).breakin j = s.breakin j := rfl
@[simp] theorem State.modSlot_noticeQueue (s : State) (i : SlotNo) (f : Slot → Slot) (j : Port) : (s.modSlot i f).noticeQueue j = s.noticeQueue j := rfl
@[simp] theorem State.modSlot_flagsOf (s : State) (i : SlotNo) (f : Slot → Slot) (j : Port) : (s.modSlot i f).flagsOf j = s.flagsOf j := rfl

@[simp] theorem State.modRecord_freeSegments (s : State) (i : SlotNo) (f : Message → Message) : (s.modRecord i f).freeSegments = s.freeSegments := rfl
@[simp] theorem State.modRecord_retained (s : State) (i : SlotNo) (f : Message → Message) : (s.modRecord i f).retained = s.retained := rfl
@[simp] theorem State.modRecord_nextEntryNumber (s : State) (i : SlotNo) (f : Message → Message) : (s.modRecord i f).nextEntryNumber = s.nextEntryNumber := rfl
@[simp] theorem State.modRecord_ports (s : State) (i : SlotNo) (f : Message → Message) : (s.modRecord i f).ports = s.ports := rfl
@[simp] theorem State.modRecord_entries (s : State) (i : SlotNo) (f : Message → Message) : (s.modRecord i f).entries = s.entries := rfl
@[simp] theorem State.modRecord_routes (s : State) (i : SlotNo) (f : Message → Message) : (s.modRecord i f).routes = s.routes := rfl
@[simp] theorem State.modRecord_defaultRoute (s : State) (i : SlotNo) (f : Message → Message) : (s.modRecord i f).defaultRoute = s.defaultRoute := rfl
@[simp] theorem State.modRecord_links (s : State) (i : SlotNo) (f : Message → Message) : (s.modRecord i f).links = s.links := rfl
@[simp] theorem State.modRecord_fences (s : State) (i : SlotNo) (f : Message → Message) : (s.modRecord i f).fences = s.fences := rfl
@[simp] theorem State.modRecord_scoring (s : State) (i : SlotNo) (f : Message → Message) : (s.modRecord i f).scoring = s.scoring := rfl
@[simp] theorem State.modRecord_flags (s : State) (i : SlotNo) (f : Message → Message) : (s.modRecord i f).flags = s.flags := rfl
@[simp] theorem State.modRecord_breakins (s : State) (i : SlotNo) (f : Message → Message) : (s.modRecord i f).breakins = s.breakins := rfl
@[simp] theorem State.modRecord_noticeQueues (s : State) (i : SlotNo) (f : Message → Message) : (s.modRecord i f).noticeQueues = s.noticeQueues := rfl
@[simp] theorem State.modRecord_seconds (s : State) (i : SlotNo) (f : Message → Message) : (s.modRecord i f).seconds = s.seconds := rfl
@[simp] theorem State.modRecord_divider (s : State) (i : SlotNo) (f : Message → Message) : (s.modRecord i f).divider = s.divider := rfl
@[simp] theorem State.modRecord_timeBase0 (s : State) (i : SlotNo) (f : Message → Message) : (s.modRecord i f).timeBase0 = s.timeBase0 := rfl
@[simp] theorem State.modRecord_timeBase1 (s : State) (i : SlotNo) (f : Message → Message) : (s.modRecord i f).timeBase1 = s.timeBase1 := rfl
@[simp] theorem State.modRecord_deviceReset (s : State) (i : SlotNo) (f : Message → Message) : (s.modRecord i f).deviceReset = s.deviceReset := rfl
@[simp] theorem State.modRecord_supplyLow (s : State) (i : SlotNo) (f : Message → Message) : (s.modRecord i f).supplyLow = s.supplyLow := rfl
@[simp] theorem State.modRecord_entryTick (s : State) (i : SlotNo) (f : Message → Message) : (s.modRecord i f).entryTick = s.entryTick := rfl
@[simp] theorem State.modRecord_leaseTick (s : State) (i : SlotNo) (f : Message → Message) : (s.modRecord i f).leaseTick = s.leaseTick := rfl
@[simp] theorem State.modRecord_deadlineTick (s : State) (i : SlotNo) (f : Message → Message) : (s.modRecord i f).deadlineTick = s.deadlineTick := rfl
@[simp] theorem State.modRecord_pending (s : State) (i : SlotNo) (f : Message → Message) : (s.modRecord i f).pending = s.pending := rfl
@[simp] theorem State.modRecord_port (s : State) (i : SlotNo) (f : Message → Message) (j : Port) : (s.modRecord i f).port j = s.port j := rfl
@[simp] theorem State.modRecord_entryOf (s : State) (i : SlotNo) (f : Message → Message) (j : Port) : (s.modRecord i f).entryOf j = s.entryOf j := rfl
@[simp] theorem State.modRecord_breakin (s : State) (i : SlotNo) (f : Message → Message) (j : Port) : (s.modRecord i f).breakin j = s.breakin j := rfl
@[simp] theorem State.modRecord_noticeQueue (s : State) (i : SlotNo) (f : Message → Message) (j : Port) : (s.modRecord i f).noticeQueue j = s.noticeQueue j := rfl
@[simp] theorem State.modRecord_flagsOf (s : State) (i : SlotNo) (f : Message → Message) (j : Port) : (s.modRecord i f).flagsOf j = s.flagsOf j := rfl

/-! ### What an update changes -/

theorem State.port_modPort (s : State) (i j : Port) (f : StationPort → StationPort) :
    (s.modPort i f).port j = if i = j then f (s.port j) else s.port j := get_vmod _ _ _ _

@[simp] theorem State.port_modPort_same (s : State) (i : Port) (f : StationPort → StationPort) : (s.modPort i f).port i = f (s.port i) :=
  get_vmod_same _ _ _

theorem State.entryOf_modEntry (s : State) (i j : Port) (f : EntryContext → EntryContext) :
    (s.modEntry i f).entryOf j = if i = j then f (s.entryOf j) else s.entryOf j := get_vmod _ _ _ _

@[simp] theorem State.entryOf_modEntry_same (s : State) (i : Port) (f : EntryContext → EntryContext) : (s.modEntry i f).entryOf i = f (s.entryOf i) :=
  get_vmod_same _ _ _

theorem State.breakin_modBreakin (s : State) (i j : Port) (f : BreakIn → BreakIn) :
    (s.modBreakin i f).breakin j = if i = j then f (s.breakin j) else s.breakin j := get_vmod _ _ _ _

@[simp] theorem State.breakin_modBreakin_same (s : State) (i : Port) (f : BreakIn → BreakIn) : (s.modBreakin i f).breakin i = f (s.breakin i) :=
  get_vmod_same _ _ _

theorem State.noticeQueue_modNoticeQueue (s : State) (i j : Port) (f : NoticeQueue → NoticeQueue) :
    (s.modNoticeQueue i f).noticeQueue j = if i = j then f (s.noticeQueue j) else s.noticeQueue j := get_vmod _ _ _ _

@[simp] theorem State.noticeQueue_modNoticeQueue_same (s : State) (i : Port) (f : NoticeQueue → NoticeQueue) : (s.modNoticeQueue i f).noticeQueue i = f (s.noticeQueue i) :=
  get_vmod_same _ _ _

theorem State.flagsOf_modFlags (s : State) (i j : Port) (f : QueueFlags → QueueFlags) :
    (s.modFlags i f).flagsOf j = if i = j then f (s.flagsOf j) else s.flagsOf j := get_vmod _ _ _ _

@[simp] theorem State.flagsOf_modFlags_same (s : State) (i : Port) (f : QueueFlags → QueueFlags) : (s.modFlags i f).flagsOf i = f (s.flagsOf i) :=
  get_vmod_same _ _ _

theorem State.slot_modSlot (s : State) (i j : SlotNo) (f : Slot → Slot) :
    (s.modSlot i f).slot j = if i = j then f (s.slot j) else s.slot j := get_vmod _ _ _ _

@[simp] theorem State.slot_modSlot_same (s : State) (i : SlotNo) (f : Slot → Slot) : (s.modSlot i f).slot i = f (s.slot i) :=
  get_vmod_same _ _ _

/-- The record of a slot is the record of its place. -/
theorem State.record_eq (s : State) (k : SlotNo) : s.record k = (s.slot k).record := rfl

/-- A record after a change of one record. -/
theorem State.record_modRecord (s : State) (i j : SlotNo) (f : Message → Message) :
    (s.modRecord i f).record j = if i = j then (s.record j).map f else s.record j := by
  rw [State.record_eq, State.modRecord, State.slot_modSlot]
  split <;> rfl

/-- The record that was changed. -/
@[simp] theorem State.record_modRecord_same (s : State) (i : SlotNo) (f : Message → Message) :
    (s.modRecord i f).record i = (s.record i).map f := by
  simp [State.record_modRecord]

/-- A change of a record leaves every handle. -/
@[simp] theorem State.modRecord_handleOf (s : State) (i j : SlotNo) (f : Message → Message) :
    (s.modRecord i f).handleOf j = s.handleOf j := by
  simp only [State.handleOf, State.modRecord, State.slot_modSlot]
  split <;> rfl

/-! ### What the reads through resolution depend on -/

/-- Resolution reads the route table, the default route and the links. -/
theorem State.resolve_congr {s t : State} (routes : t.routes = s.routes) (default : t.defaultRoute = s.defaultRoute)
    (links : t.links = s.links) (area : Nat) : t.resolve area = s.resolve area := by
  cases s
  cases t
  subst routes default links
  rfl

/-- A slot's queue reads the slots and the routing. -/
theorem State.queueOf_congr {s t : State} (slots : t.slots = s.slots) (routes : t.routes = s.routes)
    (default : t.defaultRoute = s.defaultRoute) (links : t.links = s.links) (k : SlotNo) : t.queueOf k = s.queueOf k := by
  cases s
  cases t
  subst slots routes default links
  rfl

/-- A queue reads the slots and the routing. -/
theorem State.queue_congr {s t : State} (slots : t.slots = s.slots) (routes : t.routes = s.routes)
    (default : t.defaultRoute = s.defaultRoute) (links : t.links = s.links) (p : Port) : t.queue p = s.queue p := by
  simp only [State.queue, State.queueOf_congr slots routes default links]

/-- The outstanding count reads the slots. -/
theorem State.outstanding_congr {s t : State} (slots : t.slots = s.slots) : t.outstanding = s.outstanding := by
  simp only [State.outstanding, State.countRecords, State.record, slots]

end Sys2Proof.Machine
end

