-- ==== Sys2Proof/Laws/Ops.lean ====
section
/-! SUPPORT. For each shared operation, once, what it can change: the operation equals its input with the fields it may
write taken from its output. -/

namespace Sys2Proof.Machine

/-! ### Requests at their owning block -/

/-- A request is in progress exactly where its port is WORKING on its code and payload. -/
theorem State.inProgress_eq_some {s : State} {c : Instr} {p : Port} {rq : Request} :
    s.inProgress c = some (p, rq) ↔
      ∃ f, requestFrame c = some f ∧ f.port = p ∧ (s.port p).exchangeState = .working rq ∧ rq.code = f.code
        ∧ rq.payload = f.payload := by
  unfold State.inProgress
  constructor
  · intro e
    split at e
    · cases e
    · next f frame =>
      split at e
      · next q working =>
        split at e
        · next both =>
          cases e
          exact ⟨f, frame, rfl, working, both⟩
        · cases e
      · cases e
      · cases e
  · rintro ⟨f, frame, rfl, working, both⟩
    rw [frame]
    simp only [working, both, and_self, if_true]

/-- What a request does where it is in progress in a part that has its supply: its block acts on the part that the tick before
it leaves. -/
theorem serveAfter_of_inProgress {ticks : State → State} {c : Instr} {act : State → Reply × State} {s : State} {p : Port}
    {rq : Request} (supply : s.supplyLow = false) (h : s.inProgress c = some (p, rq)) :
    serveAfter ticks c act s = .next (holdResponse p rq (act (ticks s)).1 (act (ticks s)).2) := by
  simp [serveAfter, whenPowered, supply, h]

/-- What a request does where it is not in progress. -/
theorem serveAfter_of_not_inProgress {ticks : State → State} {c : Instr} {act : State → Reply × State} {s : State}
    (h : s.inProgress c = none) : serveAfter ticks c act s = .next s := by
  simp [serveAfter, whenPowered, h]

/-- Every request leads to a next state: the part as it stood, or the part its block leaves with the response held. -/
theorem serveAfter_cases (ticks : State → State) (c : Instr) (act : State → Reply × State) (s : State) :
    serveAfter ticks c act s = .next s
      ∨ ∃ p rq, s.supplyLow = false ∧ s.inProgress c = some (p, rq)
        ∧ serveAfter ticks c act s = .next (holdResponse p rq (act (ticks s)).1 (act (ticks s)).2) := by
  cases h : s.inProgress c with
  | none => exact .inl (serveAfter_of_not_inProgress h)
  | some x =>
    cases supply : s.supplyLow with
    | true => exact .inl (by simp [serveAfter, whenPowered, supply])
    | false => exact .inr ⟨x.1, x.2, rfl, rfl, serveAfter_of_inProgress supply h⟩

/-- What a request other than a NEXT-BREAKIN does where it is in progress in a part that has its supply: its block acts on the
part in which every block has taken the tick that came before. -/
theorem serve_of_inProgress {c : Instr} {act : State → Reply × State} {s : State} {p : Port} {rq : Request}
    (supply : s.supplyLow = false) (h : s.inProgress c = some (p, rq)) :
    serve c act s = .next (holdResponse p rq (act (takeTicks s)).1 (act (takeTicks s)).2) :=
  serveAfter_of_inProgress supply h

/-- The same for every part. -/
theorem serve_cases (c : Instr) (act : State → Reply × State) (s : State) :
    serve c act s = .next s
      ∨ ∃ p rq, s.supplyLow = false ∧ s.inProgress c = some (p, rq)
        ∧ serve c act s = .next (holdResponse p rq (act (takeTicks s)).1 (act (takeTicks s)).2) :=
  serveAfter_cases takeTicks c act s

/-- A request reserved to CONTROL ports, on a CONTROL port. -/
theorem controlOnly_of_control {p : Port} {act : State → Reply × State} {s : State} (h : (s.port p).control = true) :
    controlOnly p act s = act s := by
  have h' : s.isControl p = true := h
  simp [controlOnly, h']

/-- A request reserved to CONTROL ports, on any other port. -/
theorem controlOnly_of_not_control {p : Port} {act : State → Reply × State} {s : State}
    (h : (s.port p).control = false) : controlOnly p act s = refuse .notControl s := by
  have h' : s.isControl p = false := h
  simp [controlOnly, h']

/-- The slot a handle in a request gives. -/
theorem HandleField.slotNo_eq_some {h : HandleField} {k : SlotNo} :
    HandleField.slotNo h = some k ↔ h.slot.toNat = k.val := by
  unfold HandleField.slotNo
  split
  · next lt =>
    rw [Option.some.injEq, Fin.ext_iff]
  · next ge =>
    have := k.isLt
    constructor
    · intro e
      cases e
    · omega

/-- The handle check, for a handle whose slot number is in range. -/
theorem withHandle_of_slot {h : HandleField} {k : SlotNo} {act : SlotNo → State → Reply × State} {s : State}
    (slot : h.slot.toNat = k.val) :
    withHandle h act s =
      if HandleField.incarnation h = (s.slot k).inc then act k s else refuse .staleHandle s := by
  simp [withHandle, HandleField.slotNo_eq_some.mpr slot]

/-! ### Notices -/

/-- A notice changes the notice queue of its port alone. -/
theorem post_frame (p : Port) (kind : NoticeKind) (h : Option Handle) (d : Detail) (s : State) :
    post p kind h d s = { s with noticeQueues := (post p kind h d s).noticeQueues } := rfl

/-- A fold of notices changes notice queues alone. -/
theorem foldl_post_frame (test : Port → Bool) (kind : NoticeKind) (h : Option Handle) (d : Detail) (ps : List Port)
    (s : State) :
    ps.foldl (fun t p => if test p then post p kind h d t else t) s =
      { s with
        noticeQueues := (ps.foldl (fun t p => if test p then post p kind h d t else t) s).noticeQueues } := by
  induction ps generalizing s with
  | nil => rfl
  | cons p ps ih =>
    rw [List.foldl_cons, ih]
    split <;> rfl

/-- The same notice for several ports changes notice queues alone. -/
theorem postEach_frame (ports : PortSet) (kind : NoticeKind) (h : Option Handle) (d : Detail) (s : State) :
    postEach ports kind h d s = { s with noticeQueues := (postEach ports kind h d s).noticeQueues } :=
  foldl_post_frame _ _ _ _ _ _

/-- STATE-CHANGE changes notice queues alone. -/
theorem notifyWatchers_frame (k : SlotNo) (s : State) :
    notifyWatchers k s = { s with noticeQueues := (notifyWatchers k s).noticeQueues } := by
  unfold notifyWatchers
  split
  · rfl
  · exact postEach_frame _ _ _ _ _

/-- HELD changes notice queues alone. -/
theorem reportHeld_frame (k : SlotNo) (s : State) :
    reportHeld k s = { s with noticeQueues := (reportHeld k s).noticeQueues } := by
  unfold reportHeld
  split
  · rfl
  · split
    · rfl
    · exact postEach_frame _ _ _ _ _

/-- QUEUE-READY changes notice queues alone. -/
theorem reportQueueReady_frame (p : Port) (s : State) :
    reportQueueReady p s = { s with noticeQueues := (reportQueueReady p s).noticeQueues } := rfl

/-- The completion of a fence changes the fences and notice queues alone. -/
theorem completeFence_frame (p : Port) (s : State) :
    completeFence p s =
      { s with fences := (completeFence p s).fences, noticeQueues := (completeFence p s).noticeQueues } := by
  unfold completeFence
  split <;> rfl

/-- The settling of fences changes the fences and notice queues alone. -/
theorem settleFences_frame (before : Nat) (s : State) :
    settleFences before s =
      { s with
        fences := (settleFences before s).fences, noticeQueues := (settleFences before s).noticeQueues } := by
  unfold settleFences
  split
  · have fold : ∀ (ps : List Port) (t : State),
        ps.foldl (fun t p => completeFence p t) t =
          { t with
            fences := (ps.foldl (fun t p => completeFence p t) t).fences
            noticeQueues := (ps.foldl (fun t p => completeFence p t) t).noticeQueues } := by
      intro ps
      induction ps with
      | nil => intro t; rfl
      | cons p ps ih =>
        intro t
        rw [List.foldl_cons, ih, completeFence_frame]
    exact fold _ _
  · rfl

/-! ### Break-in -/

/-- The clearing of a pending break-in changes the break-in state and the notice queues alone. -/
theorem clearPendingBreakIn_frame (p : Port) (s : State) :
    clearPendingBreakIn p s =
      { s with
        breakins := (clearPendingBreakIn p s).breakins
        noticeQueues := (clearPendingBreakIn p s).noticeQueues } := by
  unfold clearPendingBreakIn
  split <;> rfl

/-- The clearing of an active handoff changes the break-in state and the notice queues alone. -/
theorem clearActive_frame (p : Port) (s : State) :
    clearActive p s =
      { s with breakins := (clearActive p s).breakins, noticeQueues := (clearActive p s).noticeQueues } := by
  unfold clearActive
  rw [clearPendingBreakIn_frame]
  rfl

/-- The raising of a break-in changes the break-in state and the notice queues alone. -/
theorem raiseBreakIn_frame (p : Port) (k : SlotNo) (s : State) :
    raiseBreakIn p k s =
      { s with breakins := (raiseBreakIn p k s).breakins, noticeQueues := (raiseBreakIn p k s).noticeQueues } := by
  unfold raiseBreakIn
  split <;> rfl

/-- The break-in check changes the sticky flags, the break-in state and the notice queues alone. -/
theorem breakInCheck_frame (p : Port) (s : State) :
    breakInCheck p s =
      { s with
        flags := (breakInCheck p s).flags, breakins := (breakInCheck p s).breakins
        noticeQueues := (breakInCheck p s).noticeQueues } := by
  unfold breakInCheck
  split
  · rfl
  · split
    · split
      · rfl
      · rw [raiseBreakIn_frame]
        rfl
    · rfl

/-- A departure from a queue changes the sticky flags, the break-in state and the notice queues alone. -/
theorem departed_frame (p : Port) (h : Handle) (s : State) :
    departed p h s =
      { s with
        flags := (departed p h s).flags, breakins := (departed p h s).breakins
        noticeQueues := (departed p h s).noticeQueues } := by
  unfold departed
  split
  · rw [breakInCheck_frame, clearPendingBreakIn_frame]
  · rfl

/-- A withdrawal changes the notice queues alone. -/
theorem withdrawBreakIn_frame (p : Port) (h : Handle) (s : State) :
    withdrawBreakIn p h s = { s with noticeQueues := (withdrawBreakIn p h s).noticeQueues } := rfl

/-- A departure by `act` is `act` alone, or `act` with the pending break-in that names the message cleared before it: its
notice withdrawn before `act` where no break-in is raised again, and after it, before the new BREAK-IN, where one is. -/
theorem leaveQueue_cases (p : Port) (h : Handle) (act : State → State) (s : State) :
    ((s.breakin p).pending ≠ some h ∧ leaveQueue p h act s = act s)
      ∨ (s.breakin p).pending = some h
        ∧ (((recheckAfter p h act s).breakin p).pending.isSome = true ∧ leaveQueue p h act s = recheckAfter p h act s
          ∨ ((recheckAfter p h act s).breakin p).pending = none
            ∧ leaveQueue p h act s = act (clearPendingBreakIn p s)) := by
  by_cases pending : (s.breakin p).pending = some h
  · refine .inr ⟨pending, ?_⟩
    by_cases renewed : ((recheckAfter p h act s).breakin p).pending.isSome = true
    · exact .inl ⟨renewed, by rw [leaveQueue, if_pos pending]; exact if_pos renewed⟩
    · exact .inr ⟨by simpa using renewed, by rw [leaveQueue, if_pos pending]; exact if_neg renewed⟩
  · exact .inl ⟨pending, if_neg pending⟩

/-- A departure that p's pending break-in does not name is `act` alone. -/
theorem leaveQueue_of_not_pending {p : Port} {h : Handle} {s : State} (act : State → State)
    (pending : (s.breakin p).pending ≠ some h) : leaveQueue p h act s = act s := if_neg pending

/-! ### Queues, holds and freeing -/

/-- A hold changes the slots alone. -/
theorem holdFor_frame (k : SlotNo) (r : HoldReason) (p : Option Port) (s : State) :
    holdFor k r p s = { s with slots := (holdFor k r p s).slots } := rfl

/-- A hold that is told changes the slots and the notice queues alone. -/
theorem holdAndTell_frame (k : SlotNo) (r : HoldReason) (p : Option Port) (s : State) :
    holdAndTell k r p s =
      { s with slots := (holdAndTell k r p s).slots, noticeQueues := (holdAndTell k r p s).noticeQueues } := by
  unfold holdAndTell
  rw [reportHeld_frame, notifyWatchers_frame, holdFor_frame]

/-- A joining of a queue changes the slots, the sticky flags, the break-in state and the notice queues alone. -/
theorem joinQueue_frame (k : SlotNo) (q : Port) (s : State) :
    joinQueue k q s =
      { s with
        slots := (joinQueue k q s).slots, flags := (joinQueue k q s).flags
        breakins := (joinQueue k q s).breakins, noticeQueues := (joinQueue k q s).noticeQueues } := by
  unfold joinQueue
  simp only
  rw [breakInCheck_frame]
  split
  · rw [reportQueueReady_frame, notifyWatchers_frame]
    rfl
  · rw [notifyWatchers_frame]
    rfl

/-- A return to a queue changes the slots, the sticky flags, the break-in state and the notice queues alone. -/
theorem returnToQueue_frame (k : SlotNo) (p : Port) (s : State) :
    returnToQueue k p s =
      { s with
        slots := (returnToQueue k p s).slots, flags := (returnToQueue k p s).flags
        breakins := (returnToQueue k p s).breakins, noticeQueues := (returnToQueue k p s).noticeQueues } := by
  unfold returnToQueue
  simp only
  split
  · rfl
  · split
    · rw [holdAndTell_frame]
      rfl
    · split
      · rw [joinQueue_frame]
        rfl
      · rw [holdAndTell_frame]
        rfl

/-- A bounce changes the slots, the sticky flags, the break-in state and the notice queues alone. -/
theorem bounce_frame (k : SlotNo) (p : Port) (e : HistoryEvent) (s : State) :
    bounce k p e s =
      { s with
        slots := (bounce k p e s).slots, flags := (bounce k p e s).flags
        breakins := (bounce k p e s).breakins, noticeQueues := (bounce k p e s).noticeQueues } := by
  unfold bounce
  simp only
  split
  · rfl
  · split
    · rw [holdAndTell_frame]
      rfl
    · rw [returnToQueue_frame]
      rfl

/-- A handing out changes the slots, the sticky flags, the break-in state and the notice queues alone. -/
theorem handOut_frame (k : SlotNo) (p : Port) (s : State) :
    handOut k p s =
      { s with
        slots := (handOut k p s).slots, flags := (handOut k p s).flags
        breakins := (handOut k p s).breakins, noticeQueues := (handOut k p s).noticeQueues } := by
  unfold handOut
  simp only
  split
  · rw [departed_frame]
    rfl
  · rw [notifyWatchers_frame, departed_frame]
    rfl

/-- A freeing changes the slots, the pool and the retained list alone. -/
theorem freeSlot_frame (k : SlotNo) (s : State) :
    freeSlot k s =
      { s with
        slots := (freeSlot k s).slots, freeSegments := (freeSlot k s).freeSegments
        retained := (freeSlot k s).retained } := by
  unfold freeSlot
  split <;> rfl

/-- A reclamation changes the slots, the pool, the retained list and the notice queues alone. -/
theorem reclaim_frame (k : SlotNo) (s : State) :
    reclaim k s =
      { s with
        slots := (reclaim k s).slots, freeSegments := (reclaim k s).freeSegments
        retained := (reclaim k s).retained, noticeQueues := (reclaim k s).noticeQueues } := by
  unfold reclaim
  split
  · rfl
  · rw [freeSlot_frame, postEach_frame]

/-- The end of an entry whose message was not accepted changes the slots, the pool, the retained list and the entry contexts
alone. -/
theorem abandonEntry_frame (p : Port) (s : State) :
    abandonEntry p s =
      { s with
        slots := (abandonEntry p s).slots, freeSegments := (abandonEntry p s).freeSegments
        retained := (abandonEntry p s).retained, entries := (abandonEntry p s).entries } := by
  unfold abandonEntry
  split
  · rfl
  · rw [freeSlot_frame]
    rfl

/-! ### The tick at the blocks -/

/-- A fold has the frame of its function; `frame s t` is s with the fields that may change taken from t. -/
theorem foldl_frame {α : Type} {frame : State → State → State} {f : State → α → State} (refl : ∀ s, s = frame s s)
    (trans : ∀ s t u, frame (frame s t) u = frame s u) (step : ∀ s a, f s a = frame s (f s a))
    (as : List α) (s : State) : as.foldl f s = frame s (as.foldl f s) := by
  induction as generalizing s with
  | nil => exact refl s
  | cons a as ih => exact (ih (f s a)).trans ((congrArg (frame · _) (step s a)).trans (trans _ _ _))

/-- An entry's timeout changes the slots, the pool, the retained list, the entry contexts and the notice queues alone. -/
theorem timeOutEntry_frame (s : State) (p : Port) :
    timeOutEntry s p =
      { s with
        slots := (timeOutEntry s p).slots, freeSegments := (timeOutEntry s p).freeSegments
        retained := (timeOutEntry s p).retained, entries := (timeOutEntry s p).entries
        noticeQueues := (timeOutEntry s p).noticeQueues } := by
  unfold timeOutEntry
  split
  · rfl
  · split
    · rw [post_frame, closeEntry, freeSlot_frame]
      rfl
    · rfl

/-- A lapse changes the slots, the sticky flags, the break-in state, the fences and the notice queues alone. -/
theorem lapseIfDue_frame (s : State) (k : SlotNo) :
    lapseIfDue s k =
      { s with
        slots := (lapseIfDue s k).slots, flags := (lapseIfDue s k).flags, breakins := (lapseIfDue s k).breakins
        fences := (lapseIfDue s k).fences, noticeQueues := (lapseIfDue s k).noticeQueues } := by
  unfold lapseIfDue
  split
  · rfl
  · split
    · split
      · rw [settleFences_frame, bounce_frame, post_frame, clearActive_frame]
      · rfl
    all_goals rfl

/-- A delivery-deadline expiry changes the slots, the sticky flags, the break-in state and the notice queues alone. -/
theorem expireIfDue_frame (s : State) (k : SlotNo) :
    expireIfDue s k =
      { s with
        slots := (expireIfDue s k).slots, flags := (expireIfDue s k).flags, breakins := (expireIfDue s k).breakins
        noticeQueues := (expireIfDue s k).noticeQueues } := by
  unfold expireIfDue
  split
  · rfl
  · split
    · split
      · next p _ =>
        obtain ⟨_, e⟩ | ⟨_, ⟨_, e⟩ | ⟨_, e⟩⟩ :=
          leaveQueue_cases p (s.handleOf k) (holdAndTell k .deadlinePassed none) s
        · rw [e, holdAndTell_frame]
        · rw [e, recheckAfter, breakInCheck_frame, withdrawBreakIn_frame, holdAndTell_frame]
          rfl
        · rw [e, holdAndTell_frame, clearPendingBreakIn_frame]
      · rw [holdAndTell_frame]
    · rfl

/-- The Entry Unit's taking of a tick changes its latch, the slots, the pool, the retained list, the entry contexts and the
notice queues alone. -/
theorem takeEntryTick_frame (s : State) :
    takeEntryTick s =
      { s with
        entryTick := false
        slots := (takeEntryTick s).slots, freeSegments := (takeEntryTick s).freeSegments
        retained := (takeEntryTick s).retained, entries := (takeEntryTick s).entries
        noticeQueues := (takeEntryTick s).noticeQueues } := by
  unfold takeEntryTick
  split
  · exact foldl_frame
      (frame := fun s t => { s with
        slots := t.slots, freeSegments := t.freeSegments, retained := t.retained, entries := t.entries
        noticeQueues := t.noticeQueues })
      (fun _ => rfl) (fun _ _ _ => rfl) timeOutEntry_frame _ _
  · next none => rw [← Bool.eq_false_iff.mpr none]

/-- The taking of a tick's lease expiries changes its latch, the slots, the sticky flags, the break-in state, the fences and
the notice queues alone. -/
theorem takeLeaseTick_frame (slots : List SlotNo) (s : State) :
    takeLeaseTick slots s =
      { s with
        leaseTick := false
        slots := (takeLeaseTick slots s).slots, flags := (takeLeaseTick slots s).flags
        breakins := (takeLeaseTick slots s).breakins, fences := (takeLeaseTick slots s).fences
        noticeQueues := (takeLeaseTick slots s).noticeQueues } := by
  unfold takeLeaseTick
  split
  · exact foldl_frame
      (frame := fun s t => { s with
        slots := t.slots, flags := t.flags, breakins := t.breakins, fences := t.fences
        noticeQueues := t.noticeQueues })
      (fun _ => rfl) (fun _ _ _ => rfl) lapseIfDue_frame _ _
  · next none => rw [← Bool.eq_false_iff.mpr none]

/-- The taking of a tick's delivery-deadline expiries, after its lease expiries, changes the two latches, the slots, the
sticky flags, the break-in state, the fences and the notice queues alone. -/
theorem takeDeadlineTick_frame (leases : List SlotNo) (s : State) :
    takeDeadlineTick leases s =
      { s with
        leaseTick := false, deadlineTick := false
        slots := (takeDeadlineTick leases s).slots, flags := (takeDeadlineTick leases s).flags
        breakins := (takeDeadlineTick leases s).breakins, fences := (takeDeadlineTick leases s).fences
        noticeQueues := (takeDeadlineTick leases s).noticeQueues } := by
  have lease := takeLeaseTick_frame leases s
  unfold takeDeadlineTick
  simp only
  split
  · have fold := foldl_frame
      (frame := fun s t => { s with
        slots := t.slots, flags := t.flags, breakins := t.breakins, fences := t.fences, noticeQueues := t.noticeQueues })
      (fun _ => rfl) (fun _ _ _ => rfl) (fun s k => (expireIfDue_frame s k).trans (by rw [expireIfDue_frame]))
      allSlots { takeLeaseTick leases s with deadlineTick := false }
    generalize allSlots.foldl expireIfDue { takeLeaseTick leases s with deadlineTick := false } = u at fold ⊢
    exact fold.trans (congrArg (fun x : State => { x with
      deadlineTick := false, slots := u.slots, flags := u.flags, breakins := u.breakins, fences := u.fences
      noticeQueues := u.noticeQueues }) lease)
  · next none =>
    have none : s.deadlineTick = false := by
      rw [lease] at none
      exact Bool.eq_false_iff.mpr none
    exact lease.trans (by rw [none])

/-- The taking of a tick at every block, its lease expiries at the given slots: what it can change, and no block has a tick to
take after it. -/
theorem takeTicksAt_frame (leases : List SlotNo) (s : State) :
    takeTicksAt leases s =
      { s with
        entryTick := false, leaseTick := false, deadlineTick := false
        slots := (takeTicksAt leases s).slots, freeSegments := (takeTicksAt leases s).freeSegments
        retained := (takeTicksAt leases s).retained, entries := (takeTicksAt leases s).entries
        flags := (takeTicksAt leases s).flags, breakins := (takeTicksAt leases s).breakins
        fences := (takeTicksAt leases s).fences, noticeQueues := (takeTicksAt leases s).noticeQueues } := by
  unfold takeTicksAt
  rw [takeDeadlineTick_frame, takeEntryTick_frame]

/-- The same for the whole of the tick. -/
theorem takeTicks_frame (s : State) :
    takeTicks s =
      { s with
        entryTick := false, leaseTick := false, deadlineTick := false
        slots := (takeTicks s).slots, freeSegments := (takeTicks s).freeSegments, retained := (takeTicks s).retained
        entries := (takeTicks s).entries, flags := (takeTicks s).flags, breakins := (takeTicks s).breakins
        fences := (takeTicks s).fences, noticeQueues := (takeTicks s).noticeQueues } :=
  takeTicksAt_frame allSlots s

/-- Blocks that have taken every tick have none to take. -/
theorem takeTicks_of_taken {s : State} (entry : s.entryTick = false) (lease : s.leaseTick = false)
    (deadline : s.deadlineTick = false) : takeTicks s = s := by
  simp [takeTicks, takeTicksAt, takeEntryTick, takeDeadlineTick, takeLeaseTick, entry, lease, deadline]

/-- What a tick does before a NEXT-BREAKIN: all of it, or all but the lapse of the handoff that the request suspends. -/
theorem ticksBeforeBreakin_cases (p : Port) (act : State → Reply × State) (s : State) :
    ticksBeforeBreakin p act s = takeTicks s
      ∨ ∃ k, s.lapsing p = some k ∧ (act (takeTicksAt (otherSlots k) s)).1.result = .ok
        ∧ ticksBeforeBreakin p act s = takeTicksAt (otherSlots k) s := by
  unfold ticksBeforeBreakin
  cases h : s.lapsing p with
  | none => exact .inl rfl
  | some k =>
    by_cases ok : (act (takeTicksAt (otherSlots k) s)).1.result = .ok
    · exact .inr ⟨k, rfl, ok, if_pos ok⟩
    · exact .inl (if_neg ok)

/-- Where the leases have no tick to take, nothing lapses. -/
theorem State.lapsing_of_taken {s : State} (lease : s.leaseTick = false) (p : Port) : s.lapsing p = none := by
  simp [State.lapsing, lease]

/-! ### Message records -/

/-- An event appended to a history changes the history and the dropped count alone. -/
theorem Message.log_frame (now : Nat) (port : Option Port) (e : HistoryEvent) (m : Message) :
    Message.log now port e m =
      { m with history := (Message.log now port e m).history, dropped := (Message.log now port e m).dropped } := by
  unfold Message.log
  simp only
  split <;> rfl

/-- The applying of a pending upgrade changes the class and the pending upgrade alone, and leaves none pending. -/
theorem Message.applyUpgrade_frame (m : Message) :
    Message.applyUpgrade m = { m with klass := (Message.applyUpgrade m).klass, pendingUpgrade := none } := by
  unfold Message.applyUpgrade
  split
  · next h => rw [← h]
  · rfl

end Sys2Proof.Machine
end

