-- ==== Sys2Proof/Laws/PerInstr.lean ====
section
/-! SUPPORT. A fact about every command as syntax, one lemma for each constructor: the frame of a well-formed request names
a request, and its payload is of a length that the request accepts (R190, R191). -/

namespace Sys2Proof.Laws.FrameFits

open Sys2Proof.Machine

/-- The frame of a command, if it is a well-formed request, has a request code and a payload length accepted for it. -/
def Statement (i : Instr) : Prop :=
  i.wellFormed = true → ∀ f, requestFrame i = some f →
    f.code ≠ 0 ∧ f.payload.length ≤ 60
      ∧ ∃ lo hi, acceptedLength f.code = some (lo, hi) ∧ lo ≤ f.payload.length ∧ f.payload.length ≤ hi

/-- A command that is no request has no frame. -/
theorem of_no_frame {i : Instr} (h : requestFrame i = none) : Statement i := by
  intro _ f e
  rw [h] at e
  cases e

/-- A request whose payload has one length. -/
theorem of_fixed {i : Instr} {port : Port} {payload : List Byte} (code : Byte) (n : Nat)
    (frame : requestFrame i = some { port := port, code := code, payload := payload }) (nonzero : code ≠ 0)
    (length : payload.length = n) (accepted : acceptedLength code = some (n, n)) (small : n ≤ 60) : Statement i := by
  intro _ g e
  rw [frame] at e
  cases e
  exact ⟨nonzero, length ▸ small, n, n, accepted, length.ge, length.le⟩

theorem selectFall (p : Port) : Statement (.selectFall p) := of_no_frame rfl

theorem exchange (p : Port) (bytes : List Byte) (extraBits : Nat) : Statement (.exchange p bytes extraBits) := of_no_frame rfl

theorem nop (p : Port) : Statement (.nop p) :=
  of_fixed 0x01 0 rfl (by decide) rfl rfl (by decide)

theorem clockRead (p : Port) : Statement (.clockRead p) :=
  of_fixed 0x02 0 rfl (by decide) rfl rfl (by decide)

theorem readHeader (p : Port) (h : HandleField) : Statement (.readHeader p h) :=
  of_fixed 0x10 2 rfl (by decide) rfl rfl (by decide)

theorem readText (p : Port) (h : HandleField) (index : Byte) : Statement (.readText p h index) :=
  of_fixed 0x11 3 rfl (by decide) rfl rfl (by decide)

theorem readNotes (p : Port) (h : HandleField) (index : Byte) : Statement (.readNotes p h index) :=
  of_fixed 0x12 3 rfl (by decide) rfl rfl (by decide)

theorem readHistory (p : Port) (h : HandleField) : Statement (.readHistory p h) :=
  of_fixed 0x13 2 rfl (by decide) rfl rfl (by decide)

theorem find (p : Port) (station : StationField) (serial : Half) (day : Half) : Statement (.find p station serial day) :=
  of_fixed 0x14 12 rfl (by decide) (by simp [halfBytes, be2]) rfl (by decide)

theorem enterBegin (p : Port) (fields : EnterBeginFields) : Statement (.enterBegin p fields) :=
  of_fixed 0x20 21 rfl (by decide) (by simp [EnterBeginFields.bytes, halfBytes, be2]) rfl (by decide)

theorem appendText (p : Port) (h : HandleField) (chars : List Byte) : Statement (.appendText p h chars) := by
  intro wf f e
  have short : chars.length + 2 ≤ 60 := of_decide_eq_true wf
  have length : (HandleField.bytes h ++ chars).length = 2 + chars.length := List.length_append
  cases e
  exact ⟨fun zero => absurd zero (by simp), by simp only [length]; omega, 2, 60, rfl, by simp only [length]; omega,
    by simp only [length]; omega⟩

theorem enterEnd (p : Port) (h : HandleField) : Statement (.enterEnd p h) :=
  of_fixed 0x22 2 rfl (by decide) rfl rfl (by decide)

theorem enterCancel (p : Port) (h : HandleField) : Statement (.enterCancel p h) :=
  of_fixed 0x23 2 rfl (by decide) rfl rfl (by decide)

theorem purge (p : Port) (h : HandleField) : Statement (.purge p h) :=
  of_fixed 0x28 2 rfl (by decide) rfl rfl (by decide)

theorem storeStatus (p : Port) : Statement (.storeStatus p) :=
  of_fixed 0x29 0 rfl (by decide) rfl rfl (by decide)

theorem routeSet (p : Port) (index : Byte) (first : Half) (last : Half) (port : Byte) : Statement (.routeSet p index first last port) :=
  of_fixed 0x30 6 rfl (by decide) rfl rfl (by decide)

theorem routeClear (p : Port) (index : Byte) : Statement (.routeClear p index) :=
  of_fixed 0x31 1 rfl (by decide) rfl rfl (by decide)

theorem routeRead (p : Port) (start : Byte) (area : Half) : Statement (.routeRead p start area) :=
  of_fixed 0x32 3 rfl (by decide) rfl rfl (by decide)

theorem defaultRoute (p : Port) (port : Byte) : Statement (.defaultRoute p port) :=
  of_fixed 0x33 1 rfl (by decide) rfl rfl (by decide)

theorem linkState (p : Port) (port : Byte) (state : Byte) : Statement (.linkState p port state) :=
  of_fixed 0x34 2 rfl (by decide) rfl rfl (by decide)

theorem fence (p : Port) : Statement (.fence p) :=
  of_fixed 0x35 0 rfl (by decide) rfl rfl (by decide)

theorem configure (p : Port) (fields : ConfigureFields) : Statement (.configure p fields) :=
  of_fixed 0x38 10 rfl (by decide) rfl rfl (by decide)

theorem configRead (p : Port) : Statement (.configRead p) :=
  of_fixed 0x39 0 rfl (by decide) rfl rfl (by decide)

theorem queueList (p : Port) (queue : Byte) (rank : Byte) : Statement (.queueList p queue rank) :=
  of_fixed 0x40 2 rfl (by decide) rfl rfl (by decide)

theorem next (p : Port) : Statement (.next p) :=
  of_fixed 0x41 0 rfl (by decide) rfl rfl (by decide)

theorem extend (p : Port) (h : HandleField) (token : Byte) : Statement (.extend p h token) :=
  of_fixed 0x42 3 rfl (by decide) rfl rfl (by decide)

theorem dispose (p : Port) (fields : DisposeFields) : Statement (.dispose p fields) :=
  of_fixed 0x43 14 rfl (by decide) (by simp [DisposeFields.bytes, HandleField.bytes, halfBytes, be2]) rfl (by decide)

theorem breakinEnable (p : Port) (value : Byte) : Statement (.breakinEnable p value) :=
  of_fixed 0x48 1 rfl (by decide) rfl rfl (by decide)

theorem nextBreakin (p : Port) (h : HandleField) (token : Byte) : Statement (.nextBreakin p h token) :=
  of_fixed 0x49 3 rfl (by decide) rfl rfl (by decide)

theorem resume (p : Port) (h : HandleField) (token : Byte) : Statement (.resume p h token) :=
  of_fixed 0x4A 3 rfl (by decide) rfl rfl (by decide)

theorem portStatus (p : Port) (port : Byte) : Statement (.portStatus p port) :=
  of_fixed 0x4B 1 rfl (by decide) rfl rfl (by decide)

theorem hold (p : Port) (h : HandleField) : Statement (.hold p h) :=
  of_fixed 0x50 2 rfl (by decide) rfl rfl (by decide)

theorem release (p : Port) (h : HandleField) : Statement (.release p h) :=
  of_fixed 0x51 2 rfl (by decide) rfl rfl (by decide)

theorem void (p : Port) (h : HandleField) : Statement (.void p h) :=
  of_fixed 0x52 2 rfl (by decide) rfl rfl (by decide)

theorem amend (p : Port) (fields : AmendFields) : Statement (.amend p fields) :=
  of_fixed 0x53 6 rfl (by decide) rfl rfl (by decide)

theorem addNote (p : Port) (h : HandleField) (chars : List Byte) : Statement (.addNote p h chars) := by
  intro wf f e
  have short : chars.length + 2 ≤ 60 := of_decide_eq_true wf
  have length : (HandleField.bytes h ++ chars).length = 2 + chars.length := List.length_append
  cases e
  exact ⟨fun zero => absurd zero (by simp), by simp only [length]; omega, 2, 60, rfl, by simp only [length]; omega,
    by simp only [length]; omega⟩

theorem watch (p : Port) (h : HandleField) (value : Byte) : Statement (.watch p h value) :=
  of_fixed 0x58 3 rfl (by decide) rfl rfl (by decide)

theorem notices (p : Port) : Statement (.notices p) :=
  of_fixed 0x59 0 rfl (by decide) rfl rfl (by decide)

theorem tick : Statement (.tick ) := of_no_frame rfl

theorem entryIdleTimeout : Statement (.entryIdleTimeout ) := of_no_frame rfl

theorem leaseExpiry : Statement (.leaseExpiry ) := of_no_frame rfl

theorem deliveryDeadlineExpiry : Statement (.deliveryDeadlineExpiry ) := of_no_frame rfl

theorem portReset (p : Port) : Statement (.portReset p) := of_no_frame rfl

theorem warmReset (straps : Straps) : Statement (.warmReset straps) := of_no_frame rfl

theorem coldReset (straps : Straps) (lines : ResetLines) : Statement (.coldReset straps lines) := of_no_frame rfl

theorem portResetLineRelease (p : Port) : Statement (.portResetLineRelease p) := of_no_frame rfl

theorem deviceResetInputRelease : Statement (.deviceResetInputRelease ) := of_no_frame rfl

theorem supplyBelowWorkingLevel (seen : Bool) : Statement (.supplyBelowWorkingLevel seen) := of_no_frame rfl

end Sys2Proof.Laws.FrameFits
end

