-- ==== Sys2Proof/Laws/Told.lean ====
section
/-! SUPPORT. The operations in the terms in which the statements speak: what a notice to a set of ports leaves, what a freeing
leaves, and what a request in progress leaves. -/

namespace Sys2Proof.Machine

/-- A port's notice queue after a notice to one port. -/
theorem noticeQueue_post (p q : Port) (kind : NoticeKind) (h : Option Handle) (d : Detail) (s : State) :
    (post p kind h d s).noticeQueue q =
      if p = q then NoticeQueue.join { kind := kind, handle := h, detail := d, time := s.seconds } (s.noticeQueue q)
      else s.noticeQueue q :=
  State.noticeQueue_modNoticeQueue _ _ _ _

/-- A port's notice queue after notices to the ports of a list without repeats that a test picks. -/
theorem noticeQueue_foldl_post (test : Port → Bool) (kind : NoticeKind) (h : Option Handle) (d : Detail) (ps : List Port)
    (nodup : ps.Nodup) (s : State) (q : Port) :
    (ps.foldl (fun t p => if test p then post p kind h d t else t) s).noticeQueue q =
      if q ∈ ps ∧ test q = true then
        NoticeQueue.join { kind := kind, handle := h, detail := d, time := s.seconds } (s.noticeQueue q)
      else s.noticeQueue q := by
  induction ps generalizing s with
  | nil => simp
  | cons p ps ih =>
    obtain ⟨fresh, rest⟩ := List.nodup_cons.mp nodup
    rw [List.foldl_cons, ih rest]
    by_cases same : p = q
    · subst same
      by_cases picked : test p = true <;> simp [fresh, picked, noticeQueue_post]
    · have other : ¬ q = p := fun e => same e.symm
      by_cases picked : test p = true
      · have queue := noticeQueue_post p q kind h d s
        rw [if_neg same] at queue
        have now : (post p kind h d s).seconds = s.seconds := rfl
        simp [other, picked, queue, now]
      · simp [other, picked]

/-- The same notice for each port of a set, in the statements' term. -/
theorem postEach_eq_told (ports : PortSet) (kind : NoticeKind) (h : Option Handle) (d : Detail) (s : State) :
    postEach ports kind h d s = s.told ports { kind := kind, handle := h, detail := d, time := s.seconds } := by
  rw [postEach_frame]
  unfold State.told
  congr 1
  apply vector_ext
  intro q
  have all : q ∈ allPorts := by
    revert q
    decide
  have eq := noticeQueue_foldl_post (fun p => ports.get p) kind h d allPorts (by decide) s q
  rw [get_vzip]
  refine Eq.trans eq ?_
  simp only [all, true_and, joinIf]
  rfl

/-- STATE-CHANGE in the statements' term. -/
theorem notifyWatchers_eq_told {k : SlotNo} {s : State} {m : Message} (h : s.record k = some m) :
    notifyWatchers k s = s.told m.watchers (stateChange s k m) := by
  simp only [notifyWatchers, h, postEach_eq_told]
  rfl

/-- A notice to one port in the statements' term. -/
theorem post_eq_told (p : Port) (kind : NoticeKind) (h : Option Handle) (d : Detail) (s : State) :
    post p kind h d s = s.told (onlyPort p) { kind := kind, handle := h, detail := d, time := s.seconds } := by
  rw [post_frame]
  unfold State.told
  congr 1
  apply vector_ext
  intro q
  refine Eq.trans (noticeQueue_post p q kind h d s) ?_
  have member : (onlyPort p).get q = decide (p = q) := by
    revert p q
    decide
  rw [get_vzip, member]
  by_cases same : p = q <;> simp [joinIf, same, State.noticeQueue]

/-- A freeing in the statements' term. -/
theorem freeSlot_eq_withoutRecord {k : SlotNo} {s : State} {m : Message} (h : s.record k = some m) :
    freeSlot k s = s.withoutRecord k m := by
  simp only [freeSlot, h, State.withoutRecord]

/-- A reclamation in the statements' term. -/
theorem reclaim_eq {k : SlotNo} {s : State} {m : Message} (h : s.record k = some m) :
    reclaim k s =
      (s.told m.watchers
        { kind := .reclaimed, handle := some (s.handleOf k), detail := .nothing, time := s.seconds }).withoutRecord k m := by
  simp only [reclaim, h, postEach_eq_told]
  exact freeSlot_eq_withoutRecord h

/-- The clearing of a pending break-in in the statements' term. -/
theorem clearPendingBreakIn_eq (p : Port) (s : State) : clearPendingBreakIn p s = s.withoutPending p := by
  unfold clearPendingBreakIn State.withoutPending
  cases (s.breakin p).pending <;> rfl

/-- The clearing of an active handoff in the statements' term. -/
theorem clearActive_eq (p : Port) (s : State) : clearActive p s = s.withoutActive p :=
  clearPendingBreakIn_eq _ _

/-- A departure from a queue in the statements' term. -/
theorem leaveQueue_eq {p : Port} {k : SlotNo} {s : State} (act : State → State) (h : s.queueOf k = some p) :
    leaveQueue p (s.handleOf k) act s = s.leaving k act := by
  simp only [leaveQueue, recheckAfter, State.leaving, h, clearPendingBreakIn_eq]
  rfl

/-- The end of an entry at a reset in the statements' term. -/
theorem abandonEntry_eq (p : Port) (s : State) : abandonEntry p s = s.entryAbandoned p := by
  unfold abandonEntry State.entryAbandoned
  cases (s.entryOf p).filling with
  | none => rfl
  | some o =>
    cases record : s.record o.handle.slot with
    | none => simp only [record, freeSlot]; rfl
    | some m => simp only [record, freeSlot_eq_withoutRecord record]; rfl

/-- A change of a record in the statements' term. -/
theorem modRecord_eq_withRecord {k : SlotNo} {s : State} {m : Message} (f : Message → Message) (h : s.record k = some m) :
    s.modRecord k f = s.withRecord k (f m) := by
  have slot : (s.slots.get k).record = some m := h
  unfold State.modRecord State.withRecord State.modSlot
  congr 1
  apply vector_ext
  intro j
  simp only [get_vmod]
  split
  · next same => subst same; rw [slot]; rfl
  · rfl

/-- HELD in the statements' term. -/
theorem reportHeld_eq_told {k : SlotNo} {s : State} {m : Message} {r : HoldReason} (h : s.record k = some m)
    (held : m.custody = .held r) : reportHeld k s = s.told (controlSet s) (heldNotice s k r) := by
  simp only [reportHeld, h, held, Custody.reason, postEach_eq_told]
  rfl

/-- A hold that is told, in the statements' term. -/
theorem holdAndTell_eq {k : SlotNo} {r : HoldReason} {p : Option Port} {s : State} {m : Message}
    (h : s.record k = some m) :
    holdAndTell k r p s = s.leftAs k (Message.log s.seconds p .held { m with custody := .held r }) := by
  have custody : (Message.log s.seconds p .held { m with custody := .held r }).custody = .held r := by
    rw [Message.log_frame]
  unfold holdAndTell holdFor
  rw [modRecord_eq_withRecord _ h]
  generalize Message.log s.seconds p .held { m with custody := .held r } = n at custody ⊢
  have record : (s.withRecord k n).record k = some n := by
    simp [State.withRecord, State.record_eq]
  have handle : (s.withRecord k n).handleOf k = s.handleOf k := by
    simp [State.withRecord, State.handleOf]
  have change : stateChange (s.withRecord k n) k n = stateChange s k n := by
    rw [stateChange, handle]
    rfl
  have notice : heldNotice (s.withRecord k n) k r = heldNotice s k r := by
    rw [heldNotice, handle]
    rfl
  rw [notifyWatchers_eq_told record, change]
  refine Eq.trans (reportHeld_eq_told (m := n) record custody) ?_
  simp only [State.leftAs, custody]
  rw [← notice]
  rfl

/-- A request that is served, in the statements' term; for a NEXT-BREAKIN take `ticksBeforeBreakin` for `ticks`. -/
theorem serveAfter_of_serving {ticks : State → State} {c : Instr} {act : State → Reply × State} {s : State} {p : Port}
    {rq : Request} (h : Serving s c p rq) (taken : ticks s = s) :
    serveAfter ticks c act s = .next (responded p rq (act s).1.result (act s).1.payload (act s).2) := by
  rw [serveAfter_of_inProgress h.1 h.2.1, taken]
  rfl

/-- The handoff that the waiting tick lapses, in the statements' term. -/
theorem lapsing_eq_some_iff (s : State) (p : Port) (k : SlotNo) : s.lapsing p = some k ↔ LapseWaits s p k := by
  rw [LapseWaits, State.lapsing]
  cases s.leaseTick
  · simp
  · simp only [if_true, true_and, Option.filter_eq_some_iff]
    refine and_congr Iff.rfl ?_
    cases s.record k with
    | none => exact Iff.rfl
    | some m => simp only [Option.any_some]; cases m.custody <;> exact Iff.rfl

/-- The ticks before a NEXT-BREAKIN in a part that has taken them. -/
theorem ticksBeforeBreakin_of_taken {s : State} (h : s.ticksTaken) (p : Port) (act : State → Reply × State) :
    ticksBeforeBreakin p act s = s := by
  rw [ticksBeforeBreakin, State.lapsing_of_taken h.2.1, takeTicks_of_taken h.1 h.2.1 h.2.2]

/-- A request other than a NEXT-BREAKIN that is served. -/
theorem serve_of_serving {c : Instr} {act : State → Reply × State} {s : State} {p : Port} {rq : Request}
    (h : Serving s c p rq) :
    serve c act s = .next (responded p rq (act s).1.result (act s).1.payload (act s).2) :=
  serveAfter_of_serving h (takeTicks_of_taken h.2.2.1 h.2.2.2.1 h.2.2.2.2)

end Sys2Proof.Machine
end

