-- ==== Sys2Proof/Tests/Slice0.lean ====
section
/-! SUPPORT. The model's own tests: the smoke test of WellFormed, one step on a small part for the spec's worked values, and
for each statement with hypotheses a concrete part and operands that meet them. -/

namespace Sys2Proof.Tests

open Sys2Proof.Machine

-- The kernel evaluates the theorems of this file one after another.
set_option Elab.async false

/-! ### Parts and requests for the tests -/

/-- A text of n characters. -/
def text (n : Nat) : List Byte := List.replicate n 0x41

/-- The station W1A. -/
def station : List Byte := [0x57, 0x31, 0x41]

/-- The station W1A as a field. -/
def stationField : StationField := #v[0x57, 0x31, 0x41, 0, 0, 0, 0, 0]

/-- A traffic message with entry number n, on area 5. -/
def message (n : Nat) (klass : Machine.Class) (custody : Custody) : Message :=
  { klass := klass, pendingUpgrade := none
    origin := station, serial := n, day := 1, hour := 0, minute := 0, area := 5
    declaredCheck := none, deadline := none, entryPort := 0
    entry := some { time := 0, number := n, check := .notDeclared }
    words := 1, truncated := false, substituted := false, text := text 1, notes := []
    token := 3, bounces := 0, adjust := 0, copies := 0, custody := custody
    watchers := Vector.replicate 4 false, history := [{ time := 0, port := some 0, event := .entered }], dropped := 0 }

/-- A message that port p is filling. -/
def filling (p : Port) : Message :=
  { message 9999 .routine .filling with entryPort := p, entry := none, history := [] }

/-- The history of a message that was voided out of p's hands. -/
def voidedHistory (p : Port) : List HistoryEntry :=
  [{ time := 0, port := some 0, event := .entered }, { time := 1, port := some p, event := .handed },
    { time := 2, port := some 2, event := .voided }]

/-- A part at work. SP0 passes slot 0 and has suspended slot 1; slot 2 waits for SP0 as its pending break-in; slot 3 was
voided, slot 6 relayed, slot 5 is held, SP1 fills slot 4, and SP2 waits at a fence. SP0 and SP2 are CONTROL ports, and
every area resolves to SP0. -/
def busy : State :=
  { State.reset with
    slots := State.reset.slots
      |>.set 0 { inc := 0, record := some (message 1 .urgent (.handed 0 1500 true)) }
      |>.set 1 { inc := 0, record := some (message 2 .routine (.suspended 0 50 false)) }
      |>.set 2
        { inc := 0, record := some { message 3 .immediate .queued with watchers := #v[false, true, false, false] } }
      |>.set 3 { inc := 1, record := some { message 4 .routine .void with text := [], history := voidedHistory 1 } }
      |>.set 4 { inc := 0, record := some (filling 1) }
      |>.set 5 { inc := 0, record := some (message 5 .routine (.held .control)) }
      |>.set 6 { inc := 0, record := some (message 6 .routine (.disposed (.relayed station 9) 20)) }
    freeSegments := 1018
    retained := [{ slot := 3, inc := 1 }, { slot := 6, inc := 0 }]
    nextEntryNumber := 7
    ports := vzip (fun x c => { x with control := c }) State.reset.ports #v[true, false, true, false]
    entries := State.reset.entries.set 1
      { filling := some { handle := { slot := 4, inc := 0 }, lastActivity := 700 }, spaceCarry := false }
    defaultRoute := some 0
    fences := #v[false, false, true, false]
    breakins := State.reset.breakins.set 0
      { enable := true, pending := some { slot := 2, inc := 0 }
        active := some { handle := { slot := 0, inc := 0 }, token := 3 }
        stack := [{ handle := { slot := 1, inc := 0 }, token := 3, leaseRemaining := 50, savedEnable := true
                    klass := .routine, revoked := false }] }
    noticeQueues := State.reset.noticeQueues.set 0
      { items := [{ kind := .breakIn, handle := some { slot := 2, inc := 0 }, detail := .klass .immediate, time := 900 }]
        overrun := false }
    seconds := 1000
    pending := [.portReset 1] }

/-- A part in which port p is working on command c. -/
def asking (c : Instr) (s : State) : State :=
  match requestFrame c with
  | none => s
  | some f => s.modPort f.port (fun x =>
      { x with exchangeState := .working { code := f.code, tag := 9, payload := f.payload } })

/-- The request of command c, with tag 9. -/
def request (c : Instr) : Request :=
  match requestFrame c with
  | none => { code := 0, tag := 0, payload := [] }
  | some f => { code := f.code, tag := 9, payload := f.payload }

/-- The part that command c leaves. -/
def after (c : Instr) (s : State) : State :=
  match exec c s with
  | .next t => t
  | .fault _ => s
  | .refused _ => s

/-- The response that port p holds. -/
def heldResponse (s : State) (p : Port) : Option (Result × List Byte) :=
  match (s.port p).exchangeState with
  | .ready r => some (r.result, r.payload)
  | .idle => none
  | .working _ => none

/-- The request c, taken on the part s, is answered with r. -/
def answers (c : Instr) (s : State) (r : Result) (payload : List Nat) : Bool :=
  match requestFrame c with
  | none => false
  | some f =>
    decide (heldResponse (after c (asking c s)) f.port = some (r, payload.map (fun n => BitVec.ofNat 8 n)))

/-- The field of a handle. -/
def field (k inc : Nat) : HandleField := { slot := BitVec.ofNat 8 k, inc := BitVec.ofNat 8 inc }

/-- Every value of an option satisfies what its one value does. -/
theorem forall_of_all {α : Type} {o : Option α} {P : α → Prop} [DecidablePred P]
    (h : o.all (fun a => decide (P a)) = true) : ∀ a, o = some a → P a := by
  intro a e
  subst e
  exact of_decide_eq_true h

/-- What every record of the slots satisfies. -/
theorem everyRecord_of_all {s : State} {P : SlotNo → Message → Prop} [∀ k m, Decidable (P k m)]
    (h : ∀ k, (s.record k).all (fun m => decide (P k m)) = true) : s.everyRecord P :=
  fun k => forall_of_all (h k)

/-- What every two records of the slots satisfy. -/
theorem everyPair_of_all {s : State} {P : SlotNo → Message → SlotNo → Message → Prop} [∀ j a k b, Decidable (P j a k b)]
    (h : ∀ j, (s.record j).all (fun a => decide (∀ k, (s.record k).all (fun b => decide (P j a k b)) = true)) = true) :
    s.everyRecord (fun j a => s.everyRecord (P j a)) :=
  fun j a e k => forall_of_all (forall_of_all (h j) a e k)

/-! ### WellFormed -/

/-- A group that was not completed has at most 7 bits. -/
theorem test_wellFormed_exchange_bits :
    (Instr.exchange 0 [] 7).wellFormed = true ∧ (Instr.exchange 0 [] 8).wellFormed = false := by decide

/-- The characters of an APPEND-TEXT and of an ADD-NOTE are at most 58. -/
theorem test_wellFormed_chars :
    (Instr.appendText 0 (field 0 0) (text 58)).wellFormed = true
      ∧ (Instr.appendText 0 (field 0 0) (text 59)).wellFormed = false
      ∧ (Instr.addNote 0 (field 0 0) (text 58)).wellFormed = true
      ∧ (Instr.addNote 0 (field 0 0) (text 59)).wellFormed = false := by decide

/-! ### Single steps -/

/-- R66, "Example: resolving areas": 120 by the default, 160 and 220 by entry 1, 300 and 5 by the default. -/
theorem test_resolve_example :
    let s : State := { State.reset with
      routes := State.reset.routes
        |>.set 0 { first := 100, last := 199, port := 1, valid := true }
        |>.set 1 { first := 150, last := 299, port := 0, valid := true }
        |>.set 2 { first := 0, last := 4095, port := 2, valid := false }
        |>.set 3 { first := 200, last := 249, port := 3, valid := true }
      defaultRoute := some 3, links := #v[true, false, true, true] }
    s.resolveBy 120 = some (3, .byDefault) ∧ s.resolveBy 160 = some (0, .entry 1)
      ∧ s.resolveBy 220 = some (0, .entry 1) ∧ s.resolveBy 300 = some (3, .byDefault)
      ∧ s.resolveBy 5 = some (3, .byDefault) := by decide +kernel

/-- R85 to R87, the table of ages: a ROUTINE message of 2,048 minutes has the sum 8192, an URGENT one of 512 minutes the sum
24576, clamped to 24575. -/
theorem test_score_example :
    (evaluate Scoring.defaults 122880 0 (message 1 .routine .queued)).sum = 8192
      ∧ (evaluate Scoring.defaults 30720 0 (message 1 .urgent .queued)).sum = 24576
      ∧ (evaluate Scoring.defaults 30720 0 (message 1 .urgent .queued)).score = 24575
      ∧ (evaluate Scoring.defaults 30720 0 (message 1 .urgent .queued)).clamp = .lowered := by decide

/-- R86, the least sum of a ROUTINE message. -/
theorem test_least_sum :
    (evaluate { Scoring.defaults with penalty := 4095 } 0 0
      { message 1 .routine .queued with bounces := 6, adjust := -4096 }).sum = -28666 := by decide

/-- R38: a word divided between two appends counts once. -/
theorem test_words_divided :
    countWords 0 true [0x41, 0x42] = (1, false) ∧ countWords 1 false [0x43, 0x20] = (1, true) := by decide

/-- R15, "Example: a history that trims": RELAYED on a full history removes the HANDED at index 1. -/
theorem test_history_trims :
    let full : List HistoryEntry :=
      [{ time := 1000, port := some 0, event := .entered }, { time := 1200, port := some 1, event := .handed },
        { time := 1800, port := some 1, event := .lapsed }, { time := 1900, port := some 1, event := .handed },
        { time := 2000, port := some 1, event := .bounced }, { time := 2100, port := some 2, event := .handed },
        { time := 2200, port := some 2, event := .bounced }, { time := 2300, port := some 2, event := .handed }]
    let m := Message.log 2400 (some 2) .relayed { message 1 .routine .queued with history := full }
    m.history.map (fun e => e.time) = [1000, 1800, 1900, 2000, 2100, 2200, 2300, 2400] ∧ m.dropped = 1 := by decide

/-- R175: a first byte of 00h is no request, 61 declared bytes are a bad frame, two bytes a short one. -/
theorem test_judge :
    judge [0, 5, 0] = .noRequest
      ∧ judge [0x41, 5, 61] = .answered { code := 0x41, tag := 5, result := .badFrame, payload := [] }
      ∧ judge [0x41, 5] = .answered { code := 0, tag := 0, result := .frameShort, payload := [] }
      ∧ judge [0x41, 5, 0, 7, 7] = .request { code := 0x41, tag := 5, payload := [] } := by decide

/-- R179: NOP is answered OK without payload. -/
theorem test_nop : answers (.nop 1) busy .ok [] = true := by decide +kernel

/-- R185: CLOCK-READ after 1,000 seconds with both time-base straps deasserted. -/
theorem test_clockRead : answers (.clockRead 1) busy .ok [0, 0, 3, 232, 0, 0, 0, 128, 0] = true := by decide +kernel

/-- R95: CONFIG-READ of the defaults of R91. -/
theorem test_configRead : answers (.configRead 1) busy .ok [32, 16, 8, 4, 1, 2, 0, 2, 88] = true := by decide +kernel

/-- R61: 185 EMPTY slots, 2 retained records, 1018 free segments, 1 retained. -/
theorem test_storeStatus : answers (.storeStatus 3) busy .ok [185, 2, 3, 250, 0, 1] = true := by decide +kernel

/-- R79: a FENCE with one mark outstanding is not complete. -/
theorem test_fence : answers (.fence 3) busy .ok [0, 1] = true := by decide +kernel

/-- R103, R106: EXTEND sets the lease deadline to now plus 600. -/
theorem test_extend : answers (.extend 0 (field 0 0) 3) busy .ok [0, 0, 3, 0, 0, 6, 64] = true := by decide +kernel

/-- R105: the last port of a voided handoff learns REVOKED, and any other STALE-HANDOFF. -/
theorem test_handoff_revoked :
    answers (.extend 1 (field 3 1) 3) busy .revoked [] = true
      ∧ answers (.extend 2 (field 3 1) 3) busy .staleHandoff [] = true := by decide +kernel

/-- R143: a PURGE from a port without CONTROL is refused before its handle is read. -/
theorem test_purge_needs_control : answers (.purge 1 (field 255 0)) busy .notControl [] = true := by decide +kernel

/-- R60: a PURGE of a VOID record without segments. -/
theorem test_purge : answers (.purge 2 (field 3 1)) busy .ok [3, 1, 0, 0] = true := by decide +kernel

/-- R78, R108: a DELIVERED disposition of the marked handoff completes the pending fence, and withdraws BREAK-IN. -/
theorem test_dispose_completes_fence :
    let c : Instr := .dispose 0
      { handle := field 0 0, token := 3, outcome := 2, station := stationField, serial := 0 }
    let t := after c (asking c busy)
    t.fences.get 2 = false ∧ (t.noticeQueue 2).items.map (fun n => n.kind) = [.fenceDone]
      ∧ (t.noticeQueue 0).items = [] ∧ t.retained.map (fun h => h.slot) = [3, 6, 0] := by decide +kernel

/-- R131: NEXT-BREAKIN pauses the lease with 500 seconds left and hands out the IMMEDIATE message. -/
theorem test_nextBreakin :
    let c : Instr := .nextBreakin 0 (field 0 0) 3
    let t := after c (asking c busy)
    ((t.breakin 0).stack.map (fun r => (r.handle.slot, r.leaseRemaining))) = [(0, 500), (1, 50)]
      ∧ (t.breakin 0).active.map (fun a => (a.handle.slot, a.token)) = some (2, 4)
      ∧ (t.breakin 0).enable = false := by decide +kernel

/-- R139, first row, in both orders: the NEXT-BREAKIN that comes before LEASE_EXPIRY suspends the handoff with a lease remaining
of 0 and the tick does not examine it; the one that follows it is answered NO-BREAKIN. -/
theorem test_nextBreakin_at_the_lapsing_tick :
    let c : Instr := .nextBreakin 0 (field 0 0) 3
    let s : State := { busy with leaseTick := true, seconds := 1500 }
    let t := after .leaseExpiry (after c (asking c s))
    (t.record 0).map (fun m => (m.custody, m.bounces)) = some (.suspended 0 0 true, 0)
      ∧ (t.breakin 0).active.map (fun a => a.handle.slot) = some 2 ∧ (t.noticeQueue 0).items = []
      ∧ answers c (after .leaseExpiry s) .noBreakin [] = true := by decide +kernel

/-- R47: an entry idle for 300 seconds ends at the tick, and one idle for 299 does not. -/
theorem test_idle_boundary :
    ((takeEntryTick { busy with entryTick := true }).entryOf 1).filling = none
      ∧ ((takeEntryTick { busy with entryTick := true, seconds := 999 }).entryOf 1).filling ≠ none := by decide +kernel

/-- R108, R114, R78: at the tick that reaches its deadline the lease lapses, SP0 receives LAPSED, its break-in is withdrawn,
and with the last mark gone SP2 receives FENCE-DONE. -/
theorem test_lapse :
    let t := after .leaseExpiry { busy with leaseTick := true, seconds := 1500 }
    (t.record 0).map (fun m => (m.custody, m.bounces)) = some (.queued, 1)
      ∧ (t.breakin 0).active = none ∧ (t.breakin 0).pending = none
      ∧ (t.noticeQueue 0).items.map (fun n => n.kind) = [.lapsed]
      ∧ (t.noticeQueue 2).items.map (fun n => n.kind) = [.fenceDone] := by decide +kernel

/-- R115, R184: an EXTEND that follows the lapsing tick meets the lapsed handoff, whether or not LEASE_EXPIRY stood before
it. -/
theorem test_tick_before_extend :
    answers (.extend 0 (field 0 0) 3) (after .tick { busy with seconds := 1499 }) .staleHandoff [] = true := by
  decide +kernel

/-- A part in which SP0's notice queue is full, with the BREAK-IN of slot 2 in it, and SP0 watches slot 2, whose delivery
deadline is now; slot 5 is an IMMEDIATE message in the queue too, or is held. -/
def crowded (other : Custody) : State :=
  let others : List Notice := ([10, 11, 12, 13, 14, 15, 16, 17, 18, 19, 20, 21, 22, 23, 24] : List SlotNo).map (fun k =>
    { kind := .held, handle := some { slot := k, inc := 0 }, detail := .reason .control, time := 0 })
  ((busy.withRecord 2
    { message 3 .immediate .queued with watchers := #v[true, false, false, false], deadline := some 1000 }).withRecord 5
      (message 5 .immediate other)).modNoticeQueue 0 (fun q => { q with items := q.items ++ others })

/-- The number of notices in SP0's queue, the last of them, and its NOTICE-OVERRUN flag. -/
def tail (s : State) : Nat × Option (NoticeKind × Option SlotNo) × Bool :=
  let q := s.noticeQueue 0
  (q.items.length, q.items.getLast?.map (fun n => (n.kind, n.handle.map (fun h => h.slot))), q.overrun)

/-- R150: where no break-in is raised again, the BREAK-IN of a QUEUED message that is voided is withdrawn before STATE-CHANGE
joins, so a full queue has room for it. -/
theorem test_void_withdraws_first :
    let c : Instr := .void 2 (field 2 0)
    ((crowded (.held .control)).noticeQueue 0).items.length = 16
      ∧ tail (after c (asking c (crowded (.held .control)))) = (16, some (.stateChange, some 2), false) := by decide +kernel

/-- R164: where a break-in is raised again, its BREAK-IN joins at the tail of the queue that was full, at a VOID and at a
delivery-deadline expiry. -/
theorem test_renewed_breakIn_joins_a_full_queue :
    let c : Instr := .void 2 (field 2 0)
    tail (after c (asking c (crowded .queued))) = (16, some (.breakIn, some 5), true)
      ∧ tail (after .deliveryDeadlineExpiry { crowded .queued with deadlineTick := true })
        = (16, some (.breakIn, some 5), true) := by decide +kernel

/-- R183: the count saturates, and a saturated count gives no tick. -/
theorem test_tick_saturates :
    (after .tick { busy with seconds := 4294967294 }).entryTick = true
      ∧ (after .tick { busy with seconds := 4294967295 }).entryTick = false := by decide +kernel

/-- R187: a part with a supply too low takes nothing but a cold reset. -/
theorem test_supply :
    let s := after (.supplyBelowWorkingLevel true) busy
    after .tick s = s
      ∧ (after (.coldReset Straps.deasserted ResetLines.released) s).record 0 = none := by decide +kernel

/-- R119: the port reset of SP0 returns its handoffs, and leaves what waits in its queue. -/
theorem test_portReset :
    let t := after (.portReset 0) busy
    (t.record 0).map (fun m => (m.custody, m.token)) = some (.queued, 4)
      ∧ (t.record 1).map (fun m => (m.custody, m.token)) = some (.queued, 4)
      ∧ (t.record 2).map (fun m => m.custody) = some .queued := by decide +kernel

/-! ### Witnesses: the ports -/

/-- Premises of EveryCommandIsTaken, second clause. -/
theorem witness_everyCommandIsTaken : State.reset.pending = [] := rfl

/-- Premises of SelectFallChoosesFrame: a port that takes exchanges, one held by its line, one held by the device reset. -/
theorem witness_selectFall :
    (busy.supplyLow = false ∧ (busy.port 0).exchange = none ∧ (busy.port 0).resetLine = false
      ∧ busy.deviceReset = false)
      ∧ ((busy.modPort 0 (fun x => { x with resetLine := true })).port 0).resetLine = true
      ∧ { busy with deviceReset := true }.deviceReset = true := by decide +kernel

/-- Premises of ExchangeJudgesFrames, each row at its boundary. -/
theorem witness_judge :
    (0x21#8 ≠ 0) ∧ 60 < (61#8).toNat ∧ ((60#8).toNat ≤ 60 ∧ (text 59).length < (60#8).toNat)
      ∧ ((60#8).toNat ≤ 60 ∧ (60#8).toNat ≤ (text 60).length)
      ∧ acceptedLength 0x03 = none ∧ acceptedLength 0x21 = some (2, 60)
      ∧ (1#8).toNat < 2 ∧ acceptedLength 0x10 = some (2, 2) ∧ 2 < (3#8).toNat
      ∧ (2 ≤ (2#8).toNat ∧ (60#8).toNat ≤ 60) := by decide

/-- Premises of ExchangeDeliversThenTakes: no exchange in progress, and one. -/
theorem witness_exchange :
    (busy.supplyLow = false ∧ (busy.port 1).exchange = none)
      ∧ ((busy.modPort 1 (fun x => { x with exchange := some { choice := .filler, frame := [0, 0, 2, 0, 0] } })).port
          1).exchange = some { choice := .filler, frame := [0, 0, 2, 0, 0] } := by decide +kernel

/-- Premises of RequestFramesReachTheirBlock, at the longest payload. -/
theorem witness_requestFrames :
    let c : Instr := .appendText 1 (field 4 0) (text 58)
    let e : Exchange := { choice := .filler, frame := [0, 0, 2, 0, 0] }
    c.wellFormed = true
      ∧ requestFrame c = some { port := 1, code := 0x21, payload := [4, 0] ++ text 58 }
      ∧ (busy.modPort 1 (fun x => { x with exchange := some e })).supplyLow = false
      ∧ ((busy.modPort 1 (fun x => { x with exchange := some e })).port 1).exchangeState = .idle
      ∧ ((busy.modPort 1 (fun x => { x with exchange := some e })).port 1).exchange = some e := by decide +kernel

/-- Premises of RequestFramesTellCommandsApart. -/
theorem witness_framesApart : requestFrame (.next 3) = some { port := 3, code := 0x41, payload := [] } := rfl

/-! ### Witnesses: every request -/

/-- Premises of RefusedRequestsChangeNothing: a PORT-STATUS of port 4, and a DISPOSE of a voided handoff. -/
theorem witness_refused_field :
    let c : Instr := .portStatus 1 4
    Serving (asking c busy) c 1 (request c) ∧ exec c (asking c busy) = .next (after c (asking c busy))
      ∧ ((after c (asking c busy)).port 1).exchangeState
        = .ready { code := 0x4B, tag := 9, result := .badField, payload := [] } :=
  ⟨by decide +kernel, rfl, by decide +kernel⟩

/-- The same with REVOKED, by a request that is no RESUME. -/
theorem witness_refused_revoked :
    let c : Instr := .extend 1 (field 3 1) 3
    Serving (asking c busy) c 1 (request c) ∧ exec c (asking c busy) = .next (after c (asking c busy))
      ∧ ((after c (asking c busy)).port 1).exchangeState
        = .ready { code := 0x42, tag := 9, result := .revoked, payload := [] } :=
  ⟨by decide +kernel, rfl, by decide +kernel⟩

/-- Premises of HandleCheckComesFirst, at slot 192 and at slot 191 with another incarnation; the fields examined first at
their greatest values. -/
theorem witness_handleCheck :
    (let c : Instr := .hold 0 (field 192 0);
      Serving (asking c busy) c 0 (request c) ∧ checkedHandle c = some (field 192 0) ∧ reserved c = true
        ∧ ((asking c busy).port 0).control = true ∧ 191 < (field 192 0).slot.toNat)
    ∧ (let c : Instr := .readText 1 (field 191 1) 63;
      Serving (asking c busy) c 1 (request c) ∧ checkedHandle c = some (field 191 1) ∧ reserved c = false
        ∧ (field 191 1).slot.toNat = (191 : SlotNo).val
        ∧ (field 191 1).inc.toNat % 16 ≠ ((asking c busy).slot 191).inc.toNat ∧ (63#8).toNat ≤ 63) := by decide +kernel

/-- The same for READ-NOTES and WATCH. -/
theorem witness_handleCheck_fields :
    (let c : Instr := .readNotes 1 (field 3 0) 3;
      Serving (asking c busy) c 1 (request c) ∧ (field 3 0).inc.toNat % 16 ≠ ((asking c busy).slot 3).inc.toNat)
    ∧ (let c : Instr := .watch 1 (field 3 0) 1;
      Serving (asking c busy) c 1 (request c) ∧ (field 3 0).inc.toNat % 16 ≠ ((asking c busy).slot 3).inc.toNat) := by
  decide +kernel

/-- The same for AMEND: an adjust alone, and the greatest class. -/
theorem witness_handleCheck_amend :
    (let c : Instr := .amend 0 { handle := field 3 0, presence := 2, klass := 255, adjust := 0 };
      Serving (asking c busy) c 0 (request c) ∧ checkedHandle c = some (field 3 0)
        ∧ ((2#8).getLsbD 0 = true ∨ (2#8).getLsbD 1 = true) ∧ (2#8).getLsbD 0 = false)
    ∧ (let c : Instr := .amend 0 { handle := field 3 0, presence := 1, klass := 3, adjust := 0 };
      Serving (asking c busy) c 0 (request c) ∧ (1#8).getLsbD 0 = true ∧ (3#8).toNat ≤ 3) := by decide +kernel

/-- Premises of ReservedRequestsNeedControl: a HOLD and a LINK-STATE of another port. -/
theorem witness_needControl :
    (let c : Instr := .hold 1 (field 2 0);
      Serving (asking c busy) c 1 (request c) ∧ ((asking c busy).port 1).control = false ∧ reserved c = true)
    ∧ (let c : Instr := .linkState 1 3 1;
      Serving (asking c busy) c 1 (request c) ∧ ((asking c busy).port 1).control = false
        ∧ (3#8).toNat ≤ 3 ∧ (1#8).toNat ≤ 1 ∧ (3#8).toNat ≠ (1 : Port).val) := by decide +kernel

/-- Premises of CommandsLeaveOtherPorts. -/
theorem witness_otherPorts :
    commandPort (.portReset 0) = some 0 ∧ (3 : Port) ≠ 0
      ∧ exec (.portReset 0) busy = .next (after (.portReset 0) busy) := ⟨rfl, by decide, rfl⟩

/-! ### Witnesses: reading -/

/-- Premises of NopAndClockReadAnswer. -/
theorem witness_nop_clockRead :
    Serving (asking (.nop 3) busy) (.nop 3) 3 (request (.nop 3))
      ∧ Serving (asking (.clockRead 3) busy) (.clockRead 3) 3 (request (.clockRead 3)) := by decide +kernel

/-- Premises of StatusReadsReport, with the last entry and the greatest area, and with no area. -/
theorem witness_statusReads :
    Serving (asking (.configRead 1) busy) (.configRead 1) 1 (request (.configRead 1))
      ∧ Serving (asking (.storeStatus 1) busy) (.storeStatus 1) 1 (request (.storeStatus 1))
      ∧ (Serving (asking (.portStatus 1 3) busy) (.portStatus 1 3) 1 (request (.portStatus 1 3))
        ∧ (3#8).toNat = (3 : Port).val)
      ∧ (Serving (asking (.routeRead 1 23 4095) busy) (.routeRead 1 23 4095) 1 (request (.routeRead 1 23 4095))
        ∧ (23#8).toNat ≤ 23 ∧ (4095#16).toNat ≤ 4095)
      ∧ (Serving (asking (.routeRead 1 0 65535) busy) (.routeRead 1 0 65535) 1 (request (.routeRead 1 0 65535))
        ∧ (65535#16).toNat = 65535) := by decide +kernel

/-- The same where they are answered BAD-FIELD: the first port, start index and area out of range, and the last area. -/
theorem witness_statusReads_badField :
    (Serving (asking (.portStatus 1 4) busy) (.portStatus 1 4) 1 (request (.portStatus 1 4)) ∧ 3 < (4#8).toNat)
      ∧ (Serving (asking (.routeRead 1 24 0) busy) (.routeRead 1 24 0) 1 (request (.routeRead 1 24 0))
        ∧ 23 < (24#8).toNat)
      ∧ (Serving (asking (.routeRead 1 0 4096) busy) (.routeRead 1 0 4096) 1 (request (.routeRead 1 0 4096))
        ∧ 4095 < (4096#16).toNat ∧ (4096#16).toNat ≠ 65535)
      ∧ (Serving (asking (.routeRead 1 0 65534) busy) (.routeRead 1 0 65534) 1 (request (.routeRead 1 0 65534))
        ∧ (65534#16).toNat ≠ 65535) := by decide +kernel

/-- A part in which slot 5 has the longest text and four notes. -/
def longText : State := busy.withRecord 5 { message 5 .routine (.held .control) with
  text := text 2560, notes := [text 1, text 40, text 2, text 3] }

/-- Premises of ReadsReportRecord, on a record at its limits. -/
theorem witness_reads :
    (let c : Instr := .readHeader 3 (field 5 0);
      Serving (asking c longText) c 3 (request c) ∧ Names (field 5 0) 5 (asking c longText)
        ∧ ((asking c longText).record 5).isSome = true)
    ∧ (let c : Instr := .readText 3 (field 5 0) 63;
      Serving (asking c longText) c 3 (request c) ∧ (63#8).toNat ≤ 63 ∧ 40 * (63#8).toNat < (text 2560).length)
    ∧ (let c : Instr := .readNotes 3 (field 5 0) 3;
      Serving (asking c longText) c 3 (request c) ∧ (3#8).toNat ≤ 3
        ∧ [text 1, text 40, text 2, text 3][(3#8).toNat]? = some (text 3))
    ∧ (let c : Instr := .readHistory 3 (field 5 0);
      Serving (asking c longText) c 3 (request c)) := by decide +kernel

/-- The same past the end of the text and of the notes, by SP1 on the message it fills. -/
theorem witness_reads_past :
    (let c : Instr := .readText 1 (field 4 0) 1;
      Serving (asking c busy) c 1 (request c) ∧ Names (field 4 0) 4 (asking c busy)
        ∧ (asking c busy).record 4 = some (filling 1) ∧ (filling 1).custody = .filling ∧ (filling 1).entryPort = 1
        ∧ (filling 1).text.length ≤ 40 * (1#8).toNat)
    ∧ (let c : Instr := .readNotes 1 (field 4 0) 0;
      Serving (asking c busy) c 1 (request c) ∧ (filling 1).notes.length ≤ (0#8).toNat) := by decide +kernel

/-- The same for the reads of an EMPTY slot and of a message that SP1 fills, by SP3. -/
theorem witness_reads_refused :
    (let c : Instr := .readHeader 3 (field 191 0);
      Serving (asking c busy) c 3 (request c) ∧ Names (field 191 0) 191 (asking c busy)
        ∧ (asking c busy).record 191 = none)
    ∧ (let c : Instr := .readText 3 (field 4 0) 63;
      Serving (asking c busy) c 3 (request c) ∧ Names (field 4 0) 4 (asking c busy)
        ∧ FillingOn (asking c busy) 4 (filling 1) 1 ∧ (63#8).toNat ≤ 63)
    ∧ (let c : Instr := .readNotes 3 (field 4 0) 3;
      Serving (asking c busy) c 3 (request c) ∧ FillingOn (asking c busy) 4 (filling 1) 1 ∧ (3#8).toNat ≤ 3)
    ∧ (let c : Instr := .readHistory 3 (field 4 0);
      Serving (asking c busy) c 3 (request c) ∧ FillingOn (asking c busy) 4 (filling 1) 1) := by decide +kernel

/-- The same for the least index out of range, with a handle that is current. -/
theorem witness_reads_badField :
    (let c : Instr := .readText 3 (field 5 0) 64;
      Serving (asking c busy) c 3 (request c) ∧ Names (field 5 0) 5 (asking c busy) ∧ 63 < (64#8).toNat)
    ∧ (let c : Instr := .readNotes 3 (field 5 0) 4;
      Serving (asking c busy) c 3 (request c) ∧ 3 < (4#8).toNat) := by decide +kernel

/-- Premises of FieldsStandInPlace: stations of 8 characters, a disposition and a hold. -/
theorem witness_fields :
    { message 1 .routine (.disposed (.relayed (text 8) 9999) 20) with origin := text 8 }.origin.length ≤ 8
      ∧ (text 8).length ≤ 8
      ∧ (message 1 .routine (.held .control)).custody = .held .control := by decide

/-- A part whose slot 5 holds the key W1A, 9999, 366, and slots 3 and 6 are VOID records with it. -/
def keyed (c : Custody) : State :=
  ((busy.withRecord 5 { message 5 .routine c with serial := 9999, day := 366 }).withRecord 3
    { message 4 .routine .void with serial := 9999, day := 366 }).withRecord 6
      { message 6 .routine .void with serial := 9999, day := 366 }

/-- Premises of FindLooksUpKeys, first clause, by the holder of the key. -/
theorem witness_find_holder :
    let c : Instr := .find 1 stationField 9999 366
    let s := asking c (keyed (.held .control))
    Serving s c 1 (request c) ∧ readStation stationField = some station
      ∧ 1 ≤ (9999#16).toNat ∧ (9999#16).toNat ≤ 9999 ∧ 1 ≤ (366#16).toNat ∧ (366#16).toNat ≤ 366
      ∧ (s.record 5).any (fun m => decide (m.origin = station ∧ m.serial = 9999 ∧ m.day = 366) && m.holdsKey) = true
      ∧ s.counted (fun m => decide (m.origin = station ∧ m.serial = 9999 ∧ m.day = 366) && m.holdsKey) = 1 := by
  decide +kernel

/-- The same by the latest VOID record. -/
theorem witness_find_void :
    let c : Instr := .find 1 stationField 9999 366
    let s := asking c (keyed .filling)
    Serving s c 1 (request c)
      ∧ (s.record 6).any (fun m =>
        decide (m.origin = station ∧ m.serial = 9999 ∧ m.day = 366) && decide (m.custody = .void)) = true
      ∧ s.counted (fun m => decide (m.origin = station ∧ m.serial = 9999 ∧ m.day = 366) && m.holdsKey) = 0
      ∧ s.retained = [{ slot := 3, inc := 1 }] ++ s.handleOf 6 :: [] := by decide +kernel

/-- Premises of the second clause. -/
theorem witness_find_none :
    let c : Instr := .find 1 stationField 1 1
    let s := asking c { busy with slots := State.reset.slots }
    Serving s c 1 (request c)
      ∧ s.counted (fun m => decide (m.origin = station ∧ m.serial = 1 ∧ m.day = 1) && m.holdsKey) = 0
      ∧ s.counted (fun m =>
        decide (m.origin = station ∧ m.serial = 1 ∧ m.day = 1) && decide (m.custody = .void)) = 0 := by decide +kernel

/-- The FIND of SP1 for a station, a serial and a day. -/
def finding (station : StationField) (serial day : Half) : Instr := .find 1 station serial day

/-- A station of two characters. -/
def shortStation : StationField := #v[0x57, 0x31, 0, 0, 0, 0, 0, 0]

/-- Premises of FindLooksUpKeys, the clause of BAD-FIELD: a station too short, and each end of the serial and the day. -/
theorem witness_find_badField :
    (∀ c ∈ [finding shortStation 1 1, finding stationField 0 1, finding stationField 10000 1, finding stationField 1 0,
        finding stationField 1 367], Serving (asking c busy) c 1 (request c))
      ∧ readStation shortStation = none ∧ (0#16).toNat = 0 ∧ 9999 < (10000#16).toNat ∧ 366 < (367#16).toNat := by
  decide +kernel

/-! ### Witnesses: entering traffic -/

/-- A header at the ends of its ranges, of a class. -/
def header (klass : Byte) : EnterBeginFields :=
  { klass := klass, station := stationField, serial := 9999, day := 366, hour := 23, minute := 59, area := 4095
    check := 999, deadline := 1440 }

/-- A part in which no slot is EMPTY: slots below n hold VOID records, the others QUEUED traffic. -/
def full (n : Nat) (retained : List Handle) : State :=
  { State.reset with
    slots := vmap (fun k => { inc := 0, record := some (message 1 .routine (if k.val < n then .void else .queued)) })
      ⟨(List.finRange 192).toArray, by simp⟩
    retained := retained }

/-- Premises of EnterBeginOpensEntry with an EMPTY slot, for the greatest class and the least. -/
theorem witness_enterBegin_empty :
    (let c : Instr := .enterBegin 3 (header 3);
      Serving (asking c busy) c 3 (request c) ∧ ((asking c busy).entryOf 3).filling = none
        ∧ HeaderInRange (header 3) station ∧ Class.code .immediate = (header 3).klass.toNat
        ∧ (asking c busy).record 7 = none ∧ (∀ j : SlotNo, j.val < 7 → (asking c busy).record j ≠ none)
        ∧ 2 ≤ (header 3).klass.toNat)
    ∧ (let c : Instr := .enterBegin 3 (header 0);
      Serving (asking c busy) c 3 (request c) ∧ 8 < (asking c busy).emptySlots + (asking c busy).retainedRecords) := by
  decide +kernel

/-- Premises of its second clause: every slot is taken and the retained list begins with slot 0. -/
theorem witness_enterBegin_reclaims :
    let c : Instr := .enterBegin 3 (header 0)
    let s := asking c (full 9 [{ slot := 0, inc := 0 }])
    Serving s c 3 (request c) ∧ (s.entryOf 3).filling = none ∧ (∀ j, s.record j ≠ none)
      ∧ s.retained = s.handleOf 0 :: [] ∧ (s.record 0).isSome = true ∧ 8 < s.retainedRecords := by decide +kernel

/-- Premises of ReservesRefuse for ENTER-BEGIN: an entry open, a field out of range, the reserve reached, and no slot. -/
theorem witness_enterBegin_refused :
    (let c : Instr := .enterBegin 1 (header 3);
      Serving (asking c busy) c 1 (request c) ∧ ((asking c busy).entryOf 1).filling.isSome = true)
    ∧ (let c : Instr := .enterBegin 3 (header 0);
      Serving (asking c (full 8 [])) c 3 (request c) ∧ ((asking c (full 8 [])).entryOf 3).filling = none
        ∧ HeaderInRange (header 0) station ∧ (header 1).klass.toNat ≤ 1
        ∧ (asking c (full 8 [])).emptySlots + (asking c (full 8 [])).retainedRecords ≤ 8)
    ∧ (let c : Instr := .enterBegin 3 (header 2);
      Serving (asking c (full 0 [])) c 3 (request c) ∧ 2 ≤ (header 2).klass.toNat
        ∧ (asking c (full 0 [])).emptySlots = 0 ∧ (asking c (full 0 [])).retained = []) := by decide +kernel

/-- The same for a class above 3. -/
theorem witness_enterBegin_badField :
    (let c : Instr := .enterBegin 3 (header 4);
      Serving (asking c busy) c 3 (request c) ∧ ((asking c busy).entryOf 3).filling = none)
    ∧ ∀ origin, ¬ HeaderInRange (header 4) origin :=
  ⟨by decide +kernel, fun _ h => absurd h.1 (by decide)⟩

/-- A part in which SP1 fills slot 4, of a class and with a text of n characters, and the pool holds the given segments. -/
def fillingPart (klass : Machine.Class) (n segments : Nat) : State :=
  { busy.withRecord 4 { filling 1 with klass := klass, text := text n } with freeSegments := segments }

/-- Premises of ReservesRefuse for APPEND-TEXT and ADD-NOTE; slot 6 holds the one retained segment. -/
theorem witness_segments_refused :
    (let c : Instr := .appendText 1 (field 4 0) (text 1);
      let s := asking c (fillingPart .welfare 40 63);
      Serving s c 1 (request c) ∧ Names (field 4 0) 4 s
        ∧ (s.record 4).any (fun m => decide (m.custody = .filling ∧ m.entryPort = 1)) = true
        ∧ (40 + 39) / 40 < (40 + ((text 1).take (2560 - 40)).length + 39) / 40
        ∧ s.freeSegments + s.retainedSegments < 65)
    ∧ (let c : Instr := .appendText 1 (field 4 0) (text 1);
      let s := asking c ((fillingPart .urgent 40 0).withRecord 6 (message 6 .routine .void |> fun m => { m with text := [] }));
      Serving s c 1 (request c) ∧ s.freeSegments + s.retainedSegments = 0)
    ∧ (let c : Instr := .addNote 0 (field 5 0) (text 40);
      let s := asking c ((fillingPart .urgent 40 0).withRecord 6 (message 6 .routine .void |> fun m => { m with text := [] }));
      Serving s c 0 (request c) ∧ Names (field 5 0) 5 s ∧ (s.port 0).control = true
        ∧ (s.record 5).any (fun m => m.inTraffic && decide (m.notes.length < 4)) = true
        ∧ s.freeSegments + s.retainedSegments = 0) := by decide +kernel

/-- The same for APPEND-TEXT: no character and 41, a slot that is HELD, and an entry of SP1, by SP3. -/
theorem witness_append_refused :
    (let c : Instr := .appendText 1 (field 4 0) (text 0);
      Serving (asking c busy) c 1 (request c) ∧ Names (field 4 0) 4 (asking c busy) ∧ (text 0).length = 0)
    ∧ (let c : Instr := .appendText 1 (field 4 0) (text 41);
      Serving (asking c busy) c 1 (request c) ∧ 40 < (text 41).length)
    ∧ (let c : Instr := .appendText 1 (field 5 0) (text 40);
      Serving (asking c busy) c 1 (request c) ∧ Names (field 5 0) 5 (asking c busy) ∧ (text 40).length ≤ 40
        ∧ ((asking c busy).record 5).all (fun m => decide (m.custody ≠ .filling)) = true)
    ∧ (let c : Instr := .appendText 3 (field 4 0) (text 1);
      Serving (asking c busy) c 3 (request c) ∧ 1 ≤ (text 1).length
        ∧ FillingOn (asking c busy) 4 (filling 1) 1) := by decide +kernel

/-- Premises of AppendStoresText: a text one short of its limit, a need met by the last segment, and the least reserve. -/
theorem witness_append :
    (let c : Instr := .appendText 1 (field 4 0) (text 40);
      let s := asking c (fillingPart .routine 2559 0);
      Serving s c 1 (request c) ∧ Names (field 4 0) 4 s
        ∧ (s.record 4).any (fun m => decide (m.custody = .filling ∧ m.entryPort = 1)) = true
        ∧ 1 ≤ (text 40).length ∧ (text 40).length ≤ 40
        ∧ (2559 + ((text 40).take (2560 - 2559)).length + 39) / 40 - (2559 + 39) / 40 = 0)
    ∧ (let c : Instr := .appendText 1 (field 4 0) (text 1);
      let s := asking c (fillingPart .urgent 40 1);
      Serving s c 1 (request c) ∧ (40 + 1 + 39) / 40 - (40 + 39) / 40 = 1 ∧ 1 ≤ s.freeSegments)
    ∧ (let c : Instr := .appendText 1 (field 4 0) (text 1);
      let s := asking c (fillingPart .routine 40 64);
      Serving s c 1 (request c) ∧ 64 + 1 ≤ s.freeSegments + s.retainedSegments ∧ 1 ≤ s.freeSegments) := by decide +kernel

/-- Premises of EnterEndAccepts: the counter's value is free; it is in use and the next one is free. -/
theorem witness_enterEnd :
    (let c : Instr := .enterEnd 1 (field 4 0);
      let s := asking c busy;
      Serving s c 1 (request c) ∧ Names (field 4 0) 4 s ∧ FillingOn s 4 (filling 1) 1
        ∧ (filling 1).watchers = Vector.replicate 4 false ∧ (filling 1).pendingUpgrade = none ∧ KeyFree s (filling 1)
        ∧ s.numberInUse (numberAfter 0 s.nextEntryNumber) = false)
    ∧ (let s := asking (.enterEnd 1 (field 4 0)) { busy with nextEntryNumber := 6 };
      s.numberInUse (numberAfter 0 s.nextEntryNumber) = true
        ∧ s.numberInUse (numberAfter 1 s.nextEntryNumber) = false) := by decide +kernel

/-- Premises of EnterEndCreditsDuplicate: the copy of the message in slot 0. -/
theorem witness_enterEnd_duplicate :
    let c : Instr := .enterEnd 1 (field 4 0)
    let s := asking c (busy.withRecord 4 { filling 1 with serial := 1 })
    Serving s c 1 (request c) ∧ Names (field 4 0) 4 s ∧ FillingOn s 4 { filling 1 with serial := 1 } 1
      ∧ s.keyHolder station 1 1 = some 0 ∧ s.record 0 = some (message 1 .urgent (.handed 0 1500 true)) := by
  decide +kernel

/-- Premises of FreeingAndReclamation: an ENTER-CANCEL, and a PURGE of a VOID and of a DISPOSED record. -/
theorem witness_freeing :
    (let c : Instr := .enterCancel 1 (field 4 0);
      Serving (asking c busy) c 1 (request c) ∧ Names (field 4 0) 4 (asking c busy)
        ∧ FillingOn (asking c busy) 4 (filling 1) 1)
    ∧ (let c : Instr := .purge 0 (field 3 1);
      Serving (asking c busy) c 0 (request c) ∧ ((asking c busy).port 0).control = true
        ∧ Names (field 3 1) 3 (asking c busy)
        ∧ ((asking c busy).record 3).any (fun m => decide (m.custody.name = .void)) = true)
    ∧ (let c : Instr := .purge 0 (field 6 0);
      Serving (asking c busy) c 0 (request c)
        ∧ ((asking c busy).record 6).any (fun m => decide (m.custody.name = .disposed)) = true) := by decide +kernel

/-- The same where they are refused: an entry of SP1, by SP3; an EMPTY slot; and a record that is HELD. -/
theorem witness_freeing_refused :
    (let c : Instr := .enterEnd 3 (field 4 0);
      Serving (asking c busy) c 3 (request c) ∧ Names (field 4 0) 4 (asking c busy)
        ∧ FillingOn (asking c busy) 4 (filling 1) 1)
    ∧ (let c : Instr := .enterCancel 1 (field 191 0);
      Serving (asking c busy) c 1 (request c) ∧ Names (field 191 0) 191 (asking c busy)
        ∧ (asking c busy).record 191 = none)
    ∧ (let c : Instr := .purge 0 (field 5 0);
      Serving (asking c busy) c 0 (request c) ∧ ((asking c busy).port 0).control = true
        ∧ Names (field 5 0) 5 (asking c busy)
        ∧ ((asking c busy).record 5).all (fun m =>
          decide (m.custody.name ≠ .disposed ∧ m.custody.name ≠ .void)) = true) := by decide +kernel

/-- The same for segments: the last one of the pool; and an empty pool, in which slot 3 holds none and slot 6 one. -/
theorem witness_reclamation :
    (1 ≤ 1 ∧ 1 ≤ { busy with freeSegments := 1 }.freeSegments)
      ∧ (let s : State := { busy with freeSegments := 0 };
        s.freeSegments = 0 ∧ s.retained = [{ slot := 3, inc := 1 }] ++ { slot := 6, inc := 0 } :: []
          ∧ s.retained.Nodup ∧ (∀ x ∈ s.retained, s.handleOf x.slot = x)
          ∧ (s.record 3).any (fun e => decide (e.segments = 0)) = true
          ∧ (s.record 6).any (fun m => decide (1 ≤ m.segments)) = true) := by decide +kernel

/-- Premises of IdleEntriesTimeOut: a tick to take, and none. -/
theorem witness_idle :
    busy.supplyLow = false ∧ busy.entryTick = false ∧ { busy with entryTick := true }.entryTick = true := by
  decide +kernel

/-! ### Witnesses: routing and scoring -/

/-- Premises of AreasResolveInTableOrder, second part. -/
theorem witness_linkDown : { busy with links := #v[false, true, true, true] }.links.get 0 = false := by decide +kernel

/-- Premises of RoutingRequestsChangeRouting: the last entry, the last area and port, no default, a link of one's own. -/
theorem witness_routing :
    (let c : Instr := .routeSet 0 23 4095 4095 3;
      Serving (asking c busy) c 0 (request c) ∧ ((asking c busy).port 0).control = true
        ∧ (23#8).toNat = (23 : Fin 24).val ∧ (3#8).toNat = (3 : Port).val ∧ (4095#16).toNat ≤ (4095#16).toNat
        ∧ (4095#16).toNat ≤ 4095)
    ∧ (let c : Instr := .routeClear 0 23;
      Serving (asking c busy) c 0 (request c) ∧ (23#8).toNat = (23 : Fin 24).val)
    ∧ (let c : Instr := .defaultRoute 0 255;
      Serving (asking c busy) c 0 (request c) ∧ (255#8).toNat = 255)
    ∧ (let c : Instr := .defaultRoute 0 3;
      Serving (asking c busy) c 0 (request c) ∧ (3#8).toNat = (3 : Port).val)
    ∧ (let c : Instr := .linkState 1 1 0;
      Serving (asking c busy) c 1 (request c) ∧ (1#8).toNat = (1 : Port).val ∧ (0#8).toNat = 0)
    ∧ (let c : Instr := .linkState 0 1 1;
      Serving (asking c busy) c 0 (request c) ∧ ((asking c busy).port 0).control = true ∧ (1#8).toNat = 1) := by
  decide +kernel

/-- The same where they are answered BAD-FIELD: each field at its first value out of range, and a last area below the first. -/
theorem witness_routing_badField :
    (∀ c ∈ ([.routeSet 0 24 0 0 0, .routeSet 0 0 4096 4096 0, .routeSet 0 0 0 4096 0, .routeSet 0 0 1 0 0,
        .routeSet 0 0 0 0 4, .routeClear 0 24, .defaultRoute 0 4, .defaultRoute 0 254, .linkState 0 4 0,
        .linkState 0 0 2] : List Instr),
        Serving (asking c busy) c 0 (request c) ∧ ((asking c busy).port 0).control = true)
      ∧ 23 < (24#8).toNat ∧ 4095 < (4096#16).toNat ∧ (0#16).toNat < (1#16).toNat ∧ 3 < (4#8).toNat
      ∧ 3 < (254#8).toNat ∧ (254#8).toNat ≠ 255 ∧ 1 < (2#8).toNat := by decide +kernel

/-- Premises of FenceWaitsForMarks: one mark, and none. -/
theorem witness_fence :
    (Serving (asking (.fence 1) busy) (.fence 1) 1 (request (.fence 1)) ∧ (asking (.fence 1) busy).outstanding ≠ 0)
      ∧ (Serving (asking (.fence 1) State.reset) (.fence 1) 1 (request (.fence 1))
        ∧ (asking (.fence 1) State.reset).outstanding = 0) := by decide +kernel

/-- Premises of EvaluationIsExactAndInBand: the least figures and the greatest, a sum below, in and above the band, and an
IMMEDIATE message beside another. -/
theorem witness_evaluation :
    let least : Message := { message 1 .routine .queued with bounces := 6, adjust := -4096 }
    let great : Message := { message 1 .immediate .queued with adjust := 4095 }
    let widest : Scoring := { Scoring.defaults with weightImmediate := 255, shift := 0, penalty := 4095 }
    least.entry.isSome = true ∧ widest.penalty ≤ 4095 ∧ widest.weightImmediate ≤ 255 ∧ least.bounces ≤ 6
      ∧ -4096 ≤ least.adjust ∧ great.adjust ≤ 4095
      ∧ (evaluate widest 0 0 least).sum < 0
      ∧ 32767 < (evaluate widest 4294967295 0 great).sum
      ∧ (24576 ≤ (evaluate widest 0 0 great).sum ∧ (evaluate widest 0 0 great).sum ≤ 32767)
      ∧ great.klass = .immediate ∧ least.klass ≠ .immediate := by decide

/-- Premises of QueueOrderIsTotal: two evaluations with distinct numbers, and their exchange. -/
theorem witness_queueOrder :
    let a := evaluate Scoring.defaults 0 0 (message 1 .routine .queued)
    let b := evaluate Scoring.defaults 0 1 (message 2 .routine .queued)
    [a, b].Pairwise (fun x y => x.number ≠ y.number) ∧ [b, a].Perm [a, b] :=
  ⟨by decide, List.Perm.swap _ _ _⟩

/-- Premises of ConfigureSetsItems: every item present, beyond its range. -/
theorem witness_configure :
    let c : Instr := .configure 0
      { mask := 127, weightImmediate := 255, weightUrgent := 255, weightWelfare := 255, weightRoutine := 255
        shift := 255, penalty := 65535, lease := 0 }
    Serving (asking c busy) c 0 (request c) ∧ ((asking c busy).port 0).control = true := by decide +kernel

/-! ### Witnesses: queues and handoffs -/

/-- Premises of QueueListReportsAndClears, at the last queue and the last rank. -/
theorem witness_queueList :
    let c : Instr := .queueList 1 3 191
    Serving (asking c busy) c 1 (request c) ∧ (3#8).toNat = (3 : Port).val ∧ (191#8).toNat ≤ 191 := by decide +kernel

/-- The same for the first queue and the first rank out of range. -/
theorem witness_queueList_badField :
    (∀ c ∈ ([.queueList 1 4 0, .queueList 1 0 192] : List Instr), Serving (asking c busy) c 1 (request c))
      ∧ 3 < (4#8).toNat ∧ 191 < (192#8).toNat := by decide +kernel

/-- A part like `busy` in which nothing is in SP0's hands. -/
def unhanded : State := busy.modBreakin 0 (fun _ => BreakIn.cleared)

/-- Premises of NextHandsOutTheFirst, clause by clause. -/
theorem witness_next :
    let c : Instr := .next 0
    (Serving (asking c busy) c 0 (request c) ∧ ((asking c busy).breakin 0).active.isSome = true)
    ∧ (let s := asking c (busy.modBreakin 0 (fun b => { b with active := none }));
      Serving s c 0 (request c) ∧ (s.breakin 0).active = none ∧ (s.breakin 0).stack ≠ [])
    ∧ (let s := asking c { unhanded with defaultRoute := none };
      Serving s c 0 (request c) ∧ (s.breakin 0).active = none ∧ (s.breakin 0).stack = [] ∧ s.queue 0 = [])
    ∧ (let s := asking c unhanded;
      Serving s c 0 (request c) ∧ (s.breakin 0).active = none ∧ (s.breakin 0).stack = [] ∧ (s.breakin 0).pending = none
        ∧ (s.ranked (s.queue 0)).map (fun e => e.slot) = [2] ∧ (s.record 2).isSome = true) := by decide +kernel

/-- Premises of ExtendRenewsTheNamedLease: the named handoff; another incarnation; another port's; a suspended one. -/
theorem witness_extend :
    (let c : Instr := .extend 0 (field 0 0) 3;
      Serving (asking c busy) c 0 (request c) ∧ Names (field 0 0) 0 (asking c busy)
        ∧ (asking c busy).record 0 = some (message 1 .urgent (.handed 0 1500 true)))
    ∧ (let c : Instr := .extend 0 (field 0 1) 3;
      Serving (asking c busy) c 0 (request c) ∧ (field 0 1).inc.toNat % 16 ≠ ((asking c busy).slot 0).inc.toNat)
    ∧ (let c : Instr := .extend 1 (field 0 0) 3;
      Serving (asking c busy) c 1 (request c) ∧ Names (field 0 0) 0 (asking c busy)
        ∧ (Custody.handed 0 1500 true).holder ≠ some 1)
    ∧ (let c : Instr := .extend 0 (field 1 0) 3;
      Serving (asking c busy) c 0 (request c) ∧ Names (field 1 0) 1 (asking c busy)
        ∧ ((asking c busy).record 1).any (fun m =>
          decide (m.custody.name = .suspended ∧ m.custody.holder = some 0 ∧ m.token = 3)) = true) := by decide +kernel

/-- The same for a DISPOSE, and for a VOID record that its last port names and that another names. -/
theorem witness_handoffCheck :
    (let c : Instr := .dispose 0 { handle := field 0 1, token := 3, outcome := 2, station := stationField, serial := 0 };
      Serving (asking c busy) c 0 (request c) ∧ 2 ≤ (2#8).toNat ∧ (4#8).toNat ≤ 4)
    ∧ (let c : Instr := .extend 1 (field 3 1) 3;
      Serving (asking c busy) c 1 (request c) ∧ Names (field 3 1) 3 (asking c busy)
        ∧ ((asking c busy).record 3).any (fun m => decide (m.custody = .void ∧ m.history = voidedHistory 1
          ∧ m.token = 3)) = true
        ∧ voidedHistory 1 = [{ time := 0, port := some 0, event := .entered }]
          ++ [{ time := 1, port := some 1, event := .handed }, { time := 2, port := some 2, event := .voided }])
    ∧ (let c : Instr := .extend 0 (field 3 1) 3;
      Serving (asking c busy) c 0 (request c) ∧ Names (field 3 1) 3 (asking c busy)) := by decide +kernel

/-- The DISPOSE of slot 0 by SP0 with a given outcome and serial. -/
def disposing (outcome : Byte) (serial : Half) : Instr :=
  .dispose 0 { handle := field 0 0, token := 3, outcome := outcome, station := stationField, serial := serial }

/-- Premises of ExtendRenewsTheNamedLease, the clauses of BAD-FIELD: slot 192, the outcomes 0 and 5, and a RELAYED with a
station too short or a serial at either end. -/
theorem witness_handoff_badField :
    (∀ c ∈ ([.extend 0 (field 192 0) 3,
        .dispose 0 { handle := field 192 0, token := 3, outcome := 2, station := stationField, serial := 0 },
        disposing 0 1, disposing 5 1, disposing 1 0, disposing 1 10000,
        .dispose 0 { handle := field 0 0, token := 3, outcome := 1, station := shortStation, serial := 1 }] : List Instr),
        Serving (asking c busy) c 0 (request c))
      ∧ 191 < (192#8).toNat ∧ (0#8).toNat = 0 ∧ 4 < (5#8).toNat ∧ (1#8).toNat = 1 ∧ (0#16).toNat = 0
      ∧ 9999 < (10000#16).toNat ∧ readStation shortStation = none := by decide +kernel

/-- Its handoff check on an EMPTY slot, and for a RELAYED with good fields. -/
theorem witness_handoffCheck_empty :
    (let c : Instr := .extend 0 (field 191 0) 3;
      Serving (asking c busy) c 0 (request c) ∧ Names (field 191 0) 191 (asking c busy)
        ∧ (asking c busy).record 191 = none)
    ∧ (let f : DisposeFields := { handle := field 5 0, token := 3, outcome := 1, station := stationField, serial := 9999 };
      Serving (asking (.dispose 0 f) busy) (.dispose 0 f) 0 (request (.dispose 0 f)) ∧ f.outcome.toNat = 1
        ∧ (readStation f.station).isSome = true ∧ 1 ≤ f.serial.toNat ∧ f.serial.toNat ≤ 9999
        ∧ Names (field 5 0) 5 (asking (.dispose 0 f) busy)
        ∧ ((asking (.dispose 0 f) busy).record 5).any (fun m =>
          decide (m.custody.name ≠ .void ∧ m.custody.holder ≠ some 0)) = true) := by decide +kernel

/-- Premises of DisposeEndsCustody: DELIVERED, and RELAYED with the least and the greatest serial. -/
theorem witness_dispose_ends :
    (Serving (asking (disposing 2 0) busy) (disposing 2 0) 0 (request (disposing 2 0))
      ∧ Names (field 0 0) 0 (asking (disposing 2 0) busy)
      ∧ (asking (disposing 2 0) busy).record 0 = some (message 1 .urgent (.handed 0 1500 true)))
    ∧ (Serving (asking (disposing 1 1) busy) (disposing 1 1) 0 (request (disposing 1 1)) ∧ 1 ≤ (1#16).toNat)
    ∧ (Serving (asking (disposing 1 9999) busy) (disposing 1 9999) 0 (request (disposing 1 9999))
      ∧ (9999#16).toNat ≤ 9999
      ∧ (readStation stationField).map (fun st => Disposal.relayed st (9999#16).toNat) = some (.relayed station 9999)) := by
  decide +kernel

/-- Premises of DisposeReturnsOrHolds: BOUNCED and REFUSED. -/
theorem witness_dispose_returns :
    (Serving (asking (disposing 3 0) busy) (disposing 3 0) 0 (request (disposing 3 0))
      ∧ Names (field 0 0) 0 (asking (disposing 3 0) busy)
      ∧ (asking (disposing 3 0) busy).record 0 = some (message 1 .urgent (.handed 0 1500 true)))
    ∧ Serving (asking (disposing 4 0) busy) (disposing 4 0) 0 (request (disposing 4 0)) := by decide +kernel

/-- Premises of LeasesLapseAtTheTick and DeadlinesPassAtTheTick; in the second part a lease lapses that SP0 holds. -/
theorem witness_expiries :
    busy.supplyLow = false ∧ busy.leaseTick = false ∧ busy.deadlineTick = false
      ∧ (let s : State := { busy with leaseTick := true, seconds := 1500 };
        s.leaseTick = true ∧ 0 < s.counted (fun m =>
          decide (lapsedIfDue s.seconds (s.resolve m.area).isSome m ≠ m) && decide (m.custody.holder = some 0)))
      ∧ ({ busy with deadlineTick := true }.deadlineTick = true ∧ { busy with deadlineTick := true }.leaseTick = false) := by
  decide +kernel

/-- Premises of HistoryTrimsItsSecondEntry: seven entries, and eight with the dropped count full. -/
theorem witness_history :
    (List.replicate 7 (⟨0, none, .entered⟩ : HistoryEntry)).length < 8
      ∧ (voidedHistory 1 ++ voidedHistory 1 ++ (voidedHistory 1).take 2).length = 8 ∧ 255 ≤ 255 := by decide

/-! ### Witnesses: break-in -/

/-- Premises of BreakInCheckNamesTheFirst: its three idle cases, no higher class, and one. -/
theorem witness_breakInCheck :
    ((unhanded.breakin 0).active = none ∧ (State.reset.breakin 1).enable = false ∧ (busy.breakin 0).pending ≠ none)
    ∧ (let s := busy.modBreakin 0 (fun b => { b with pending := none });
      (s.breakin 0).active = some { handle := { slot := 0, inc := 0 }, token := 3 }
        ∧ s.record 0 = some (message 1 .urgent (.handed 0 1500 true)) ∧ (s.breakin 0).enable = true
        ∧ (s.breakin 0).pending = none
        ∧ (s.ranked (allSlots.filter (fun k => decide (s.queueOf k = some 0)
          && (match s.record k with | some n => decide (Class.code .urgent < n.klass.code) | none => false)))).map
            (fun e => e.slot) = [2])
    ∧ (let s := { busy.modBreakin 0 (fun b => { b with pending := none }) with defaultRoute := none };
      allSlots.filter (fun k => decide (s.queueOf k = some 0)
        && (match s.record k with | some n => decide (Class.code .urgent < n.klass.code) | none => false)) = []) := by
  decide +kernel

/-- Premises of EnableSwitches: a value that is neither, on, and off. -/
theorem witness_enable :
    (Serving (asking (.breakinEnable 0 2) busy) (.breakinEnable 0 2) 0 (request (.breakinEnable 0 2)) ∧ 1 < (2#8).toNat)
    ∧ (Serving (asking (.breakinEnable 0 1) busy) (.breakinEnable 0 1) 0 (request (.breakinEnable 0 1))
      ∧ (1#8).toNat = 1)
    ∧ (Serving (asking (.breakinEnable 0 0) busy) (.breakinEnable 0 0) 0 (request (.breakinEnable 0 0))
      ∧ (0#8).toNat = 0) := by decide +kernel

/-- Premises of NextBreakinSuspendsAndHandsOut: nothing pending, another handoff named, and the active one. -/
theorem witness_nextBreakin :
    (let c : Instr := .nextBreakin 1 (field 0 0) 3;
      Serving (asking c busy) c 1 (request c) ∧ ((asking c busy).breakin 1).pending = none)
    ∧ (let c : Instr := .nextBreakin 0 (field 0 0) 4;
      Serving (asking c busy) c 0 (request c) ∧ ((asking c busy).breakin 0).pending ≠ none
        ∧ ((asking c busy).breakin 0).active = some { handle := { slot := 0, inc := 0 }, token := 3 })
    ∧ (let c : Instr := .nextBreakin 0 (field 0 0) 3;
      let s := asking c busy;
      Serving s c 0 (request c) ∧ Names (field 0 0) 0 s ∧ (s.breakin 0).pending = some { slot := 2, inc := 0 }
        ∧ (s.breakin 0).enable = true ∧ (s.breakin 0).active = some { handle := s.handleOf 0, token := 3 }
        ∧ s.record 0 = some (message 1 .urgent (.handed 0 1500 true))
        ∧ (s.ranked (s.eligible 0 .urgent)).map (fun e => e.slot) = [2] ∧ (s.record 2).isSome = true) := by
  decide +kernel

/-- Premises of the clauses of BAD-FIELD of NextBreakinSuspendsAndHandsOut and ResumePopsTheTopRecord: slot 192. -/
theorem witness_breakin_badField :
    (∀ c ∈ ([.nextBreakin 0 (field 192 0) 3, .resume 0 (field 192 0) 3] : List Instr),
        Serving (asking c busy) c 0 (request c)) ∧ 191 < (field 192 0).slot.toNat := by decide +kernel

/-- A part in which SP0 passes nothing and has slot 1 suspended, with its record revoked or not. -/
def suspended (revoked : Bool) : State :=
  busy.modBreakin 0 (fun _ =>
    { enable := false, pending := none, active := none
      stack := [{ handle := { slot := 1, inc := 0 }, token := 3, leaseRemaining := 50, savedEnable := true
                  klass := .routine, revoked := revoked }] })

/-- Premises of ResumePopsTheTopRecord, clause by clause. -/
theorem witness_resume :
    let c : Instr := .resume 0 (field 1 0) 3
    (Serving (asking c busy) c 0 (request c) ∧ ((asking c busy).breakin 0).active.isSome = true)
    ∧ (let s := asking c unhanded;
      Serving s c 0 (request c) ∧ (s.breakin 0).active = none ∧ (s.breakin 0).stack = [])
    ∧ (let d : Instr := .resume 0 (field 1 0) 4;
      Serving (asking d (suspended false)) d 0 (request d) ∧ ((asking d (suspended false)).breakin 0).active = none)
    ∧ (let s := asking c (suspended true);
      Serving s c 0 (request c) ∧ (s.breakin 0).active = none
        ∧ (s.breakin 0).stack.map (fun r => (r.handle.slot, r.token, r.revoked)) = [(1, 3, true)])
    ∧ (let s := asking c (suspended false);
      Serving s c 0 (request c) ∧ (s.breakin 0).active = none
        ∧ (s.breakin 0).stack.map (fun r => (r.handle.slot, r.handle.inc.toNat, r.token, r.revoked)) = [(1, 0, 3, false)]
        ∧ s.record 1 = some (message 2 .routine (.suspended 0 50 false))) := by decide +kernel

/-! ### Witnesses: net control -/

/-- Premises of HoldTakesOutOfTheQueue: a message in hand, one neither in hand nor queued, and a queued one. -/
theorem witness_hold :
    (let c : Instr := .hold 0 (field 0 0);
      Serving (asking c busy) c 0 (request c) ∧ ((asking c busy).port 0).control = true
        ∧ Names (field 0 0) 0 (asking c busy)
        ∧ ((asking c busy).record 0).all (fun m => decide (m.custody.name = .handed)) = true)
    ∧ (let c : Instr := .hold 0 (field 191 0);
      Serving (asking c busy) c 0 (request c) ∧ Names (field 191 0) 191 (asking c busy)
        ∧ (asking c busy).record 191 = none)
    ∧ (let c : Instr := .hold 0 (field 2 0);
      Serving (asking c busy) c 0 (request c) ∧ Names (field 2 0) 2 (asking c busy)
        ∧ ((asking c busy).record 2).isSome = true ∧ (asking c busy).queueOf 2 = some 0) := by decide +kernel

/-- A part in which slot 5 is held for its passed deadline or not, and its area resolves or not. -/
def heldPart (deadline : Option Nat) (route : Option Port) : State :=
  { busy.withRecord 5 { message 5 .routine (.held .control) with deadline := deadline } with defaultRoute := route }

/-- Premises of ReleaseReturnsHeldTraffic: in hand; neither in hand nor held; held with the deadline at now, and one second
later with and without a route. -/
theorem witness_release :
    let c : Instr := .release 0 (field 5 0)
    (let d : Instr := .release 0 (field 1 0);
      Serving (asking d busy) d 0 (request d) ∧ Names (field 1 0) 1 (asking d busy)
        ∧ ((asking d busy).record 1).all (fun m => decide (m.custody.name = .suspended)) = true)
    ∧ (let d : Instr := .release 0 (field 2 0);
      Serving (asking d busy) d 0 (request d) ∧ Names (field 2 0) 2 (asking d busy)
        ∧ ((asking d busy).record 2).all (fun m => decide (m.custody.name = .queued)) = true)
    ∧ (let s := asking c (heldPart (some 1000) (some 0));
      Serving s c 0 (request c) ∧ Names (field 5 0) 5 s
        ∧ (s.record 5).any (fun m => decide (m.custody = .held .control) && Message.deadlinePassed s.seconds m) = true)
    ∧ (let s := asking c (heldPart (some 1001) none);
      Serving s c 0 (request c) ∧ (s.record 5).any (fun m => !Message.deadlinePassed s.seconds m) = true
        ∧ s.resolve 5 = none)
    ∧ (let s := asking c (heldPart (some 1001) (some 0));
      Serving s c 0 (request c) ∧ s.resolve 5 = some 0) := by decide +kernel

/-- Premises of VoidWithdrawsTraffic: no traffic, QUEUED, HELD, HANDED and SUSPENDED. -/
theorem witness_void :
    (let c : Instr := .void 2 (field 4 0);
      Serving (asking c busy) c 2 (request c) ∧ ((asking c busy).port 2).control = true
        ∧ Names (field 4 0) 4 (asking c busy)
        ∧ ((asking c busy).record 4).all (fun m => decide (m.custody.name = .filling)) = true)
    ∧ (let c : Instr := .void 2 (field 2 0);
      Serving (asking c busy) c 2 (request c) ∧ (asking c busy).queueOf 2 = some 0)
    ∧ (let c : Instr := .void 2 (field 5 0);
      Serving (asking c busy) c 2 (request c)
        ∧ ((asking c busy).record 5).any (fun m => decide (m.custody = .held .control)) = true)
    ∧ (let c : Instr := .void 2 (field 0 0);
      Serving (asking c busy) c 2 (request c)
        ∧ ((asking c busy).record 0).any (fun m => decide (m.custody = .handed 0 1500 true)) = true)
    ∧ (let c : Instr := .void 2 (field 1 0);
      Serving (asking c busy) c 2 (request c)
        ∧ ((asking c busy).record 1).any (fun m => decide (m.custody = .suspended 0 50 false)) = true) := by decide +kernel

/-- The same for the BREAK-IN of the renewed check, in a full queue. -/
theorem witness_void_renewed :
    let c : Instr := .void 2 (field 2 0)
    let s := asking c (crowded .queued)
    Serving s c 2 (request c) ∧ (s.port 2).control = true ∧ Names (field 2 0) 2 s ∧ (s.record 2).isSome = true
      ∧ s.queueOf 2 = some 0 ∧ (s.breakin 0).pending = some (s.handleOf 2) ∧ (s.noticeQueue 0).inForm
      ∧ (s.noticeQueue 0).items.any (fun n => decide (n.kind = .breakIn ∧ n.handle = some (s.handleOf 2))) = true
      ∧ ((after c s).breakin 0).pending = some { slot := 5, inc := 0 } := by decide +kernel

/-- An AMEND by SP0 with given presence bits and class. -/
def amending (k : Nat) (presence klass : Byte) : Instr :=
  .amend 0 { handle := field k 0, presence := presence, klass := klass, adjust := 0x8000 }

/-- Premises of AmendSetsClassAndAdjust: the adjust alone, the class in hand, and the class of a queued message. -/
theorem witness_amend :
    (Serving (asking (amending 0 2 0) busy) (amending 0 2 0) 0 (request (amending 0 2 0))
      ∧ Names (field 0 0) 0 (asking (amending 0 2 0) busy) ∧ (2#8).getLsbD 0 = false ∧ (2#8).getLsbD 1 = true
      ∧ ((asking (amending 0 2 0) busy).record 0).any Message.inTraffic = true)
    ∧ (Serving (asking (amending 0 1 3) busy) (amending 0 1 3) 0 (request (amending 0 1 3))
      ∧ (1#8).getLsbD 0 = true ∧ Class.code .immediate = (3#8).toNat
      ∧ ((asking (amending 0 1 3) busy).record 0).any (fun m => decide (m.custody.name = .handed)) = true)
    ∧ (Serving (asking (amending 2 3 0) busy) (amending 2 3 0) 0 (request (amending 2 3 0))
      ∧ (3#8).getLsbD 0 = true ∧ Class.code .routine = (0#8).toNat
      ∧ ((asking (amending 2 3 0) busy).record 2).any (fun m => decide (m.custody.name = .queued)) = true) := by
  decide +kernel

/-- The same where AMEND is refused: neither item, a class above 3, and a message that is FILLING. -/
theorem witness_amend_refused :
    (Serving (asking (amending 0 252 0) busy) (amending 0 252 0) 0 (request (amending 0 252 0))
      ∧ ((asking (amending 0 252 0) busy).port 0).control = true
      ∧ (252#8).getLsbD 0 = false ∧ (252#8).getLsbD 1 = false)
    ∧ (Serving (asking (amending 0 1 4) busy) (amending 0 1 4) 0 (request (amending 0 1 4))
      ∧ (1#8).getLsbD 0 = true ∧ 3 < (4#8).toNat)
    ∧ (Serving (asking (amending 4 1 3) busy) (amending 4 1 3) 0 (request (amending 4 1 3))
      ∧ Names (field 4 0) 4 (asking (amending 4 1 3) busy) ∧ ¬ 3 < (3#8).toNat
      ∧ ((asking (amending 4 1 3) busy).record 4).all (fun m => !m.inTraffic) = true) := by decide +kernel

/-- The same where ADD-NOTE is refused: no character, 41, and a record that is VOID. -/
theorem witness_addNote_refused :
    (let c : Instr := .addNote 0 (field 5 0) (text 0);
      Serving (asking c busy) c 0 (request c) ∧ ((asking c busy).port 0).control = true
        ∧ Names (field 5 0) 5 (asking c busy) ∧ (text 0).length = 0)
    ∧ (let c : Instr := .addNote 0 (field 5 0) (text 41); Serving (asking c busy) c 0 (request c) ∧ 40 < (text 41).length)
    ∧ (let c : Instr := .addNote 0 (field 3 1) (text 1);
      Serving (asking c busy) c 0 (request c) ∧ Names (field 3 1) 3 (asking c busy)
        ∧ ((asking c busy).record 3).all (fun m => !m.inTraffic) = true) := by decide +kernel

/-- Premises of AddNoteAddsAtTheEnd: four notes, and three with the last segment of the pool. -/
theorem witness_addNote :
    let c : Instr := .addNote 0 (field 5 0) (text 40)
    let part := fun n : Nat =>
      { busy.withRecord 5 { message 5 .routine (.held .control) with notes := List.replicate n (text 1) } with
        freeSegments := 1 }
    (Serving (asking c (part 4)) c 0 (request c) ∧ ((asking c (part 4)).port 0).control = true
      ∧ Names (field 5 0) 5 (asking c (part 4)) ∧ 1 ≤ (text 40).length ∧ (text 40).length ≤ 40
      ∧ ((asking c (part 4)).record 5).any (fun m => m.inTraffic && decide (4 ≤ m.notes.length)) = true)
    ∧ (Serving (asking c (part 3)) c 0 (request c) ∧ 1 ≤ (asking c (part 3)).freeSegments
      ∧ ((asking c (part 3)).record 5).any (fun m => m.inTraffic && decide (m.notes.length < 4)) = true) := by
  decide +kernel

/-! ### Witnesses: watches, notices, time and resets -/

/-- Premises of WatchSetsMembership: a value that is neither, a FILLING slot, and a message with each value. -/
theorem witness_watch :
    (Serving (asking (.watch 1 (field 2 0) 2) busy) (.watch 1 (field 2 0) 2) 1 (request (.watch 1 (field 2 0) 2))
      ∧ Names (field 2 0) 2 (asking (.watch 1 (field 2 0) 2) busy) ∧ 1 < (2#8).toNat)
    ∧ (Serving (asking (.watch 1 (field 4 0) 1) busy) (.watch 1 (field 4 0) 1) 1 (request (.watch 1 (field 4 0) 1))
      ∧ ((asking (.watch 1 (field 4 0) 1) busy).record 4).all (fun m => decide (m.custody = .filling)) = true)
    ∧ (Serving (asking (.watch 1 (field 2 0) 1) busy) (.watch 1 (field 2 0) 1) 1 (request (.watch 1 (field 2 0) 1))
      ∧ (1#8).toNat = 1 ∧ ((asking (.watch 1 (field 2 0) 1) busy).record 2).any (fun m =>
        decide (m.custody ≠ .filling)) = true)
    ∧ (Serving (asking (.watch 1 (field 2 0) 0) busy) (.watch 1 (field 2 0) 0) 1 (request (.watch 1 (field 2 0) 0))
      ∧ (0#8).toNat = 0) := by decide +kernel

/-- Premises of NoticesAreFetchedOldestFirst. -/
theorem witness_notices : Serving (asking (.notices 0) busy) (.notices 0) 0 (request (.notices 0)) := by decide +kernel

/-- A notice of a slot. -/
def notice (k : SlotNo) : Notice :=
  { kind := .stateChange, handle := some { slot := k, inc := 0 }, detail := .nothing, time := 0 }

/-- Premises of NoticeJoinsItsQueue: a match, no match in a full queue, and no match with one place left. -/
theorem witness_notice_joins :
    let sixteen := ([0, 1, 2, 3, 4, 5, 6, 7, 8, 9, 10, 11, 12, 13, 14, 15] : List SlotNo).map notice
    (sixteen = sixteen.take 5 ++ notice 5 :: sixteen.drop 6
      ∧ ∀ y ∈ sixteen.take 5, ¬ ((notice 5).kind = y.kind ∧ (notice 5).handle = y.handle))
    ∧ ((∀ y ∈ sixteen, ¬ ((notice 16).kind = y.kind ∧ (notice 16).handle = y.handle)) ∧ 16 ≤ sixteen.length)
    ∧ (sixteen.take 15).length < 16 ∧ NoticeQueue.inForm { items := sixteen, overrun := true } := by decide +kernel

/-- Premises of TimeLinesAndSupply, its first part: a part with a tick to take, at a request, a TICK and the resets. -/
theorem witness_actsNow :
    let s : State := { busy with entryTick := true, leaseTick := true, deadlineTick := true }
    ActsNow (asking (.next 3) s) (.next 3) ∧ ActsNow { s with seconds := 4294967294 } .tick ∧ ActsNow s (.portReset 0)
      ∧ ActsNow s (.warmReset Straps.deasserted) :=
  ⟨⟨by decide +kernel, .inl (by decide +kernel)⟩, ⟨by decide +kernel, .inr (.inl (by decide +kernel))⟩,
    ⟨by decide +kernel, .inr (.inr (.inl ⟨0, by decide +kernel⟩))⟩,
    ⟨by decide +kernel, .inr (.inr (.inr ⟨Straps.deasserted, by decide +kernel⟩))⟩⟩

/-- Premises of its clause on NEXT-BREAKIN, with the ticks of the other units waiting too: the lease that SP0's request meets ends
at now, and is answered OK; a request that names another token is not. -/
theorem witness_lapseWaits :
    let s : State := { busy with entryTick := true, leaseTick := true, deadlineTick := true, seconds := 1500 }
    let v : State := { busy with seconds := 1500 }
    (let c : Instr := .nextBreakin 0 (field 0 0) 3;
      (asking c s).supplyLow = false ∧ ((asking c s).inProgress c).isSome = true ∧ LapseWaits (asking c s) 0 0
        ∧ (asking c s).record 0 = some (message 1 .urgent (.handed 0 1500 true))
        ∧ (heldResponse (after c (asking c v)) 0).map Prod.fst = some .ok)
    ∧ (let c : Instr := .nextBreakin 0 (field 0 0) 4;
      LapseWaits (asking c s) 0 0
        ∧ (heldResponse (after c (asking c v)) 0).map Prod.fst = some .staleHandoff) := by decide +kernel

/-- The rest of them: the last tick, the saturated count, and a supply too low. -/
theorem witness_time :
    (busy.supplyLow = false ∧ { busy with seconds := 4294967294 }.seconds < 4294967295 ∧ busy.ticksTaken)
      ∧ { busy with seconds := 4294967295 }.seconds = 4294967295
      ∧ { busy with supplyLow := true }.supplyLow = true := by decide +kernel

/-- `busy` is a sound store. -/
theorem busy_storeSound : busy.storeSound where
  limits := everyRecord_of_all (by decide +kernel)
  entered := everyRecord_of_all (by decide +kernel)
  retained := by decide +kernel
  segments := by decide +kernel
  entries :=
    ⟨fun p => forall_of_all (by revert p; decide +kernel), by decide +kernel, everyRecord_of_all (by decide +kernel)⟩
  custody :=
    ⟨fun p => forall_of_all (by revert p; decide +kernel), by decide +kernel, by decide +kernel,
      everyRecord_of_all (by decide +kernel)⟩

/-- The laws of the Break-in Unit hold of `busy`. -/
theorem busy_breakInSound : busy.breakInSound where
  pending := fun p => forall_of_all (by revert p; decide +kernel)
  notices := by decide +kernel
  order := by decide +kernel

/-- The laws on notices, queues, settings, marks, numbers and keys hold of `busy`. -/
theorem busy_otherLaws :
    busy.noticesInForm ∧ busy.queuesRoutable ∧ busy.settingsInRange ∧ busy.fencesWait ∧ busy.numbersDistinct
      ∧ busy.keysDistinct :=
  ⟨by decide +kernel, everyRecord_of_all (by decide +kernel), by decide +kernel, by decide +kernel,
    ⟨by decide +kernel, by decide +kernel, everyPair_of_all (by decide +kernel)⟩, everyPair_of_all (by decide +kernel)⟩

/-- Premises of EveryStepKeepsQueuesInForm, EveryStepKeepsTheStoreSound, EveryStepKeepsBreakInSound and
EveryStepKeepsMarksNumbersAndKeys: the step that takes the port reset of SP1 on `busy`. -/
theorem witness_step : step busy = .next (after (.portReset 1) { busy with pending := [] }) := rfl

/-- Premises of PortResetClearsThePort, beside `busy_storeSound`: the line asserted, and released. -/
theorem witness_portReset :
    busy.supplyLow = false ∧ (busy.port 0).resetLine = false ∧ busy.ticksTaken
      ∧ ((busy.modPort 0 (fun x => { x with resetLine := true })).port 0).resetLine = true := by decide +kernel

/-- Premises of WarmResetKeepsTheStore, beside `busy_storeSound`: the input asserted, and released. -/
theorem witness_warmReset :
    busy.supplyLow = false ∧ busy.deviceReset = false ∧ busy.ticksTaken
      ∧ { busy with deviceReset := true }.deviceReset = true := by decide +kernel

/-- Premises of TimeAndIncarnationsMoveForward: a TICK, and the port reset that frees slot 4. -/
theorem witness_movesForward :
    exec .tick busy = .next (after .tick busy) ∧ (after .tick busy).seconds ≠ busy.seconds
      ∧ exec (.portReset 1) busy = .next (after (.portReset 1) busy) ∧ (busy.record 4).isSome = true
      ∧ (after (.portReset 1) busy).record 4 = none :=
  ⟨rfl, by decide +kernel, rfl, by decide +kernel, by decide +kernel⟩

end Sys2Proof.Tests
end

section
/-! The trimming of a message's history (R15), and the obligation about it. -/

namespace Sys2Proof.Machine

/-- A history with room takes the entry at its end and drops nothing. -/
theorem Message.log_of_room {m : Message} (room : m.history.length < Config.historyLimit)
    (now : Nat) (port : Option Port) (e : HistoryEvent) :
    Message.log now port e m = { m with history := m.history ++ [{ time := now, port := port, event := e }] } :=
  if_neg (Nat.not_le.mpr room)

/-- A full history loses its second entry before it takes the new one, and the dropped count, capped, advances. -/
theorem Message.log_of_full {m : Message} (full : Config.historyLimit ≤ m.history.length)
    (now : Nat) (port : Option Port) (e : HistoryEvent) :
    Message.log now port e m =
      { m with
        history := m.history.eraseIdx 1 ++ [{ time := now, port := port, event := e }]
        dropped := min (m.dropped + 1) 255 } :=
  if_pos full

/-- Advancing a dropped count in range under the cap is the saturation of R15. -/
theorem min_succ_eq_saturated {n : Nat} (inRange : n ≤ 255) : min (n + 1) 255 = if n = 255 then 255 else n + 1 := by
  split <;> omega

/-- Settles O38: whether the history has room decides which of the two equations of `Message.log` applies; in a full one,
erasing at index 1 takes the second entry and leaves the first. -/
theorem historyTrimsItsSecondEntry : Obligations.HistoryTrimsItsSecondEntry := by
  intro now port event m
  refine ⟨fun room => Message.log_of_room room now port event, ?full⟩
  case full =>
    intro first second rest entries eight inRange
    have secondErased : m.history.eraseIdx 1 = first :: rest := by rw [entries]; rfl
    rw [Message.log_of_full (Nat.le_of_eq eight.symm), secondErased, min_succ_eq_saturated inRange]
    rfl

end Sys2Proof.Machine
end

section
/-! The resolution of an area (R66), the queue of a port whose link is DOWN, and the obligation about them. -/

namespace Sys2Proof.Machine

/-- Entry i of the route table decides an area and no earlier entry does (R66). -/
def State.FirstDecider (s : State) (area : Nat) (i : Fin 24) : Prop :=
  s.decides area (s.routes.get i) = true ∧ ∀ j, j.val < i.val → ¬ s.decides area (s.routes.get j) = true

/-- The conditions under which a route entry decides, one by one. -/
theorem State.decides_iff (s : State) (area : Nat) (e : RouteEntry) :
    s.decides area e = true ↔
      e.valid = true ∧ e.first ≤ area ∧ area ≤ e.last ∧ s.links.get e.port = true := by
  simp only [State.decides, State.linkUp, Bool.and_eq_true, decide_eq_true_eq, and_assoc]

/-- No two entries are both the first to decide. -/
theorem State.FirstDecider.unique {s : State} {area : Nat} {i j : Fin 24} (hi : s.FirstDecider area i)
    (hj : s.FirstDecider area j) : i = j := by
  obtain ⟨iDecides, noneBeforeI⟩ := hi
  obtain ⟨jDecides, noneBeforeJ⟩ := hj
  rcases Nat.lt_trichotomy i.val j.val with before | same | after
  · exact absurd iDecides (noneBeforeJ i before)
  · exact Fin.ext same
  · exact absurd jDecides (noneBeforeI j after)

/-- The search through the table finds the entry that is the first to decide, with its index. -/
theorem State.firstDecider_of_find {s : State} {area n : Nat} {e : RouteEntry}
    (found : s.routes.toList.zipIdx.find? (fun x => s.decides area x.1) = some (e, n)) :
    ∃ i, s.FirstDecider area i ∧ s.routes.get i = e := by
  obtain ⟨decides, k, bound, entry, noneBefore⟩ := List.find?_eq_some_iff_getElem.mp found
  have inTable : k < 24 := by simpa using bound
  have entryAt : s.routes.get ⟨k, inTable⟩ = e := by
    simpa [Vector.get_eq_getElem] using congrArg Prod.fst entry
  refine ⟨⟨k, inTable⟩, ⟨entryAt ▸ decides, fun j before => ?_⟩, entryAt⟩
  simpa [Vector.get_eq_getElem] using noneBefore j.val before

/-- The search through the table finds nothing only when no entry decides. -/
theorem State.no_decider_of_find {s : State} {area : Nat}
    (notFound : s.routes.toList.zipIdx.find? (fun x => s.decides area x.1) = none) (i : Fin 24) :
    ¬ s.decides area (s.routes.get i) = true := by
  have member : (s.routes.get i, i.val) ∈ s.routes.toList.zipIdx := by
    simp [List.mem_zipIdx_iff_getElem?, Vector.get_eq_getElem]
  exact List.find?_eq_none.mp notFound _ member

/-- All that resolution can do: the first entry that decides gives its port, and where none decides the default route
gives its own if its link is UP (R66). -/
theorem State.resolve_cases (s : State) (area : Nat) :
    (∃ i, s.FirstDecider area i ∧ s.resolve area = some (s.routes.get i).port)
      ∨ ((∀ i, ¬ s.decides area (s.routes.get i) = true) ∧ s.resolve area = s.defaultRoute.filter s.linkUp) := by
  cases search : s.routes.toList.zipIdx.find? (fun x => s.decides area x.1) with
  | some found =>
    obtain ⟨i, first, entry⟩ := State.firstDecider_of_find search
    exact .inl ⟨i, first, by simp [State.resolve, State.resolveBy, search, entry]⟩
  | none =>
    refine .inr ⟨State.no_decider_of_find search, ?_⟩
    cases route : s.defaultRoute with
    | none => simp [State.resolve, State.resolveBy, search, route]
    | some q => cases link : s.linkUp q <;> simp [State.resolve, State.resolveBy, search, route, link, Option.filter]

/-- The areas that resolve to a port: through the first entry that decides, or through the default route (R66). -/
theorem State.resolve_eq_some_iff (s : State) (area : Nat) (p : Port) :
    s.resolve area = some p ↔
      (∃ i, s.decides area (s.routes.get i) = true ∧ (s.routes.get i).port = p
          ∧ ∀ j, j.val < i.val → ¬ s.decides area (s.routes.get j) = true)
        ∨ ((∀ i, ¬ s.decides area (s.routes.get i) = true) ∧ s.defaultRoute = some p ∧ s.linkUp p = true) := by
  rcases s.resolve_cases area with ⟨i, first, resolved⟩ | ⟨noDecider, resolved⟩
  · rw [resolved, Option.some.injEq]
    constructor
    · exact fun port => .inl ⟨i, first.1, port, first.2⟩
    · rintro (⟨j, decides, port, noneBefore⟩ | ⟨noDecider, -⟩)
      · rwa [first.unique ⟨decides, noneBefore⟩]
      · exact absurd first.1 (noDecider i)
  · rw [resolved, Option.filter_eq_some_iff]
    constructor
    · exact fun byDefault => .inr ⟨noDecider, byDefault⟩
    · rintro (⟨j, decides, -⟩ | ⟨-, byDefault⟩)
      · exact absurd decides (noDecider j)
      · exact byDefault

/-- An area resolves only to a port whose link is UP (R66). -/
theorem State.linkUp_of_resolve {s : State} {area : Nat} {p : Port} (resolved : s.resolve area = some p) :
    s.linkUp p = true := by
  rcases (s.resolve_eq_some_iff area p).mp resolved with ⟨i, decides, rfl, -⟩ | ⟨-, -, up⟩
  · obtain ⟨-, -, -, up⟩ := (s.decides_iff area _).mp decides
    exact up
  · exact up

/-- A message is queued only at a port whose link is UP (R66, R97). -/
theorem State.linkUp_of_queueOf {s : State} {k : SlotNo} {p : Port} (queued : s.queueOf k = some p) :
    s.linkUp p = true := by
  unfold State.queueOf at queued
  split at queued
  · split at queued
    · exact State.linkUp_of_resolve queued
    · contradiction
  · contradiction

/-- The queue of a port whose link is DOWN is empty (R66). -/
theorem State.queue_eq_nil_of_linkDown {s : State} {p : Port} (down : s.linkUp p = false) : s.queue p = [] := by
  refine List.filter_eq_nil_iff.mpr fun k _ inQueue => ?_
  have up := State.linkUp_of_queueOf (of_decide_eq_true inQueue)
  exact absurd up (Bool.eq_false_iff.mp down)

/-- Settles O25: what resolution can do gives the table order and the default route, and since both name only ports whose
link is UP, no area and no message is at a port whose link is DOWN. -/
theorem areasResolveInTableOrder : Obligations.AreasResolveInTableOrder := by
  intro s area p
  refine ⟨?order, fun down => ⟨fun resolved => ?notResolved, State.queue_eq_nil_of_linkDown down⟩⟩
  case order =>
    simpa only [State.decides_iff, State.linkUp] using s.resolve_eq_some_iff area p
  case notResolved =>
    exact absurd (State.linkUp_of_resolve resolved) (Bool.eq_false_iff.mp down)

end Sys2Proof.Machine
end

section
/-! The computation of a score (R84 to R87), and the obligation about it. -/

namespace Sys2Proof.Machine

/-- The age of R84, its cap written out. -/
theorem age_eq (now entered : Nat) :
    age now entered = if 65535 < (now - entered) / 60 then 65535 else (now - entered) / 60 := by
  unfold age
  split <;> omega

theorem age_le (now entered : Nat) : age now entered ≤ 65535 := Nat.min_le_right _ _

/-- The product of an age in range and a weight in range has the range of R85. -/
theorem mul_le_of_age_weight {a w : Nat} (ageInRange : a ≤ 65535) (weightInRange : w ≤ 255) : a * w ≤ 16711425 :=
  Nat.mul_le_mul ageInRange weightInRange

/-- Scaling keeps a product's bound: the greatest aged term of each shift mode is twice the greatest product, scaled
by that mode (R85). -/
theorem agedTerm_le {shift weight a bound : Nat} (product : a * weight ≤ bound) :
    agedTerm shift weight a ≤ bound * 2 / 2 ^ shift := by
  unfold agedTerm
  cases shift with
  | zero => simpa using product
  | succ n =>
    have scaled : bound * 2 / 2 ^ (n + 1) = bound / 2 ^ n := by
      rw [Nat.pow_succ, Nat.mul_div_mul_right _ _ Nat.two_pos]
    rw [if_neg n.succ_ne_zero, scaled]
    exact Nat.div_le_div_right product

/-- The bases of the classes are 8192 apart, in the order of their codes (R86). -/
theorem Class.base_eq (k : Class) : k.base = 8192 * k.code := by
  cases k <;> rfl

theorem Class.base_nonneg (k : Class) : 0 ≤ k.base := by
  cases k <;> decide

theorem Class.base_le (k : Class) : k.base ≤ 24576 := by
  cases k <;> decide

/-- An accepted message's sum, on the entry time it holds (R86). -/
theorem fullSum_of_entry (c : Scoring) (now : Nat) {m : Message} {e : Entry} (accepted : m.entry = some e) :
    fullSum c now m =
      m.klass.base + (agedTerm c.shift (c.weight m.klass) (age now e.time) : Nat) - m.bounces * c.penalty + m.adjust := by
  simp only [fullSum, Message.enteredAt, accepted, Nat.cast_mul]

/-- The range of R86, from the ranges of the four terms of the sum. -/
theorem fullSum_range {c : Scoring} {m : Message} (now : Nat) (weight : c.weight m.klass ≤ 255)
    (penalty : c.penalty ≤ 4095) (bounces : m.bounces ≤ 6) (least : -4096 ≤ m.adjust) (greatest : m.adjust ≤ 4095) :
    -28666 ≤ fullSum c now m ∧ fullSum c now m ≤ 33451521 := by
  have aged : agedTerm c.shift (c.weight m.klass) (age now m.enteredAt) ≤ 33422850 :=
    (agedTerm_le (mul_le_of_age_weight (age_le now _) weight)).trans (Nat.div_le_self _ _)
  have penalties : m.bounces * c.penalty ≤ 24570 := Nat.mul_le_mul bounces penalty
  have baseLow := m.klass.base_nonneg
  have baseHigh := m.klass.base_le
  unfold fullSum
  omega

/-- The lower bounds of the two bands: IMMEDIATE has its own band, the other classes share one (R87). -/
theorem Class.bandLow_eq (k : Class) : k.bandLow = if k = .immediate then 24576 else 0 := by
  cases k <;> rfl

theorem Class.bandHigh_eq (k : Class) : k.bandHigh = if k = .immediate then 32767 else 24575 := by
  cases k <;> rfl

theorem Class.bandLow_le_bandHigh (k : Class) : k.bandLow ≤ k.bandHigh := by
  cases k <;> decide

/-- A sum below its class's band is raised to the lower bound (R87). -/
theorem clamped_of_below {k : Class} {sum : Int} (below : sum < k.bandLow) :
    clampedScore k sum = k.bandLow ∧ clampOf k sum = .raised :=
  ⟨if_pos below, if_pos below⟩

/-- A sum above its class's band is lowered to the upper bound (R87). -/
theorem clamped_of_above {k : Class} {sum : Int} (above : k.bandHigh < sum) :
    clampedScore k sum = k.bandHigh ∧ clampOf k sum = .lowered := by
  have notBelow : ¬ sum < k.bandLow := Int.not_lt.mpr (k.bandLow_le_bandHigh.trans above.le)
  simp only [clampedScore, clampOf, if_neg notBelow, if_pos above, and_self]

/-- A sum in its class's band, its bounds among them, is the score (R87). -/
theorem clamped_of_inBand {k : Class} {sum : Int} (atLeast : k.bandLow ≤ sum) (atMost : sum ≤ k.bandHigh) :
    clampedScore k sum = sum ∧ clampOf k sum = .kept := by
  simp only [clampedScore, clampOf, if_neg (Int.not_lt.mpr atLeast), if_neg (Int.not_lt.mpr atMost), and_self]

/-- Every clamped score lies in the band of its class (R87). -/
theorem clampedScore_mem_band (k : Class) (sum : Int) :
    k.bandLow ≤ clampedScore k sum ∧ clampedScore k sum ≤ k.bandHigh := by
  rcases lt_or_ge sum k.bandLow with below | atLeast
  · rw [(clamped_of_below below).1]
    exact ⟨le_rfl, k.bandLow_le_bandHigh⟩
  rcases lt_or_ge k.bandHigh sum with above | atMost
  · rw [(clamped_of_above above).1]
    exact ⟨k.bandLow_le_bandHigh, le_rfl⟩
  · rw [(clamped_of_inBand atLeast atMost).1]
    exact ⟨atLeast, atMost⟩

/-- The order of a queue as a relation (R90). -/
abbrev Evaluation.Leads (a b : Evaluation) : Prop := Evaluation.leads a b = true

/-- The order of two evaluations, key by key (R90). -/
theorem Evaluation.leads_iff (a b : Evaluation) :
    a.Leads b ↔
      b.score < a.score ∨ a.score = b.score ∧ (b.sum < a.sum ∨ a.sum = b.sum ∧ a.number ≤ b.number) := by
  simp only [Evaluation.Leads, Evaluation.leads, Bool.or_eq_true, Bool.and_eq_true, decide_eq_true_eq]

/-- A greater clamped score decides the order alone (R90). -/
theorem Evaluation.leads_of_score_lt {a b : Evaluation} (greater : b.score < a.score) :
    Evaluation.leads a b = true ∧ Evaluation.leads b a = false := by
  refine ⟨(a.leads_iff b).mpr (.inl greater), Bool.eq_false_iff.mpr fun back => ?_⟩
  rcases (b.leads_iff a).mp back with less | ⟨level, -⟩
  · exact Int.lt_asymm greater less
  · exact Int.ne_of_lt greater level

/-- The band of IMMEDIATE lies above the band of the other classes (R87). -/
theorem evaluate_score_lt_of_immediate (c : Scoring) (now : Nat) (k j : SlotNo) {m n : Message}
    (immediate : m.klass = .immediate) (other : n.klass ≠ .immediate) :
    (evaluate c now j n).score < (evaluate c now k m).score := by
  have ofOther := (clampedScore_mem_band n.klass (fullSum c now n)).2
  have ofImmediate := (clampedScore_mem_band m.klass (fullSum c now m)).1
  rw [n.klass.bandHigh_eq, if_neg other] at ofOther
  rw [m.klass.bandLow_eq, if_pos immediate] at ofImmediate
  calc (evaluate c now j n).score
    _ ≤ 24575 := ofOther
    _ < 24576 := by decide
    _ ≤ (evaluate c now k m).score := ofImmediate

/-- Settles O28: the figures are the model's own terms in the statement's spelling, each with its range; the band follows
from the three ways a sum meets it, and the two bands do not overlap. -/
theorem evaluationIsExactAndInBand : Obligations.EvaluationIsExactAndInBand := by
  refine ⟨fun c now k m e accepted => ?figures, fun c now k m => ?band⟩
  case figures =>
    intro minutes weight aged base
    have weightEq : c.weight m.klass = weight := rfl
    have minutesEq : age now e.time = minutes := age_eq now e.time
    have product (inRange : weight ≤ 255) : minutes * weight ≤ 16711425 :=
      mul_le_of_age_weight (minutesEq ▸ age_le now e.time) inRange
    refine ⟨?sum, fun inRange => ⟨product inRange, agedTerm_le (product inRange)⟩, fun inRange => ?range⟩
    case sum =>
      calc fullSum c now m
        _ = m.klass.base + (agedTerm c.shift (c.weight m.klass) (age now e.time) : Nat) - m.bounces * c.penalty
              + m.adjust := fullSum_of_entry c now accepted
        _ = base + aged - m.bounces * c.penalty + m.adjust := by rw [m.klass.base_eq, minutesEq, weightEq]; rfl
    case range => exact fullSum_range now (weightEq ▸ inRange)
  case band =>
    intro e low high
    have lowEq : m.klass.bandLow = low := m.klass.bandLow_eq
    have highEq : m.klass.bandHigh = high := m.klass.bandHigh_eq
    rw [← lowEq, ← highEq]
    obtain ⟨atLeast, atMost⟩ := clampedScore_mem_band m.klass e.sum
    refine ⟨atLeast, atMost, clamped_of_below, clamped_of_above, clamped_of_inBand, fun j n immediate other => ?leads⟩
    have greater := evaluate_score_lt_of_immediate c now k j immediate other
    exact ⟨greater, Evaluation.leads_of_score_lt greater⟩

end Sys2Proof.Machine
end

section
/-! The order of a queue (R90), and the obligation about it. -/

namespace Sys2Proof.Machine

/-- Of any two evaluations one leads: three linear orders, taken in turn, leave no two apart. -/
theorem Evaluation.leads_total (a b : Evaluation) : a.Leads b ∨ b.Leads a := by
  rw [a.leads_iff b, b.leads_iff a]
  omega

theorem Evaluation.leads_trans (a b c : Evaluation) : a.Leads b → b.Leads c → a.Leads c := by
  rw [a.leads_iff b, b.leads_iff c, a.leads_iff c]
  omega

/-- Two evaluations that lead each other are level on all three keys, the entry number among them (R90). -/
theorem Evaluation.number_eq_of_leads {a b : Evaluation} (ab : a.Leads b) (ba : b.Leads a) : a.number = b.number := by
  rw [Evaluation.leads_iff] at ab ba
  omega

/-- Placing one evaluation is the library's ordered insertion. -/
theorem insertEvaluation_eq (e : Evaluation) (es : List Evaluation) :
    insertEvaluation e es = es.orderedInsert Evaluation.Leads e := by
  induction es with
  | nil => rfl
  | cons x xs ih => rw [insertEvaluation, List.orderedInsert_cons, ih]

/-- The queue order is the insertion sort by the three keys. -/
theorem inQueueOrder_eq (es : List Evaluation) : inQueueOrder es = es.insertionSort Evaluation.Leads := by
  induction es with
  | nil => rfl
  | cons e es ih =>
    calc inQueueOrder (e :: es)
      _ = insertEvaluation e (inQueueOrder es) := rfl
      _ = (e :: es).insertionSort Evaluation.Leads := by rw [ih, insertEvaluation_eq, List.insertionSort_cons]

/-- The queue order neither loses nor repeats an evaluation. -/
theorem inQueueOrder_perm (es : List Evaluation) : (inQueueOrder es).Perm es := by
  rw [inQueueOrder_eq]
  exact List.perm_insertionSort _ es

/-- Each evaluation in queue order leads all those behind it. -/
theorem inQueueOrder_pairwise (es : List Evaluation) : (inQueueOrder es).Pairwise Evaluation.Leads := by
  have total : Std.Total Evaluation.Leads := ⟨Evaluation.leads_total⟩
  have trans : IsTrans Evaluation Evaluation.Leads := ⟨Evaluation.leads_trans⟩
  rw [inQueueOrder_eq]
  exact List.pairwise_insertionSort _ es

/-- With distinct entry numbers, evaluations that lead each other are the same one. -/
theorem Evaluation.eq_of_leads {es : List Evaluation} (distinct : es.Pairwise (fun a b => a.number ≠ b.number))
    {a b : Evaluation} (ha : a ∈ es) (hb : b ∈ es) (ab : a.Leads b) (ba : b.Leads a) : a = b := by
  have symmetric : Std.Symm (fun a b : Evaluation => a.number ≠ b.number) := ⟨fun _ _ apart => apart.symm⟩
  by_contra different
  exact distinct.forall ha hb different (Evaluation.number_eq_of_leads ab ba)

/-- Settles O29: the queue order is a sort by a total and transitive relation, and where the entry numbers are distinct
that relation is antisymmetric on the list, so the sorted arrangement is unique. -/
theorem queueOrderIsTotal : Obligations.QueueOrderIsTotal := by
  intro es
  refine ⟨inQueueOrder_perm es, (inQueueOrder_pairwise es).imp fun leads => (Evaluation.leads_iff _ _).mp leads,
    fun distinct fs perm => ?unique⟩
  have permFs : (inQueueOrder fs).Perm es := (inQueueOrder_perm fs).trans perm
  have permEs := inQueueOrder_perm es
  refine (permFs.trans permEs.symm).eq_of_pairwise (fun a b ha hb => ?_)
    (inQueueOrder_pairwise fs) (inQueueOrder_pairwise es)
  exact Evaluation.eq_of_leads distinct (permFs.mem_iff.mp ha) (permEs.mem_iff.mp hb)

end Sys2Proof.Machine
end

section
/-! The turning on and off of a port's enable (R124), and the obligation about it. -/

namespace Sys2Proof.Machine

/-- A byte above 1 is neither on nor off (R192). -/
theorem readFlag_eq_none {b : Byte} (neither : 1 < b.toNat) : readFlag b = none := by
  have notOff : b.toNat ≠ 0 := Nat.ne_zero_of_lt neither
  have notOn : b.toNat ≠ 1 := Nat.ne_of_gt neither
  rw [readFlag, if_neg notOff, if_neg notOn]

/-- A byte with the code of on or off reads as that (R192). -/
theorem readFlag_eq_some {b : Byte} {on : Bool} (code : b.toNat = boolBit on) : readFlag b = some on := by
  cases on <;> simp [readFlag, code, boolBit]

/-- The raising of a break-in writes only what is pending, at every port (R126). -/
theorem raiseBreakIn_breakin (p q : Port) (k : SlotNo) (s : State) :
    (raiseBreakIn p k s).breakin q =
      { s.breakin q with pending := ((raiseBreakIn p k s).breakin q).pending } := by
  unfold raiseBreakIn
  cases s.record k with
  | none => rfl
  | some m =>
    simp only [post, State.modNoticeQueue_breakin, State.breakin_modBreakin]
    split <;> rfl

/-- The break-in check writes only what is pending, at every port (R126). -/
theorem breakInCheck_breakin (p q : Port) (s : State) :
    (breakInCheck p s).breakin q = { s.breakin q with pending := ((breakInCheck p s).breakin q).pending } := by
  unfold breakInCheck
  split
  · rfl
  · split
    · split
      · rfl
      next e es _ =>
        have flagsOnly : (setStickyFlags p (e :: es) s).breakin q = s.breakin q := State.modFlags_breakin _ _ _ _
        rw [raiseBreakIn_breakin, flagsOnly]
    · rfl

/-- The break-in check leaves every enable (R126). -/
theorem breakInCheck_enable (p q : Port) (s : State) :
    ((breakInCheck p s).breakin q).enable = (s.breakin q).enable := by
  rw [breakInCheck_breakin]

/-- The clearing of a pending break-in writes only what is pending, at every port (R128). -/
theorem State.withoutPending_breakin (p q : Port) (s : State) :
    (s.withoutPending p).breakin q =
      { s.breakin q with pending := ((s.withoutPending p).breakin q).pending } := by
  unfold State.withoutPending
  cases (s.breakin p).pending with
  | none => rfl
  | some h =>
    have noticesOnly (t : State) : (t.withoutBreakIn p h).breakin q = t.breakin q := rfl
    rw [noticesOnly, State.breakin_modBreakin]
    split <;> rfl

/-- The clearing of a pending break-in leaves every enable (R128). -/
theorem State.withoutPending_enable (p q : Port) (s : State) :
    ((s.withoutPending p).breakin q).enable = (s.breakin q).enable := by
  rw [State.withoutPending_breakin]

@[simp] theorem setEnable_enable (p : Port) (on : Bool) (s : State) : ((setEnable p on s).breakin p).enable = on := by
  rw [setEnable, State.breakin_modBreakin_same]

/-- The switch in the statement's terms: the three cases of R124. -/
theorem switchEnable_eq (p : Port) (on : Bool) (s : State) :
    switchEnable p on s =
      if (s.breakin p).enable = on then s
      else if on then breakInCheck p (setEnable p true s)
      else (setEnable p false s).withoutPending p := by
  rw [← clearPendingBreakIn_eq]
  rfl

/-- The enable takes the value given (R124). -/
theorem switchEnable_enable (p : Port) (on : Bool) (s : State) : ((switchEnable p on s).breakin p).enable = on := by
  rw [switchEnable_eq]
  by_cases same : (s.breakin p).enable = on
  · rw [if_pos same, same]
  · rw [if_neg same]
    cases on with
    | true => exact (breakInCheck_enable p p _).trans (setEnable_enable p true s)
    | false => exact (State.withoutPending_enable p p _).trans (setEnable_enable p false s)

/-- A value that is neither on nor off is refused (R124). -/
theorem breakinEnable_of_neither {value : Byte} (neither : 1 < value.toNat) (p : Port) (s : State) :
    breakinEnable p value s = refuse .badField s := by
  rw [breakinEnable, readFlag_eq_none neither]

/-- On or off is answered OK with the value given and what is then pending (R124). -/
theorem breakinEnable_of_flag {value : Byte} {on : Bool} (code : value.toNat = boolBit on) (p : Port) (s : State) :
    breakinEnable p value s =
      answer .ok (boolByte on ++ handleBytes ((switchEnable p on s).breakin p).pending) (switchEnable p on s) := by
  rw [breakinEnable, readFlag_eq_some code]
  simp only [switchEnable_enable]

/-- A BREAKIN-ENABLE that is served is answered by the Break-in Unit. -/
theorem exec_breakinEnable_of_serving {p : Port} {value : Byte} {s : State} {rq : Request}
    (serving : Serving s (.breakinEnable p value) p rq) :
    exec (.breakinEnable p value) s =
      .next (responded p rq (breakinEnable p value s).1.result (breakinEnable p value s).1.payload
        (breakinEnable p value s).2) :=
  serve_of_serving serving

/-- Settles O40: the value read decides between the refusal and the switch; the switch has the statement's three cases, and
since neither the check nor the clearing writes an enable, the response reports the value given. -/
theorem enableSwitches : Obligations.EnableSwitches := by
  intro p value s rq serving
  rw [exec_breakinEnable_of_serving serving]
  refine ⟨fun neither => ?refused, fun on code => ?switched⟩
  case refused =>
    rw [breakinEnable_of_neither neither]
    rfl
  case switched =>
    intro u
    have after : switchEnable p on s = u := switchEnable_eq p on s
    rw [breakinEnable_of_flag code, after]
    rfl

end Sys2Proof.Machine
end

section
/-! How a notice joins its queue (R163) and how NOTICES fetches it (R166), and the obligations about them. -/

namespace Sys2Proof.Machine

/-- Two notices match (R163), in the statement's spelling. -/
abbrev Notice.Matches (a b : Notice) : Prop := a.kind = b.kind ∧ a.handle = b.handle

theorem Notice.same_iff (a b : Notice) : Notice.same a b = true ↔ a.Matches b := decide_eq_true_iff

theorem Notice.Matches.symm {a b : Notice} (ab : a.Matches b) : b.Matches a := ⟨ab.1.symm, ab.2.symm⟩

theorem Notice.Matches.trans {a b c : Notice} (ab : a.Matches b) (bc : b.Matches c) : a.Matches c :=
  ⟨ab.1.trans bc.1, ab.2.trans bc.2⟩

/-- A list of notices either has a first one that matches, or none that does. -/
theorem Notice.first_match_or_none (n : Notice) (ys : List Notice) :
    (∃ before x after, ys = before ++ x :: after ∧ n.Matches x ∧ ∀ y ∈ before, ¬ n.Matches y)
      ∨ ∀ y ∈ ys, ¬ n.Matches y := by
  by_cases found : ∃ y ∈ ys, n.Matches y
  · obtain ⟨y, member, same⟩ := found
    obtain ⟨x, before, after, noneBefore, first, items, -⟩ :=
      List.exists_of_eraseP member ((n.same_iff y).mpr same)
    exact .inl ⟨before, x, after, items, (n.same_iff x).mp first,
      fun y member same => noneBefore y member ((n.same_iff y).mpr same)⟩
  · exact .inr fun y member same => found ⟨y, member, same⟩

/-- The first match leaves its place, and the new notice stands at the tail, in a full queue too (R163). -/
theorem NoticeQueue.join_of_first_match {n x : Notice} {q : NoticeQueue} {before after : List Notice}
    (items : q.items = before ++ x :: after) (same : n.Matches x) (noneBefore : ∀ y ∈ before, ¬ n.Matches y) :
    NoticeQueue.join n q = { items := before ++ after ++ [n], overrun := q.overrun } := by
  have first : Notice.same n x = true := (n.same_iff x).mpr same
  have found : q.items.any (Notice.same n) = true :=
    List.any_eq_true.mpr ⟨x, items ▸ List.mem_append_cons_self, first⟩
  have erased : q.items.eraseP (Notice.same n) = before ++ after := by
    rw [items, List.eraseP_append_right _ fun y member => mt (n.same_iff y).mp (noneBefore y member),
      List.eraseP_cons_of_pos first]
  rw [NoticeQueue.join, if_pos found, erased]

/-- Without a match, a queue's length decides whether the notice is discarded or joins (R163). -/
theorem NoticeQueue.join_of_no_match {n : Notice} {q : NoticeQueue} (noMatch : ∀ y ∈ q.items, ¬ n.Matches y) :
    NoticeQueue.join n q =
      if 16 ≤ q.items.length then { items := q.items, overrun := true }
      else { items := q.items ++ [n], overrun := q.overrun } := by
  have notFound : ¬ q.items.any (Notice.same n) = true := fun found =>
    have ⟨y, member, same⟩ := List.any_eq_true.mp found
    noMatch y member ((n.same_iff y).mp same)
  rw [NoticeQueue.join, if_neg notFound]

/-- A full queue without a match discards the notice and sets NOTICE-OVERRUN (R163). -/
theorem NoticeQueue.join_of_full {n : Notice} {q : NoticeQueue} (noMatch : ∀ y ∈ q.items, ¬ n.Matches y)
    (full : 16 ≤ q.items.length) : NoticeQueue.join n q = { items := q.items, overrun := true } := by
  rw [NoticeQueue.join_of_no_match noMatch, if_pos full]

/-- A queue with room and without a match takes the notice at its tail (R163). -/
theorem NoticeQueue.join_of_room {n : Notice} {q : NoticeQueue} (noMatch : ∀ y ∈ q.items, ¬ n.Matches y)
    (room : q.items.length < 16) :
    NoticeQueue.join n q = { items := q.items ++ [n], overrun := q.overrun } := by
  rw [NoticeQueue.join_of_no_match noMatch, if_neg (Nat.not_le.mpr room)]

/-- A notice at the tail of a queue in form that has room and no match leaves it in form, whatever the flag. -/
theorem NoticeQueue.inForm_concat {n : Notice} {items : List Notice} {overrun : Bool} (room : items.length < 16)
    (apart : items.Pairwise (fun a b => ¬ a.Matches b)) (noMatch : ∀ y ∈ items, ¬ n.Matches y) :
    NoticeQueue.inForm { items := items ++ [n], overrun := overrun } := by
  refine ⟨?length, List.pairwise_append.mpr ⟨apart, List.pairwise_singleton _ n, fun y member z last same => ?tail⟩⟩
  case length => simpa using room
  case tail =>
    obtain rfl := List.mem_singleton.mp last
    exact noMatch y member (Notice.Matches.symm same)

/-- In a queue in form no notice but the first match matches: two that did would match each other. -/
theorem NoticeQueue.no_match_after {n x : Notice} {before after : List Notice} (same : n.Matches x)
    (apart : (before ++ x :: after).Pairwise (fun a b => ¬ a.Matches b)) : ∀ y ∈ after, ¬ n.Matches y := by
  obtain ⟨-, fromFirst, -⟩ := List.pairwise_append.mp apart
  exact fun y member other => (List.pairwise_cons.mp fromFirst).1 y member (same.symm.trans other)

/-- A queue in form stays in form when a notice joins (R163). -/
theorem NoticeQueue.join_inForm (n : Notice) {q : NoticeQueue} (form : q.inForm) : (NoticeQueue.join n q).inForm := by
  obtain ⟨length, apart⟩ := form
  rcases n.first_match_or_none q.items with ⟨before, x, after, items, same, noneBefore⟩ | noMatch
  · rw [NoticeQueue.join_of_first_match items same noneBefore]
    rw [items] at length apart
    have others : (before ++ after).Sublist (before ++ x :: after) :=
      (List.sublist_cons_self x after).append_left before
    refine NoticeQueue.inForm_concat ?room (apart.sublist others) fun y member => ?noMatch
    case room => simp only [List.length_append, List.length_cons] at length ⊢; omega
    case noMatch =>
      exact (List.mem_append.mp member).elim (noneBefore y) (NoticeQueue.no_match_after same apart y)
  · rcases Nat.lt_or_ge q.items.length 16 with room | full
    · rw [NoticeQueue.join_of_room noMatch room]
      exact NoticeQueue.inForm_concat room apart noMatch
    · rw [NoticeQueue.join_of_full noMatch full]
      exact ⟨length, apart⟩

/-- Settles O50: the first match, or the length of a queue without one, decides which of the three equations of the join
applies; a queue in form has one match at most, so each of them keeps its form. -/
theorem noticeJoinsItsQueue : Obligations.NoticeJoinsItsQueue := by
  intro n q
  refine ⟨fun before x after items kind handle noneBefore => ?replaced, fun noMatch => ⟨?discarded, ?appended⟩, ?form⟩
  case replaced => exact NoticeQueue.join_of_first_match items ⟨kind, handle⟩ noneBefore
  case discarded => exact NoticeQueue.join_of_full noMatch
  case appended => exact NoticeQueue.join_of_room noMatch
  case form => exact NoticeQueue.join_inForm n

/-- The response of NOTICES in the statement's terms: the count left is the length less the 4 returned (R166, 11.6). -/
theorem fetchBytes_eq (q : NoticeQueue) :
    fetchBytes q =
      be1 (q.items.take 4).length ++ be1 (q.items.length - 4) ++ boolByte q.overrun
        ++ ((q.items.take 4).map (fun n =>
          be1 n.kind.code ++ handleBytes n.handle ++ be1 n.detail.code ++ be4 n.time)).flatten := by
  rw [fetchBytes, List.length_drop]
  rfl

/-- A NOTICES that is served is answered by the Notice Unit. -/
theorem exec_notices_of_serving {p : Port} {s : State} {rq : Request} (serving : Serving s (.notices p) p rq) :
    exec (.notices p) s =
      .next (responded p rq .ok (fetchBytes (s.noticeQueue p)) (s.modNoticeQueue p NoticeQueue.fetched)) :=
  serve_of_serving serving

/-- Settles O49: the Notice Unit answers with the oldest notices of the queue as it stood, and leaves the rest of it
with its flag clear. -/
theorem noticesAreFetchedOldestFirst : Obligations.NoticesAreFetchedOldestFirst := by
  intro p s rq serving q
  rw [exec_notices_of_serving serving, fetchBytes_eq]
  rfl

end Sys2Proof.Machine
end

section
/-! The frame that a port chooses at the fall of select (R171, R172), the flags it shows (R173, R180), and the obligation
about them. -/

namespace Sys2Proof.Machine

/-- A part that has its supply acts (R187). -/
theorem whenPowered_of_supply {s : State} (supply : s.supplyLow = false) (f : State → State) :
    whenPowered f s = .next (f s) := by
  rw [whenPowered, supply]
  rfl

/-- A change of a port depends only on what it makes of that port as it stands. -/
theorem State.modPort_congr {s : State} {p : Port} {f g : StationPort → StationPort}
    (agree : f (s.port p) = g (s.port p)) : s.modPort p f = s.modPort p g :=
  congrArg (fun x => { s with ports := s.ports.set p.val x p.isLt }) agree

/-- A SELECT_FALL in a part that has its supply. -/
theorem exec_selectFall {s : State} (supply : s.supplyLow = false) (p : Port) :
    exec (.selectFall p) s = .next (beginExchange p s) := whenPowered_of_supply supply _

/-- The two resets that keep a port from taking exchanges (R171). -/
theorem State.takesExchanges_iff (s : State) (p : Port) :
    s.takesExchanges p = true ↔ (s.port p).resetLine = false ∧ s.deviceReset = false := by
  simp only [State.takesExchanges, Bool.and_eq_true, Bool.not_eq_true']

/-- A fall of select at a port that is out of reset and in no exchange begins one (R172). -/
theorem beginExchange_of_takes {p : Port} {s : State} (free : (s.port p).exchange = none)
    (line : (s.port p).resetLine = false) (device : s.deviceReset = false) :
    beginExchange p s = s.modPort p (fun x => { x with exchange := some (chooseFrame s p) }) :=
  if_pos ⟨(s.takesExchanges_iff p).mpr ⟨line, device⟩, free⟩

/-- A port in reset ignores the fall of select (R171). -/
theorem beginExchange_of_reset {p : Port} {s : State}
    (reset : (s.port p).resetLine = true ∨ s.deviceReset = true) : beginExchange p s = s := by
  refine if_neg fun begins => ?_
  obtain ⟨line, device⟩ := (s.takesExchanges_iff p).mp begins.1
  exact reset.elim (Bool.eq_false_iff.mp line) (Bool.eq_false_iff.mp device)

/-- A READY port shifts out its held response (R172). -/
theorem chooseFrame_of_ready {s : State} {p : Port} {r : Response} (ready : (s.port p).exchangeState = .ready r) :
    chooseFrame s p = { choice := .held, frame := responseFrame r (statusBits s p false) } := by
  rw [chooseFrame, ready]

/-- An IDLE port repeats the response it delivered last, marked as a repeat (R172). -/
theorem chooseFrame_of_delivered {s : State} {p : Port} {r : Response} (idle : (s.port p).exchangeState = .idle)
    (delivered : (s.port p).lastDelivered = some r) :
    chooseFrame s p = { choice := .repeated, frame := responseFrame r (statusBits s p true) } := by
  rw [chooseFrame, idle, delivered]

/-- An IDLE port that has delivered nothing shifts out the filler (R172). -/
theorem chooseFrame_of_nothing_delivered {s : State} {p : Port} (idle : (s.port p).exchangeState = .idle)
    (nothing : (s.port p).lastDelivered = none) :
    chooseFrame s p = { choice := .filler, frame := responseFrame filler (statusBits s p false) } := by
  rw [chooseFrame, idle, nothing]

/-- A port at work shifts out the filler (R172). -/
theorem chooseFrame_of_working {s : State} {p : Port} {rq : Request}
    (working : (s.port p).exchangeState = .working rq) :
    chooseFrame s p = { choice := .filler, frame := responseFrame filler (statusBits s p false) } := by
  rw [chooseFrame, working]

/-- The status byte as its flags from bit 0 up (R173, 11.1). -/
theorem statusBits_eq_bit (s : State) (p : Port) (isRepeat : Bool) :
    statusBits s p isRepeat =
      Nat.bit false (Nat.bit (s.port p).control (Nat.bit isRepeat (Nat.bit (s.port p).requestOverrun
        (Nat.bit (s.noticeQueue p).overrun (Nat.bit (s.breakin p).enable (Nat.bit (s.breakin p).pending.isSome
          (Nat.bit (!(s.noticeQueue p).items.isEmpty) 0))))))) := by
  have boolBit_eq (b : Bool) : boolBit b = b.toNat := by cases b <;> rfl
  simp only [statusBits, boolBit_eq, Nat.bit_val, Bool.toNat_false]
  omega

theorem StationPort.isReady_iff (x : StationPort) : x.isReady = true ↔ ∃ r, x.exchangeState = .ready r := by
  unfold StationPort.isReady
  cases x.exchangeState <;> simp

/-- What raises the attention line (R180). -/
theorem attention_iff (s : State) (p : Port) :
    attention s p = true ↔
      (∃ r, (s.port p).exchangeState = .ready r) ∨ (s.noticeQueue p).items ≠ [] ∨ (s.breakin p).pending ≠ none := by
  simp only [attention, Bool.or_eq_true, StationPort.isReady_iff, Bool.not_eq_true', List.isEmpty_eq_false_iff,
    Option.isSome_iff_ne_none, or_assoc]

/-- Settles O3: the frame is chosen by the exchange state and, at an IDLE port, by whether it has delivered a response; the
status byte written flag by flag gives each bit. -/
theorem selectFallChoosesFrame : Obligations.SelectFallChoosesFrame := by
  refine ⟨fun p s supply => ⟨fun free line device => ?begins, fun reset => ?ignored⟩, fun s p isRepeat => ?flags⟩
  case begins =>
    rw [exec_selectFall supply, beginExchange_of_takes free line device]
    refine congrArg _ (State.modPort_congr ?_)
    cases state : (s.port p).exchangeState with
    | ready r =>
      rw [chooseFrame_of_ready state]
      rfl
    | idle =>
      cases delivered : (s.port p).lastDelivered with
      | some r =>
        rw [chooseFrame_of_delivered state delivered]
        rfl
      | none =>
        rw [chooseFrame_of_nothing_delivered state delivered]
        rfl
    | working rq =>
      rw [chooseFrame_of_working state]
      rfl
  case ignored => rw [exec_selectFall supply, beginExchange_of_reset reset]
  case flags =>
    simp only [statusBits_eq_bit, BitVec.getLsbD_ofNat, Nat.testBit_bit_succ, Nat.testBit_bit_zero, Nat.reduceLT,
      decide_true, Bool.true_and, Bool.and_false, attention_iff, and_self]

end Sys2Proof.Machine
end

section
/-! The judgement of the bytes that arrived in an exchange (R175, R190, R191), row by row, and the obligation about it. -/

namespace Sys2Proof.Machine

/-- The lengths that a request code accepts are those of its row in R190. -/
theorem acceptedLength_eq_find (code : Byte) :
    acceptedLength code = (requestLengths.find? (fun r => decide (r.1 = code.toNat))).map Prod.snd := by
  unfold acceptedLength
  generalize code.toNat = n
  split
  -- the last case: the code is of no row
  case h_37 =>
    refine (Option.map_eq_none_iff.mpr (List.find?_eq_none.mpr ?inNoRow)).symm
    case inNoRow =>
      simp only [requestLengths, List.forall_mem_cons, decide_eq_true_eq]
      grind
  all_goals rfl

/-- A request code of 0 is no request (R175). -/
theorem judge_of_zero (rest : List Byte) : judge (0 :: rest) = .noRequest := rfl

/-- A frame that ends before its length byte is short (R175). -/
theorem judge_of_no_length {code : Byte} (request : code ≠ 0) :
    judge [code] = portAnswer 0 0 .frameShort ∧ ∀ tag, judge [code, tag] = portAnswer 0 0 .frameShort :=
  ⟨if_neg request, fun _ => if_neg request⟩

section
variable {code tag len : Byte} {rest : List Byte} (request : code ≠ 0)
include request

/-- A declared length above 60 makes a bad frame (R175). -/
theorem judge_of_overlong (overlong : 60 < len.toNat) :
    judge (code :: tag :: len :: rest) = portAnswer code tag .badFrame :=
  (if_neg request).trans (if_pos overlong)

/-- A payload that ends before its declared length makes a short frame (R175). -/
theorem judge_of_short_payload (inLimit : len.toNat ≤ 60) (short : rest.length < len.toNat) :
    judge (code :: tag :: len :: rest) = portAnswer 0 0 .frameShort :=
  (if_neg request).trans ((if_neg (Nat.not_lt.mpr inLimit)).trans (if_pos short))

/-- A complete frame whose code names no request is a bad request (R175, R190). -/
theorem judge_of_unknown_code (inLimit : len.toNat ≤ 60) (complete : len.toNat ≤ rest.length)
    (unknown : acceptedLength code = none) :
    judge (code :: tag :: len :: rest) = portAnswer code tag .badRequest := by
  simp only [judge, if_neg request, if_neg (Nat.not_lt.mpr inLimit), if_neg (Nat.not_lt.mpr complete), unknown]

/-- A complete frame of a request is judged by the lengths that the request accepts (R175, R190). -/
theorem judge_of_known_code {lo hi : Nat} (inLimit : len.toNat ≤ 60) (complete : len.toNat ≤ rest.length)
    (known : acceptedLength code = some (lo, hi)) :
    judge (code :: tag :: len :: rest) =
      if lo ≤ len.toNat ∧ len.toNat ≤ hi then
        .request { code := code, tag := tag, payload := rest.take len.toNat }
      else portAnswer code tag .badFrame := by
  simp only [judge, if_neg request, if_neg (Nat.not_lt.mpr inLimit), if_neg (Nat.not_lt.mpr complete), known]

end

/-- Settles O4: each row's condition selects its branch of the judgement. -/
theorem exchangeJudgesFrames : Obligations.ExchangeJudgesFrames := by
  refine ⟨rfl, acceptedLength_eq_find, fun code tag len rest => ⟨?noRequest, fun request =>
    ⟨(judge_of_no_length request).1, (judge_of_no_length request).2 tag, judge_of_overlong request,
      judge_of_short_payload request, fun inLimit complete => ?complete⟩⟩⟩
  case noRequest =>
    rintro rfl
    exact judge_of_zero rest
  case complete =>
    refine ⟨judge_of_unknown_code request inLimit complete, fun lo hi known => ?_⟩
    rw [judge_of_known_code request inLimit complete known]
    refine ⟨fun outside => if_neg fun ⟨atLeast, atMost⟩ => ?badLength, fun atLeast atMost => if_pos ⟨atLeast, atMost⟩⟩
    case badLength => omega

end Sys2Proof.Machine
end

section
/-! The answers of NOP (R179) and CLOCK-READ (R185), and the obligation about them. -/

namespace Sys2Proof.Machine

/-- A NOP that is served is answered by its port (R179). -/
theorem exec_nop_of_serving {p : Port} {s : State} {rq : Request} (serving : Serving s (.nop p) p rq) :
    exec (.nop p) s = .next (responded p rq .ok [] s) := serve_of_serving serving

/-- A CLOCK-READ that is served is answered by the Time Base (R185). -/
theorem exec_clockRead_of_serving {p : Port} {s : State} {rq : Request} (serving : Serving s (.clockRead p) p rq) :
    exec (.clockRead p) s =
      .next (responded p rq .ok
        (be4 s.seconds ++ boolByte (decide (s.seconds = Config.timeLimit)) ++ be4 s.divisor) s) :=
  serve_of_serving serving

/-- The byte of a decided condition. -/
theorem boolByte_decide (c : Prop) [Decidable c] : boolByte (decide c) = be1 (if c then 1 else 0) := by
  by_cases holds : c <;> simp [boolByte, boolBit, holds]

/-- Settles O12: neither request leaves anything but its response, and the divisor is read off the straps as sampled. -/
theorem nopAndClockReadAnswer : Obligations.NopAndClockReadAnswer := by
  refine fun p s rq => ⟨exec_nop_of_serving, fun serving => ?clockRead⟩
  case clockRead =>
    rw [exec_clockRead_of_serving serving, boolByte_decide]
    rfl

end Sys2Proof.Machine
end

section
/-! What every command does, in one equation: a request is taken at its owning block, every other command is an event that
changes the part by itself (R178). What no block writes. -/

namespace Sys2Proof.Machine

/-- What the owning block of a request does (R178); a command that is no request is taken at no block. -/
def blockAct : Instr → State → Reply × State
  | .nop _ => answer .ok []
  | .clockRead _ => clockRead
  | .readHeader p h => readHeader p h
  | .readText p h index => readText p h index
  | .readNotes p h index => readNotes p h index
  | .readHistory p h => readHistory p h
  | .find _ station serial day => findMessage station serial day
  | .enterBegin p f => enterBegin p f
  | .appendText p h chars => appendText p h chars
  | .enterEnd p h => enterEnd p h
  | .enterCancel p h => enterCancel p h
  | .purge p h => purge p h
  | .storeStatus _ => storeStatus
  | .routeSet p index first last port => routeSet p index first last port
  | .routeClear p index => routeClear p index
  | .routeRead _ start area => routeRead start area
  | .defaultRoute p port => defaultRoute p port
  | .linkState p port state => linkState p port state
  | .fence p => fence p
  | .configure p f => configure p f
  | .configRead _ => configRead
  | .queueList _ queue rank => queueList queue rank
  | .next p => nextMessage p
  | .extend p h token => extend p h token
  | .dispose p f => dispose p f
  | .breakinEnable p value => breakinEnable p value
  | .nextBreakin p h token => nextBreakin p h token
  | .resume p h token => resume p h token
  | .portStatus _ port => portStatus port
  | .hold p h => hold p h
  | .release p h => release p h
  | .void p h => void p h
  | .amend p f => amend p f
  | .addNote p h chars => addNote p h chars
  | .watch p h value => watch p h value
  | .notices p => notices p
  | .selectFall _ | .exchange _ _ _ | .tick | .entryIdleTimeout | .leaseExpiry | .deliveryDeadlineExpiry | .portReset _
  | .warmReset _ | .coldReset _ _ | .portResetLineRelease _ | .deviceResetInputRelease
  | .supplyBelowWorkingLevel _ => refuse .badRequest

/-- What a tick that waits does before a request (R184, R139). -/
def ticksBefore : Instr → State → State
  | .nextBreakin p h token => ticksBeforeBreakin p (nextBreakin p h token)
  | _ => takeTicks

/-- What a command that is no request does to a part that takes it. -/
def eventEffect : Instr → State → State
  | .selectFall p => beginExchange p
  | .exchange p bytes _ => endExchange p bytes
  | .tick => tickOnce
  | .entryIdleTimeout => takeEntryTick
  | .leaseExpiry => takeLeaseTick allSlots
  | .deliveryDeadlineExpiry => takeDeadlineTick allSlots
  | .portReset p => assertPortReset p
  | .warmReset straps => assertDeviceReset straps
  | .coldReset straps lines => fun s => { State.cold straps lines with pending := s.pending }
  | .portResetLineRelease p => fun s => s.modPort p (fun x => { x with resetLine := false })
  | .deviceResetInputRelease => fun s => { s with deviceReset := false }
  | .supplyBelowWorkingLevel seen => fun s => if seen then { s with supplyLow := true } else s
  | _ => id

/-- A request is taken at its block, after the ticks that came before it. -/
theorem exec_of_frame {c : Instr} {f : RequestFrame} (frame : requestFrame c = some f) (s : State) :
    exec c s = serveAfter (ticksBefore c) c (blockAct c) s := by
  cases c <;> first | rfl | cases frame

/-- What acts only with the supply at its working level acts, or the supply is below it. -/
theorem whenPowered_cases (f : State → State) (s : State) :
    whenPowered f s = .next (f s) ∨ s.supplyLow = true ∧ whenPowered f s = .next s := by
  cases supply : s.supplyLow <;> simp [whenPowered, supply]

/-- An event acts on a part that has its supply; the cold reset and the dip of the supply act on any. -/
theorem exec_of_no_frame {c : Instr} (frame : requestFrame c = none) (s : State) :
    exec c s = .next (eventEffect c s) ∨ s.supplyLow = true ∧ exec c s = .next s := by
  have acts : exec c s = whenPowered (eventEffect c) s ∨ exec c s = .next (eventEffect c s) := by
    cases c <;> first | exact .inl rfl | exact .inr rfl | cases frame
  obtain powered | always := acts
  · rw [powered]
    exact whenPowered_cases _ s
  · exact .inl always

/-- The three things that a command can do: nothing, what its block does with a response held, or what the event does. -/
theorem exec_cases (c : Instr) (s : State) :
    exec c s = .next s
      ∨ (∃ p rq, s.supplyLow = false ∧ s.inProgress c = some (p, rq)
          ∧ exec c s = .next
            (holdResponse p rq (blockAct c (ticksBefore c s)).1 (blockAct c (ticksBefore c s)).2))
      ∨ requestFrame c = none ∧ exec c s = .next (eventEffect c s) := by
  cases frame : requestFrame c with
  | none =>
    obtain effect | ⟨-, still⟩ := exec_of_no_frame frame s
    · exact .inr (.inr ⟨rfl, effect⟩)
    · exact .inl still
  | some f =>
    rw [exec_of_frame frame]
    obtain still | ⟨p, rq, supply, working, taken⟩ := serveAfter_cases (ticksBefore c) c (blockAct c) s
    · exact .inl still
    · exact .inr (.inl ⟨p, rq, supply, working, taken⟩)

/-- A command in progress is a request, on the port that it names. -/
theorem State.frame_of_inProgress {s : State} {c : Instr} {p : Port} {rq : Request}
    (working : s.inProgress c = some (p, rq)) : ∃ f, requestFrame c = some f ∧ f.port = p := by
  obtain ⟨f, frame, port, -⟩ := State.inProgress_eq_some.mp working
  exact ⟨f, frame, port⟩

/-- Where every block has taken the last tick, no tick comes before a request. -/
theorem ticksBefore_of_taken {s : State} (taken : s.ticksTaken) (c : Instr) : ticksBefore c s = s := by
  obtain ⟨entry, lease, deadline⟩ := taken
  cases c
  case nextBreakin p h token => exact ticksBeforeBreakin_of_taken ⟨entry, lease, deadline⟩ p _
  all_goals exact takeTicks_of_taken entry lease deadline

/-- A request that is served is answered by its owning block. -/
theorem exec_of_serving {c : Instr} {p : Port} {rq : Request} {s : State} (serving : Serving s c p rq) :
    exec c s = .next (responded p rq (blockAct c s).1.result (blockAct c s).1.payload (blockAct c s).2) := by
  obtain ⟨f, frame, -⟩ := State.frame_of_inProgress serving.2.1
  rw [exec_of_frame frame]
  exact serveAfter_of_serving serving (ticksBefore_of_taken serving.2.2 c)

/-- A request that is served, where its block's reply is known. -/
theorem exec_of_reply {c : Instr} {p : Port} {rq : Request} {s u : State} {r : Result} {payload : List Byte}
    (serving : Serving s c p rq) (reply : blockAct c s = ({ result := r, payload := payload }, u)) :
    exec c s = .next (responded p rq r payload u) := by
  rw [exec_of_serving serving, reply]

/-- A request that is served and refused. -/
theorem exec_of_refusal {c : Instr} {p : Port} {rq : Request} {s : State} {r : Result}
    (serving : Serving s c p rq) (reply : blockAct c s = refuse r s) :
    exec c s = .next (responded p rq r [] s) := exec_of_reply serving reply

end Sys2Proof.Machine
end

section
/-! What the owning block of each request can do: it leaves the part as it stood, or it acts in one of the ways listed here, and
then its result is no refusal (R1). Every fact about all requests is drawn from this list. -/

namespace Sys2Proof.Machine

/-- The routing state that a request of the Route Unit gives: one route entry, within its range or with the ends it had; the
default route; or one link (R68 to R71). -/
inductive RoutingUpdate (s : State) : State → Prop
  | route (i : Fin 24) (e : RouteEntry)
      (range : e.first ≤ e.last ∧ e.last ≤ 4095 ∨ e.first = (s.route i).first ∧ e.last = (s.route i).last) :
      RoutingUpdate s (setRoute i e s)
  | default (d : Option Port) : RoutingUpdate s { s with defaultRoute := d }
  | link (q : Port) (up : Bool) : RoutingUpdate s (setLink q up s)

/-- What a block does to the part s by a request that it does not refuse, and what it has found before it does it. -/
inductive BlockEffect (s : State) : Instr → State → Prop
  | refresh {c : Instr} (p : Port) (k : SlotNo) : BlockEffect s c (refreshEntry p k s)
  | enterBegin (p : Port) (f : EnterBeginFields) (hd : Header) (k : SlotNo) (closed : (s.entryOf p).filling = none)
      (fields : readEnterBegin f = some hd) (allowed : slotRefusal hd.klass s = none)
      (empty : (makeRoom s).lowestEmpty = some k) : BlockEffect s (.enterBegin p f) (openEntry p hd k (makeRoom s))
  | append {c : Instr} (p : Port) (k : SlotNo) (m : Message) (chars : List Byte) (short : chars.length ≤ 40)
      (filling : FillingOn s k m p) (allowed : segmentRefusal m.klass (segmentNeed m chars) s = none) :
      BlockEffect s c (appendAccepted p k m chars s).2
  | duplicate {c : Instr} (p : Port) (k j : SlotNo) (m : Message) (filling : FillingOn s k m p)
      (held : s.keyHolder m.origin m.serial m.day = some j) :
      BlockEffect s c (closeEntry p (freeSlot k (creditDuplicate j m.klass s)))
  | accept {c : Instr} (p : Port) (k : SlotNo) (m : Message) (filling : FillingOn s k m p) (free : KeyFree s m) :
      BlockEffect s c (place p k (accept p k s))
  | cancel {c : Instr} (p : Port) (k : SlotNo) (m : Message) (filling : FillingOn s k m p) :
      BlockEffect s c (closeEntry p (freeSlot k s))
  | purge {c : Instr} (k : SlotNo) (m : Message) (record : s.record k = some m)
      (retained : Message.retainedRecord m = true) : BlockEffect s c (reclaim k s)
  | reroute {c : Instr} (p : Port) (s₁ : State) (update : RoutingUpdate s s₁) :
      BlockEffect s c (routingEffects p s s₁).1
  | fence {c : Instr} (p : Port) (marks : s.outstanding ≠ 0) :
      BlockEffect s c { s with fences := vmod s.fences p (fun _ => true) }
  | configure {c : Instr} (f : ConfigureFields) : BlockEffect s c { s with scoring := configured f s.scoring }
  | list {c : Instr} (q : Port) (es : List Evaluation) : BlockEffect s c (clearFlags q (setStickyFlags q es s))
  | next {c : Instr} (p : Port) (e : Evaluation) (es : List Evaluation) (idle : (s.breakin p).active = none)
      (stack : (s.breakin p).stack = []) (ranked : s.ranked (s.queue p) = e :: es) :
      BlockEffect s c (handOut e.slot p (setStickyFlags p (e :: es) s))
  | extend {c : Instr} (p : Port) (k : SlotNo) (m : Message) (d : Nat) (mark : Bool) (record : s.record k = some m)
      (handed : m.custody = .handed p d mark) (deadline : Nat) :
      BlockEffect s c (s.modRecord k (fun m => { m with custody := Custody.withDeadline deadline m.custody }))
  | dispose {c : Instr} (p : Port) (k : SlotNo) (m : Message) (d : Nat) (mark : Bool) (record : s.record k = some m)
      (handed : m.custody = .handed p d mark) (r : Report) :
      BlockEffect s c (settleFences s.outstanding (applyReport k p r (clearActive p s)))
  | enable {c : Instr} (p : Port) (on : Bool) : BlockEffect s c (switchEnable p on s)
  | suspend {c : Instr} (p : Port) (h named : Handle) (token : Byte) (m : Message) (e : Evaluation)
      (es : List Evaluation) (pending : (s.breakin p).pending = some named)
      (active : (s.breakin p).active = some { handle := h, token := token }) (record : s.record h.slot = some m)
      (ranked : s.ranked (s.eligible p m.klass) = e :: es) :
      BlockEffect s c
        (handOut e.slot p (suspend h.slot p { handle := h, token := token } m (setStickyFlags p (e :: es) s)))
  | pop {c : Instr} (p : Port) (r : Suspension) (rest : List Suspension) (idle : (s.breakin p).active = none)
      (stack : (s.breakin p).stack = r :: rest) (revoked : r.revoked = true) :
      BlockEffect s c (breakInCheck p (popRecord p r s))
  | resume {c : Instr} (p : Port) (r : Suspension) (rest : List Suspension) (idle : (s.breakin p).active = none)
      (stack : (s.breakin p).stack = r :: rest) (standing : r.revoked = false) :
      BlockEffect s c (resumeRecord p r (popRecord p r s))
  | hold {c : Instr} (p : Port) (k : SlotNo) (m : Message) (record : s.record k = some m)
      (queued : m.custody = .queued) : BlockEffect s c (holdMessage k p s)
  | release {c : Instr} (p : Port) (k : SlotNo) (m : Message) (r : HoldReason) (record : s.record k = some m)
      (held : m.custody = .held r) : BlockEffect s c (releaseMessage k p m s).2
  | void {c : Instr} (p : Port) (k : SlotNo) (m : Message) (record : s.record k = some m)
      (traffic : Message.inTraffic m = true) : BlockEffect s c (voidMessage k p m s)
  | amend {c : Instr} (k : SlotNo) (f : AmendFields) (m : Message) (record : s.record k = some m)
      (traffic : Message.inTraffic m = true) (free : AmendFields.hasClass f = true → Message.inHand m = false) :
      BlockEffect s c (amendMessage k f m s)
  | note {c : Instr} (k : SlotNo) (m : Message) (chars : List Byte) (record : s.record k = some m)
      (traffic : Message.inTraffic m = true) (room : m.notes.length < Config.noteLimit)
      (segment : 1 ≤ s.freeSegments + s.retainedSegments) :
      BlockEffect s c (notifyWatchers k ((takeSegments 1 s).modRecord k (noted chars)))
  | watch {c : Instr} (p : Port) (on : Bool) (k : SlotNo) (m : Message) (record : s.record k = some m)
      (entered : m.custody ≠ .filling) : BlockEffect s c (s.modRecord k (setWatcher p on))
  | fetch {c : Instr} (p : Port) : BlockEffect s c (s.modNoticeQueue p NoticeQueue.fetched)

/-- The results that are no refusals (R1). -/
def Accepts (c : Instr) (r : Result) : Prop :=
  r = .ok ∨ r = .duplicate ∨ r = .none ∨ r = .unrouted ∨ r = .revoked ∧ ∃ p h token, c = .resume p h token

/-- A reply that leaves the part as it stood, or that accepts the request and acts. -/
def BlockOutcome (c : Instr) (s : State) (r : Reply × State) : Prop :=
  r.2 = s ∨ Accepts c r.1.result ∧ BlockEffect s c r.2

theorem BlockOutcome.refuse (c : Instr) (r : Result) (s : State) : BlockOutcome c s (refuse r s) := .inl rfl

theorem BlockOutcome.answer (c : Instr) (r : Result) (payload : List Byte) (s : State) :
    BlockOutcome c s (answer r payload s) := .inl rfl

/-- An OK that acts. -/
theorem BlockOutcome.ok {c : Instr} {s t : State} (payload : List Byte) (effect : BlockEffect s c t) :
    BlockOutcome c s (Machine.answer .ok payload t) := .inr ⟨.inl rfl, effect⟩

/-! ### The shared conditions -/

/-- What holds of every refusal and of the act holds of a request behind the handle check. -/
theorem withHandle_induct {Q : Reply × State → Prop} {h : HandleField} {act : SlotNo → State → Reply × State} {s : State}
    (refused : ∀ r, Q (refuse r s)) (acts : ∀ k, Q (act k s)) : Q (withHandle h act s) := by
  unfold withHandle
  split
  · exact refused _
  · split
    · exact acts _
    · exact refused _

/-- What holds of the refusal and of the act holds of a reserved request. -/
theorem controlOnly_induct {Q : Reply × State → Prop} {p : Port} {act : State → Reply × State} {s : State}
    (refused : ∀ r, Q (refuse r s)) (acts : Q (act s)) : Q (controlOnly p act s) := by
  unfold controlOnly
  split
  · exact acts
  · exact refused _

/-- A handoff that passes the handoff check is HANDED and held by the port (R105). -/
theorem handed_of_handoffRefusal {p : Port} {k : SlotNo} {inc : BitVec 4} {token : BitVec 8} {s : State}
    (passes : handoffRefusal p k inc token s = none) :
    inc = (s.slot k).inc ∧ ∃ m d mark, s.record k = some m ∧ m.custody = .handed p d mark ∧ token = m.token := by
  unfold handoffRefusal at passes
  split at passes
  · contradiction
  · next current =>
    split at passes
    · contradiction
    · next m record =>
      split at passes
      · split at passes <;> contradiction
      · split at passes <;> contradiction
      · next q d mark handed =>
        split at passes
        · next both =>
          obtain ⟨rfl, same⟩ := both
          exact ⟨not_not.mp current, m, d, mark, record, handed, same⟩
        · contradiction
      all_goals contradiction

/-- What holds of every refusal and of the act on a handoff of the port holds of a request behind the handoff check. -/
theorem onHandoff_induct {Q : Reply × State → Prop} {p : Port} {h : HandleField} {token : Byte}
    {act : SlotNo → State → Reply × State} {s : State} (refused : ∀ r, Q (refuse r s))
    (acts : ∀ k m d mark, s.record k = some m → m.custody = .handed p d mark → Q (act k s)) :
    Q (onHandoff p h token act s) := by
  unfold onHandoff
  split
  · exact refused _
  · next k _ =>
    split
    · exact refused _
    · next passes =>
      obtain ⟨-, m, d, mark, record, handed, -⟩ := handed_of_handoffRefusal passes
      exact acts k m d mark record handed

/-- What holds of every refusal and of the act on a FILLING message of the port holds of a request on the own entry. -/
theorem onOwnEntry_induct {Q : Reply × State → Prop} {p : Port} {h : HandleField}
    {act : SlotNo → Message → State → Reply × State} {s : State} (refused : ∀ r, Q (refuse r s))
    (acts : ∀ k m, FillingOn s k m p → Q (act k m s)) : Q (onOwnEntry p h act s) := by
  refine withHandle_induct refused fun k => ?_
  split
  · exact refused _
  · next m record =>
    split
    · exact refused _
    · next filling =>
      split
      · exact refused _
      · next port => exact acts k m ⟨record, not_not.mp filling, not_not.mp port⟩

/-- What holds of every refusal and of a read that refreshes holds of a read of a record. -/
theorem readRecord_induct {Q : Reply × State → Prop} {p : Port} {h : HandleField} {form : SlotNo → Message → Reply}
    {s : State} (refused : ∀ r, Q (refuse r s)) (acts : ∀ k m, Q (form k m, refreshEntry p k s)) :
    Q (readRecord p h form s) := by
  refine withHandle_induct refused fun k => ?_
  split
  · exact refused _
  · split
    · exact refused _
    · exact acts k _

/-! ### Each request -/

section
variable {c : Instr} {p : Port} {h : HandleField} {s : State}

/-- A read of a record whose every reply is OK or NONE. -/
theorem readRecord_outcome {form : SlotNo → Message → Reply}
    (accepts : ∀ k m, (form k m).result = .ok ∨ (form k m).result = .none) :
    BlockOutcome c s (readRecord p h form s) := by
  refine readRecord_induct (.refuse c · s) fun k m => .inr ⟨?_, .refresh p k⟩
  obtain ok | none := accepts k m
  · exact .inl ok
  · exact .inr (.inr (.inl none))

theorem readText_outcome (index : Byte) : BlockOutcome c s (readText p h index s) := by
  unfold readText
  split
  · exact .refuse ..
  · refine readRecord_outcome fun k m => ?_
    split
    · exact .inl rfl
    · exact .inr rfl

theorem readNotes_outcome (index : Byte) : BlockOutcome c s (readNotes p h index s) := by
  unfold readNotes
  split
  · exact .refuse ..
  · refine readRecord_outcome fun k m => ?_
    split
    · exact .inl rfl
    · exact .inr rfl

theorem findMessage_outcome (station : StationField) (serial day : Half) :
    BlockOutcome c s (findMessage station serial day s) := by
  unfold findMessage
  repeat' split
  all_goals exact .inl rfl

theorem enterBegin_outcome (f : EnterBeginFields) : BlockOutcome (.enterBegin p f) s (enterBegin p f s) := by
  unfold enterBegin
  split
  · exact .answer ..
  · next closed =>
    split
    · exact .refuse ..
    · next hd fields =>
      split
      · exact .refuse ..
      · next allowed =>
        split
        · exact .refuse ..
        · next k empty => exact .ok _ (.enterBegin p f hd k closed fields allowed empty)

theorem appendText_outcome (chars : List Byte) : BlockOutcome c s (appendText p h chars s) := by
  refine withHandle_induct (.refuse c · s) fun k => ?_
  split
  · exact .refuse ..
  · next length =>
    split
    · exact .refuse ..
    · next m record =>
      split
      · exact .refuse ..
      · next filling =>
        split
        · exact .refuse ..
        · next port =>
          split
          · exact .refuse ..
          · next allowed =>
            have short : chars.length ≤ 40 := by omega
            exact .inr ⟨.inl rfl,
              .append p k m chars short ⟨record, not_not.mp filling, not_not.mp port⟩ allowed⟩

theorem enterEnd_outcome : BlockOutcome c s (enterEnd p h s) := by
  refine onOwnEntry_induct (.refuse c · s) fun k m filling => ?_
  split
  · next j held => exact .inr ⟨.inr (.inl rfl), .duplicate p k j m filling held⟩
  · next free => exact .ok _ (.accept p k m filling free)

theorem enterCancel_outcome : BlockOutcome c s (enterCancel p h s) :=
  onOwnEntry_induct (.refuse c · s) fun k m filling => .ok _ (.cancel p k m filling)

theorem purge_outcome : BlockOutcome c s (purge p h s) := by
  refine controlOnly_induct (.refuse c · s) (withHandle_induct (.refuse c · s) fun k => ?_)
  split
  · exact .refuse ..
  · next m record =>
    split
    · next retained => exact .ok _ (.purge k m record retained)
    · exact .refuse ..

theorem changeRouting_outcome {changes : Bool} {update : State → State} (known : RoutingUpdate s (update s)) :
    BlockOutcome c s (changeRouting p changes update s) := by
  unfold changeRouting
  split
  · exact .ok _ (.reroute p _ known)
  · exact .answer ..

theorem routeSet_outcome (index : Byte) (first last : Half) (port : Byte) :
    BlockOutcome c s (routeSet p index first last port s) := by
  refine controlOnly_induct (.refuse c · s) ?_
  split
  · split
    · next range => exact changeRouting_outcome (.route _ _ (.inl ⟨range.2.2, range.2.1⟩))
    · exact .refuse ..
  · exact .refuse ..

theorem routeClear_outcome (index : Byte) : BlockOutcome c s (routeClear p index s) := by
  refine controlOnly_induct (.refuse c · s) ?_
  split
  · exact changeRouting_outcome (.route _ _ (.inr ⟨rfl, rfl⟩))
  · exact .refuse ..

theorem routeRead_outcome (start : Byte) (area : Half) : BlockOutcome c s (routeRead start area s) := by
  unfold routeRead
  repeat' split
  all_goals exact .inl rfl

theorem defaultRoute_outcome (port : Byte) : BlockOutcome c s (defaultRoute p port s) := by
  refine controlOnly_induct (.refuse c · s) ?_
  split
  · exact changeRouting_outcome (.default _)
  · exact .refuse ..

theorem linkState_outcome (port state : Byte) : BlockOutcome c s (linkState p port state s) := by
  unfold linkState
  split
  · split
    · exact .refuse ..
    · exact changeRouting_outcome (.link _ _)
  · exact .refuse ..

theorem fence_outcome : BlockOutcome c s (fence p s) := by
  unfold fence
  split
  · exact .answer ..
  · next marks => exact .ok _ (.fence p marks)

theorem configure_outcome (f : ConfigureFields) : BlockOutcome c s (configure p f s) :=
  controlOnly_induct (.refuse c · s) (.ok _ (.configure f))

theorem queueList_outcome (queue rank : Byte) : BlockOutcome c s (queueList queue rank s) := by
  unfold queueList
  split
  · exact .refuse ..
  · split
    · exact .refuse ..
    · exact .ok _ (.list ..)

theorem nextMessage_outcome : BlockOutcome c s (nextMessage p s) := by
  unfold nextMessage
  split
  · exact .answer ..
  · next idle =>
    split
    · exact .answer ..
    · next stack =>
      split
      · exact .refuse ..
      · next e es ranked => exact .ok _ (.next p e es idle (not_not.mp stack) ranked)

theorem extend_outcome (token : Byte) : BlockOutcome c s (extend p h token s) :=
  onHandoff_induct (.refuse c · s) fun k m d mark record handed => .ok _ (.extend p k m d mark record handed _)

theorem dispose_outcome (f : DisposeFields) : BlockOutcome c s (dispose p f s) := by
  unfold dispose
  split
  · exact .refuse ..
  · exact onHandoff_induct (.refuse c · s) fun k m d mark record handed =>
      .ok _ (.dispose p k m d mark record handed _)

theorem breakinEnable_outcome (value : Byte) : BlockOutcome c s (breakinEnable p value s) := by
  unfold breakinEnable
  split
  · exact .refuse ..
  · exact .ok _ (.enable p _)

theorem nextBreakin_outcome (token : Byte) : BlockOutcome c s (nextBreakin p h token s) := by
  unfold nextBreakin
  split
  · exact .refuse ..
  · next handle _ =>
    split
    · exact .refuse ..
    · next named pending =>
      split
      · next active =>
        split
        · exact .refuse ..
        · next m record =>
          split
          · exact .refuse ..
          · next e es ranked => exact .ok _ (.suspend p handle named token m e es pending active record ranked)
      · exact .refuse ..

theorem resume_outcome (token : Byte) : BlockOutcome (.resume p h token) s (resume p h token s) := by
  unfold resume
  split
  · exact .refuse ..
  · split
    · exact .answer ..
    · next idle =>
      split
      · exact .refuse ..
      · next r rest stack =>
        split
        · split
          · next revoked =>
            exact .inr ⟨.inr (.inr (.inr (.inr ⟨rfl, p, h, token, rfl⟩))), .pop p r rest idle stack revoked⟩
          · next standing => exact .ok _ (.resume p r rest idle stack (Bool.eq_false_iff.mpr standing))
        · exact .refuse ..

theorem portStatus_outcome (port : Byte) : BlockOutcome c s (portStatus port s) := by
  unfold portStatus
  split
  · exact .refuse ..
  · exact .answer ..

theorem hold_outcome : BlockOutcome c s (hold p h s) := by
  refine controlOnly_induct (.refuse c · s) (withHandle_induct (.refuse c · s) fun k => ?_)
  split
  · exact .refuse ..
  · next m record =>
    split
    · exact .refuse ..
    · split
      · next queued => exact .ok _ (.hold p k m record queued)
      · exact .refuse ..

/-- A record with a hold reason is HELD for it. -/
theorem Custody.held_of_reason {x : Custody} (held : x.reason.isSome = true) : ∃ r, x = .held r := by
  cases x with
  | held r => exact ⟨r, rfl⟩
  | _ => cases held

theorem release_outcome : BlockOutcome c s (release p h s) := by
  refine controlOnly_induct (.refuse c · s) (withHandle_induct (.refuse c · s) fun k => ?_)
  split
  · exact .refuse ..
  · next m record =>
    split
    · exact .refuse ..
    · split
      · next reason =>
        obtain ⟨r, held⟩ := Custody.held_of_reason reason
        refine .inr ⟨?_, .release p k m r record held⟩
        have result : (releaseMessage k p m s).1 = .ok ∨ (releaseMessage k p m s).1 = .unrouted := by
          unfold releaseMessage
          simp only
          repeat' split
          all_goals simp
        obtain ok | unrouted := result
        · exact .inl ok
        · exact .inr (.inr (.inr (.inl unrouted)))
      · exact .refuse ..

theorem void_outcome : BlockOutcome c s (void p h s) := by
  refine controlOnly_induct (.refuse c · s) (withHandle_induct (.refuse c · s) fun k => ?_)
  split
  · exact .refuse ..
  · next m record =>
    split
    · next traffic => exact .ok _ (.void p k m record traffic)
    · exact .refuse ..

theorem amend_outcome (f : AmendFields) : BlockOutcome c s (amend p f s) := by
  refine controlOnly_induct (.refuse c · s) ?_
  split
  · exact .refuse ..
  · refine withHandle_induct (.refuse c · s) fun k => ?_
    split
    · exact .refuse ..
    · next m record =>
      split
      · exact .refuse ..
      · next traffic =>
        split
        · exact .refuse ..
        · next free =>
          exact .ok _ (.amend k f m record (by simpa using traffic) fun present => by simpa [present] using free)

theorem addNote_outcome (chars : List Byte) : BlockOutcome c s (addNote p h chars s) := by
  refine controlOnly_induct (.refuse c · s) (withHandle_induct (.refuse c · s) fun k => ?_)
  split
  · exact .refuse ..
  · split
    · exact .refuse ..
    · next m record =>
      split
      · exact .refuse ..
      · next traffic =>
        split
        · exact .refuse ..
        · next room =>
          split
          · exact .refuse ..
          · next segment =>
            exact .ok _ (.note k m chars record (by simpa using traffic) (Nat.lt_of_not_le room)
              (Nat.le_of_not_lt segment))

theorem watch_outcome (value : Byte) : BlockOutcome c s (watch p h value s) := by
  unfold watch
  split
  · exact .refuse ..
  · refine withHandle_induct (.refuse c · s) fun k => ?_
    split
    · exact .refuse ..
    · next m record =>
      split
      · exact .refuse ..
      · next entered => exact .ok _ (.watch p _ k m record entered)

end

/-- What the block of a request can do. -/
theorem blockAct_outcome (c : Instr) (s : State) : BlockOutcome c s (blockAct c s) := by
  cases c with
  | nop _ | clockRead _ | storeStatus _ | configRead _ => exact .answer ..
  | readHeader p h => exact readRecord_outcome fun _ _ => .inl rfl
  | readText p h index => exact readText_outcome index
  | readNotes p h index => exact readNotes_outcome index
  | readHistory p h => exact readRecord_outcome fun _ _ => .inl rfl
  | find p station serial day => exact findMessage_outcome station serial day
  | enterBegin p f => exact enterBegin_outcome f
  | appendText p h chars => exact appendText_outcome chars
  | enterEnd p h => exact enterEnd_outcome
  | enterCancel p h => exact enterCancel_outcome
  | purge p h => exact purge_outcome
  | routeSet p index first last port => exact routeSet_outcome index first last port
  | routeClear p index => exact routeClear_outcome index
  | routeRead p start area => exact routeRead_outcome start area
  | defaultRoute p port => exact defaultRoute_outcome port
  | linkState p port state => exact linkState_outcome port state
  | fence p => exact fence_outcome
  | configure p f => exact configure_outcome f
  | queueList p queue rank => exact queueList_outcome queue rank
  | next p => exact nextMessage_outcome
  | extend p h token => exact extend_outcome token
  | dispose p f => exact dispose_outcome f
  | breakinEnable p value => exact breakinEnable_outcome value
  | nextBreakin p h token => exact nextBreakin_outcome token
  | resume p h token => exact resume_outcome token
  | portStatus p port => exact portStatus_outcome port
  | hold p h => exact hold_outcome
  | release p h => exact release_outcome
  | void p h => exact void_outcome
  | amend p f => exact amend_outcome f
  | addNote p h chars => exact addNote_outcome chars
  | watch p h value => exact watch_outcome value
  | notices p => exact .ok _ (.fetch p)
  | _ => exact .refuse ..

/-- Settles O8: a block that does not leave the part as it stood accepts the request. -/
theorem refusedRequestsChangeNothing : Obligations.RefusedRequestsChangeNothing := by
  intro c p rq s t r serving next ready notOk notDuplicate notNone notUnrouted revokedElsewhere
  rw [exec_of_serving serving, Host.Outcome.next.injEq] at next
  subst next
  rw [responded, State.port_modPort_same, ExchangeState.ready.injEq] at ready
  subst ready
  obtain still | ⟨accepts, -⟩ := blockAct_outcome c s
  · rw [still]
  · obtain ok | duplicate | none | unrouted | ⟨revoked, q, h, token, rfl⟩ := accepts
    · exact absurd ok notOk
    · exact absurd duplicate notDuplicate
    · exact absurd none notNone
    · exact absurd unrouted notUnrouted
    · obtain ⟨f, frame, port⟩ := State.frame_of_inProgress serving.2.1
      cases frame
      subst port
      exact absurd rfl (revokedElsewhere revoked h token)

end Sys2Proof.Machine
end

section
/-! What no block writes: the station ports, the time base, the lines, the supply and the commands that wait. With it the
obligations about all commands at once (R170, R178) and about the cold reset (R187). -/

namespace Sys2Proof.Machine

/-- What belongs to no block: the ports, the time base, the lines, the supply and the waiting commands. -/
structure Housing where
  ports : Vector StationPort 4
  seconds : Nat
  divider : Nat
  timeBase0 : Bool
  timeBase1 : Bool
  deviceReset : Bool
  supplyLow : Bool
  pending : List Instr

/-- The housing of the part. -/
def State.housing (s : State) : Housing :=
  { ports := s.ports, seconds := s.seconds, divider := s.divider, timeBase0 := s.timeBase0, timeBase1 := s.timeBase1
    deviceReset := s.deviceReset, supplyLow := s.supplyLow, pending := s.pending }

/-! ### The shared operations leave the housing -/

@[simp] theorem housing_modEntry (s : State) (p : Port) (f : EntryContext → EntryContext) :
    (s.modEntry p f).housing = s.housing := rfl
@[simp] theorem housing_modBreakin (s : State) (p : Port) (f : BreakIn → BreakIn) :
    (s.modBreakin p f).housing = s.housing := rfl
@[simp] theorem housing_modNoticeQueue (s : State) (p : Port) (f : NoticeQueue → NoticeQueue) :
    (s.modNoticeQueue p f).housing = s.housing := rfl
@[simp] theorem housing_modFlags (s : State) (p : Port) (f : QueueFlags → QueueFlags) :
    (s.modFlags p f).housing = s.housing := rfl
@[simp] theorem housing_modSlot (s : State) (k : SlotNo) (f : Slot → Slot) : (s.modSlot k f).housing = s.housing := rfl
@[simp] theorem housing_modRecord (s : State) (k : SlotNo) (f : Message → Message) :
    (s.modRecord k f).housing = s.housing := rfl
@[simp] theorem housing_post (p : Port) (kind : NoticeKind) (h : Option Handle) (d : Detail) (s : State) :
    (post p kind h d s).housing = s.housing := rfl
@[simp] theorem housing_notifyWatchers (k : SlotNo) (s : State) : (notifyWatchers k s).housing = s.housing := by
  rw [notifyWatchers_frame]; rfl
@[simp] theorem housing_reportHeld (k : SlotNo) (s : State) : (reportHeld k s).housing = s.housing := by
  rw [reportHeld_frame]; rfl
@[simp] theorem housing_settleFences (before : Nat) (s : State) : (settleFences before s).housing = s.housing := by
  rw [settleFences_frame]; rfl
@[simp] theorem housing_clearPendingBreakIn (p : Port) (s : State) : (clearPendingBreakIn p s).housing = s.housing := by
  rw [clearPendingBreakIn_frame]; rfl
@[simp] theorem housing_clearActive (p : Port) (s : State) : (clearActive p s).housing = s.housing := by
  rw [clearActive_frame]; rfl
@[simp] theorem housing_setStickyFlags (p : Port) (es : List Evaluation) (s : State) :
    (setStickyFlags p es s).housing = s.housing := rfl
@[simp] theorem housing_breakInCheck (p : Port) (s : State) : (breakInCheck p s).housing = s.housing := by
  rw [breakInCheck_frame]; rfl
@[simp] theorem housing_departed (p : Port) (h : Handle) (s : State) : (departed p h s).housing = s.housing := by
  rw [departed_frame]; rfl
@[simp] theorem housing_withdrawBreakIn (p : Port) (h : Handle) (s : State) :
    (withdrawBreakIn p h s).housing = s.housing := rfl
@[simp] theorem housing_joinQueue (k : SlotNo) (q : Port) (s : State) : (joinQueue k q s).housing = s.housing := by
  rw [joinQueue_frame]; rfl
@[simp] theorem housing_holdFor (k : SlotNo) (r : HoldReason) (p : Option Port) (s : State) :
    (holdFor k r p s).housing = s.housing := rfl
@[simp] theorem housing_holdAndTell (k : SlotNo) (r : HoldReason) (p : Option Port) (s : State) :
    (holdAndTell k r p s).housing = s.housing := by
  rw [holdAndTell_frame]; rfl
@[simp] theorem housing_returnToQueue (k : SlotNo) (p : Port) (s : State) :
    (returnToQueue k p s).housing = s.housing := by
  rw [returnToQueue_frame]; rfl
@[simp] theorem housing_bounce (k : SlotNo) (p : Port) (e : HistoryEvent) (s : State) :
    (bounce k p e s).housing = s.housing := by
  rw [bounce_frame]; rfl
@[simp] theorem housing_handOut (k : SlotNo) (p : Port) (s : State) : (handOut k p s).housing = s.housing := by
  rw [handOut_frame]; rfl
@[simp] theorem housing_retain (h : Handle) (s : State) : (retain h s).housing = s.housing := rfl
@[simp] theorem housing_freeSlot (k : SlotNo) (s : State) : (freeSlot k s).housing = s.housing := by
  rw [freeSlot_frame]; rfl
@[simp] theorem housing_reclaim (k : SlotNo) (s : State) : (reclaim k s).housing = s.housing := by
  rw [reclaim_frame]; rfl
@[simp] theorem housing_closeEntry (p : Port) (s : State) : (closeEntry p s).housing = s.housing := rfl
@[simp] theorem housing_abandonEntry (p : Port) (s : State) : (abandonEntry p s).housing = s.housing := by
  rw [abandonEntry_frame]; rfl
@[simp] theorem housing_becomeVoid (k : SlotNo) (p : Port) (s : State) : (becomeVoid k p s).housing = s.housing := by
  simp [becomeVoid]

/-- A departure leaves the housing where the act does. -/
theorem housing_leaveQueue (p : Port) (h : Handle) {act : State → State}
    (acts : ∀ s, (act s).housing = s.housing) (s : State) : (leaveQueue p h act s).housing = s.housing := by
  obtain ⟨-, e⟩ | ⟨-, ⟨-, e⟩ | ⟨-, e⟩⟩ := leaveQueue_cases p h act s <;> simp [e, recheckAfter, acts]

@[simp] theorem housing_reclaimForSegment (hs : List Handle) (s : State) :
    (reclaimForSegment hs s).housing = s.housing := by
  induction hs generalizing s with
  | nil => rfl
  | cons h hs ih =>
    unfold reclaimForSegment
    split
    · rfl
    · rw [ih, housing_reclaim]

@[simp] theorem housing_takeSegments (n : Nat) (s : State) : (takeSegments n s).housing = s.housing := by
  unfold takeSegments
  split
  · rfl
  · exact housing_reclaimForSegment s.retained s

/-- What an operation leaves of a part, the operation's fold leaves. -/
theorem foldl_keeps {α β : Type} {f : State → α → State} {view : State → β} (step : ∀ s a, view (f s a) = view s)
    (as : List α) (s : State) : view (as.foldl f s) = view s := by
  induction as generalizing s with
  | nil => rfl
  | cons a as ih => exact (ih (f s a)).trans (step s a)

@[simp] theorem housing_reresolveQueued (p : Port) (s : State) (k : SlotNo) :
    (reresolveQueued p s k).housing = s.housing := by
  unfold reresolveQueued
  repeat' split
  all_goals simp

@[simp] theorem housing_releaseUnrouted (p : Port) (s : State) (k : SlotNo) :
    (releaseUnrouted p s k).housing = s.housing := by
  unfold releaseUnrouted
  repeat' split
  all_goals simp

@[simp] theorem housing_handOverMembership (old s : State) (p : Port) :
    (handOverMembership old s p).housing = s.housing := by
  unfold handOverMembership reportQueueReady
  simp only
  repeat' split
  all_goals simp

@[simp] theorem housing_routingEffects (p : Port) (old s : State) : (routingEffects p old s).1.housing = s.housing := by
  unfold routingEffects
  simp only
  rw [foldl_keeps (housing_handOverMembership old), foldl_keeps (housing_releaseUnrouted p),
    foldl_keeps (housing_reresolveQueued p)]
  rfl

/-! ### The ticks and the resets -/

@[simp] theorem housing_takeEntryTick (s : State) : (takeEntryTick s).housing = s.housing := by
  rw [takeEntryTick_frame]; rfl
@[simp] theorem housing_takeLeaseTick (slots : List SlotNo) (s : State) : (takeLeaseTick slots s).housing = s.housing := by
  rw [takeLeaseTick_frame]; rfl
@[simp] theorem housing_takeDeadlineTick (leases : List SlotNo) (s : State) :
    (takeDeadlineTick leases s).housing = s.housing := by
  rw [takeDeadlineTick_frame]; rfl
@[simp] theorem housing_takeTicksAt (leases : List SlotNo) (s : State) : (takeTicksAt leases s).housing = s.housing := by
  rw [takeTicksAt_frame]; rfl

@[simp] theorem housing_takeTicks (s : State) : (takeTicks s).housing = s.housing := housing_takeTicksAt allSlots s

@[simp] theorem housing_ticksBefore (c : Instr) (s : State) : (ticksBefore c s).housing = s.housing := by
  unfold ticksBefore
  split
  · next p h token =>
    obtain e | ⟨k, -, -, e⟩ := ticksBeforeBreakin_cases p (nextBreakin p h token) s <;> simp [e]
  · exact housing_takeTicks s

@[simp] theorem housing_returnAtReset (p : Port) (s : State) (h : Handle) :
    (returnAtReset p s h).housing = s.housing := by
  simp [returnAtReset]

@[simp] theorem housing_raiseLink (p : Port) (s : State) : (raiseLink p s).housing = s.housing := by
  unfold raiseLink
  split
  · rfl
  · exact housing_routingEffects p s (setLink p true s)

@[simp] theorem housing_returnHandoffs (p : Port) (s : State) : (returnHandoffs p s).housing = s.housing := by
  simp only [returnHandoffs, housing_settleFences]
  rw [foldl_keeps (housing_returnAtReset p)]
  rfl

/-- A port reset changes the housing at its own port alone. -/
theorem housing_resetPort (p : Port) (s : State) :
    (resetPort p s).housing = (s.modPort p (fun x => { resetStationPort x with resetLine := true })).housing := by
  unfold resetPort
  simp only
  refine (housing_returnHandoffs p _).trans ((housing_raiseLink p _).trans ?_)
  exact housing_abandonEntry p _

theorem housing_abandonEntries (s : State) : (abandonEntries s).housing = s.housing :=
  foldl_keeps (fun s p => housing_abandonEntry p s) allPorts s

/-! ### The requests -/

theorem housing_creditDuplicate (k : SlotNo) (c : Class) (s : State) : (creditDuplicate k c s).housing = s.housing := by
  unfold creditDuplicate
  simp only
  repeat' split
  all_goals simp

theorem housing_place (p : Port) (k : SlotNo) (s : State) : (place p k s).housing = s.housing := by
  unfold place
  repeat' split
  all_goals simp

theorem housing_makeRoom (s : State) : (makeRoom s).housing = s.housing := by
  unfold makeRoom
  repeat' split
  all_goals simp

theorem housing_refreshEntry (p : Port) (k : SlotNo) (s : State) : (refreshEntry p k s).housing = s.housing := by
  unfold refreshEntry
  repeat' split
  all_goals simp

theorem housing_applyReport (k : SlotNo) (p : Port) (r : Report) (s : State) :
    (applyReport k p r s).housing = s.housing := by
  cases r <;> simp [applyReport, dispositionOf, refusalHold]

theorem housing_switchEnable (p : Port) (on : Bool) (s : State) : (switchEnable p on s).housing = s.housing := by
  unfold switchEnable setEnable
  repeat' split
  all_goals simp

theorem housing_suspend (k : SlotNo) (p : Port) (a : Handoff) (m : Message) (s : State) :
    (suspend k p a m s).housing = s.housing := by
  simp [suspend]

theorem housing_holdMessage (k : SlotNo) (p : Port) (s : State) : (holdMessage k p s).housing = s.housing := by
  unfold holdMessage
  simp only [housing_notifyWatchers, housing_modRecord]
  split <;> simp

theorem housing_releaseMessage (k : SlotNo) (p : Port) (m : Message) (s : State) :
    (releaseMessage k p m s).2.housing = s.housing := by
  unfold releaseMessage holdAgain
  simp only
  repeat' split
  all_goals simp

theorem housing_voidMessage (k : SlotNo) (p : Port) (m : Message) (s : State) :
    (voidMessage k p m s).housing = s.housing := by
  unfold voidMessage revokeRecord
  simp only
  repeat' split
  all_goals first | exact housing_leaveQueue _ _ (housing_becomeVoid k p) s | simp

theorem housing_amendClass (k : SlotNo) (c : Class) (m : Message) (s : State) :
    (amendClass k c m s).housing = s.housing := by
  unfold amendClass
  simp only
  repeat' split
  all_goals simp

theorem housing_amendMessage (k : SlotNo) (f : AmendFields) (m : Message) (s : State) :
    (amendMessage k f m s).housing = s.housing := by
  unfold amendMessage
  simp only
  repeat' split
  all_goals simp [housing_amendClass]

/-- No block writes the housing. -/
theorem BlockEffect.housing {s t : State} {c : Instr} (effect : BlockEffect s c t) : t.housing = s.housing := by
  cases effect with
  | refresh p k => exact housing_refreshEntry p k s
  | enterBegin p f hd k => exact housing_makeRoom s
  | append p k m chars => simp [appendAccepted, Machine.answer]
  | duplicate p k j m => simp [housing_creditDuplicate]
  | accept p k m => exact housing_place p k _
  | cancel p k m => simp
  | purge k m => simp
  | reroute p s₁ update =>
    rw [housing_routingEffects]
    cases update <;> rfl
  | next p e es => simp
  | dispose p k m d mark record handed r => simp [housing_applyReport]
  | enable p on => exact housing_switchEnable p on s
  | suspend p h named token m e es => simp [housing_suspend]
  | pop p r rest => simp [popRecord]
  | resume p r rest => simp [resumeRecord, popRecord]
  | hold p k m => exact housing_holdMessage k p s
  | release p k m r => exact housing_releaseMessage k p m s
  | void p k m => exact housing_voidMessage k p m s
  | amend k f m => exact housing_amendMessage k f m s
  | note k m chars => simp
  | _ => rfl

/-- No block writes the housing. -/
theorem housing_blockAct (c : Instr) (s : State) : (blockAct c s).2.housing = s.housing := by
  obtain still | ⟨-, effect⟩ := blockAct_outcome c s
  · rw [still]
  · exact effect.housing

/-! ### The obligations about all commands -/

/-- Settles O1: a step takes the head of the queue. -/
theorem stepTakesFrontCommand : Obligations.StepTakesFrontCommand := fun _ _ _ => rfl

/-- An event leaves the commands that wait. -/
theorem eventEffect_pending (c : Instr) (s : State) : (eventEffect c s).pending = s.pending := by
  have same {t u : State} (housing : t.housing = u.housing) : t.pending = u.pending := congrArg Housing.pending housing
  cases c with
  | selectFall p => change (beginExchange p s).pending = _; unfold beginExchange; split <;> rfl
  | exchange p bytes extraBits => change (endExchange p bytes s).pending = _; unfold endExchange; split <;> rfl
  | tick => change (tickOnce s).pending = _; unfold tickOnce; split; exacts [(show (takeTicks s).pending = s.pending from same (housing_takeTicks s)), rfl]
  | entryIdleTimeout => exact same (housing_takeEntryTick s)
  | leaseExpiry => exact same (housing_takeLeaseTick allSlots s)
  | deliveryDeadlineExpiry => exact same (housing_takeDeadlineTick allSlots s)
  | portReset p =>
    change (assertPortReset p s).pending = _
    unfold assertPortReset
    split
    · rfl
    · exact (same (housing_resetPort p _)).trans
        (show (takeTicks s).pending = s.pending from same (housing_takeTicks s))
  | warmReset straps =>
    change (assertDeviceReset straps s).pending = _
    unfold assertDeviceReset
    split
    · rfl
    · exact (same (housing_abandonEntries (takeTicks s))).trans (same (housing_takeTicks s))
  | supplyBelowWorkingLevel seen => cases seen <;> rfl
  | _ => rfl

/-- Settles O2: of the three things that a command can do each gives a next state, and none writes the commands that wait. -/
theorem everyCommandIsTaken : Obligations.EveryCommandIsTaken := by
  refine ⟨fun c s => ?taken, fun s none => ?idles⟩
  case taken =>
    obtain still | ⟨p, rq, -, -, acted⟩ | ⟨-, event⟩ := exec_cases c s
    · exact ⟨s, still, rfl⟩
    · exact ⟨_, acted, congrArg Housing.pending ((housing_blockAct c _).trans (housing_ticksBefore c s))⟩
    · exact ⟨_, event, eventEffect_pending c s⟩
  case idles => rw [step, none]

/-- The port of a command that is a request is the port it names. -/
theorem commandPort_of_frame {c : Instr} {f : RequestFrame} (frame : requestFrame c = some f) :
    commandPort c = some f.port := by
  cases c <;> cases frame <;> rfl

/-- An event of one port leaves every other port. -/
theorem eventEffect_otherPort {c : Instr} {q p : Port} (frame : requestFrame c = none) (port : commandPort c = some q)
    (other : p ≠ q) (s : State) : (eventEffect c s).port p = s.port p := by
  have apart : q ≠ p := other.symm
  cases c
  case selectFall r =>
    cases port
    change (beginExchange q s).port p = _
    unfold beginExchange
    split
    · rw [State.port_modPort, if_neg apart]
    · rfl
  case exchange r bytes extraBits =>
    cases port
    change (endExchange q bytes s).port p = _
    unfold endExchange
    split
    · rfl
    · rw [State.port_modPort, if_neg apart]
  case portReset r =>
    cases port
    change (assertPortReset q s).port p = _
    unfold assertPortReset
    split
    · rfl
    · have ports : (resetPort q (takeTicks s)).ports = _ := congrArg Housing.ports (housing_resetPort q (takeTicks s))
      have before : (takeTicks s).port p = s.port p := congrArg (fun h => h.ports.get p) (housing_takeTicks s)
      rw [State.port, ports, ← before]
      exact (State.port_modPort _ _ _ _).trans (if_neg apart)
  case portResetLineRelease r =>
    cases port
    exact (State.port_modPort _ _ _ _).trans (if_neg apart)
  all_goals first | (cases port; done) | cases frame

/-- Settles O11: a block writes no port, its response is held at the port of the request, and an event of one port writes
that port alone. -/
theorem commandsLeaveOtherPorts : Obligations.CommandsLeaveOtherPorts := by
  intro c s t q p port other next
  obtain still | ⟨r, rq, -, working, acted⟩ | ⟨frame, event⟩ := exec_cases c s
  · rw [still, Host.Outcome.next.injEq] at next
    rw [next]
  · obtain ⟨f, frame, rfl⟩ := State.frame_of_inProgress working
    rw [commandPort_of_frame frame, Option.some.injEq] at port
    rw [acted, Host.Outcome.next.injEq] at next
    have blocks : (blockAct c (ticksBefore c s)).2.port p = s.port p :=
      congrArg (fun h => h.ports.get p) ((housing_blockAct c _).trans (housing_ticksBefore c s))
    rw [← next, holdResponse, State.port_modPort, if_neg (fun same => other (same.symm.trans port)), blocks]
  · rw [event, Host.Outcome.next.injEq] at next
    rw [← next, eventEffect_otherPort frame port other]

/-- Settles O54: the state after a cold reset is written down place by place. -/
theorem coldResetEmptiesThePart : Obligations.ColdResetEmptiesThePart := by
  intro straps lines s
  have place {α : Type} {n : Nat} (a : α) (i : Fin n) : (Vector.replicate n a).get i = a := by
    simp [Vector.get_eq_getElem]
  refine ⟨_, rfl, fun k => place _ k, rfl, rfl, rfl, fun p => get_vzip _ _ _ p, fun p => place _ p, fun i => place _ i,
    rfl, fun p => ⟨place _ p, place _ p⟩, rfl, fun p => ⟨place _ p, place _ p, place _ p⟩, rfl, rfl, rfl, rfl, rfl, rfl,
    rfl, rfl, rfl, rfl⟩

end Sys2Proof.Machine
end

section
/-! How the fields of a request are read (R192), and the obligations about the checks that come before a request acts: the
handle check (R5) and the reservation to CONTROL ports (R143). -/

namespace Sys2Proof.Machine

/-! ### The fields -/

/-- A port byte in range reads as that port (R192). -/
theorem readPort_eq_some {b : Byte} {q : Port} (code : b.toNat = q.val) : readPort b = some q := by
  have inRange : b.toNat < 4 := code ▸ q.isLt
  simp only [readPort, inRange, dif_pos, Option.some.injEq]
  exact Fin.ext code

/-- A port byte above 3 is no port (R192). -/
theorem readPort_eq_none {b : Byte} (high : 3 < b.toNat) : readPort b = none :=
  dif_neg (Nat.not_lt.mpr high)

/-- A class byte reads as the class with that code (R192). -/
theorem readClass_eq_some_iff {b : Byte} {c : Class} : readClass b = some c ↔ c.code = b.toNat := by
  unfold readClass
  cases c <;> simp only [Class.code] <;> repeat' split
  all_goals
    simp only [Option.some.injEq, reduceCtorEq, false_iff, true_iff]
    omega

/-- A class byte above 3 is no class, and any other is one (R192). -/
theorem readClass_eq_none_iff {b : Byte} : readClass b = none ↔ 3 < b.toNat := by
  unfold readClass
  repeat' split
  all_goals
    simp only [reduceCtorEq, false_iff, true_iff]
    omega

/-- A yes/no byte is one of two values (R192). -/
theorem readFlag_of_le {b : Byte} (inRange : b.toNat ≤ 1) : ∃ on, readFlag b = some on := by
  obtain off | on : b.toNat = 0 ∨ b.toNat = 1 := by omega
  · exact ⟨false, readFlag_eq_some off⟩
  · exact ⟨true, readFlag_eq_some on⟩

/-- A byte of a response that holds a byte is that byte. -/
@[simp] theorem be1_toNat (b : Byte) : be1 b.toNat = [b] := by simp [be1]

/-- The incarnation that a request gives is current where its four bits are (R192). -/
theorem incarnation_eq_iff {h : HandleField} {inc : BitVec 4} :
    HandleField.incarnation h = inc ↔ h.inc.toNat % 16 = inc.toNat := by
  simp [HandleField.incarnation, ← BitVec.toNat_inj]

/-- A slot above 191 is none (R5). -/
theorem slotNo_eq_none {h : HandleField} (high : 191 < h.slot.toNat) : HandleField.slotNo h = none :=
  dif_neg (Nat.not_lt.mpr high)

/-! ### The handle check (R5) -/

section
variable {h : HandleField} {act : SlotNo → State → Reply × State} {s : State}

theorem withHandle_of_high (high : 191 < h.slot.toNat) : withHandle h act s = refuse .badField s := by
  rw [withHandle, slotNo_eq_none high]

theorem withHandle_of_stale {k : SlotNo} (slot : h.slot.toNat = k.val)
    (stale : h.inc.toNat % 16 ≠ (s.slot k).inc.toNat) : withHandle h act s = refuse .staleHandle s := by
  rw [withHandle_of_slot slot, if_neg (mt incarnation_eq_iff.mp stale)]

theorem withHandle_of_names {k : SlotNo} (names : Names h k s) : withHandle h act s = act k s := by
  rw [withHandle_of_slot names.1, if_pos (incarnation_eq_iff.mpr names.2)]

end

/-- A request with a handle above slot 191 is BAD-FIELD at its block. -/
theorem blockAct_of_high {c : Instr} {f : RequestFrame} {h : HandleField} {s : State} (frame : requestFrame c = some f)
    (checked : checkedHandle c = some h) (control : reserved c = true → (s.port f.port).control = true)
    (high : 191 < h.slot.toNat) : blockAct c s = refuse .badField s := by
  cases c
  case readHeader | readHistory | appendText | enterEnd | enterCancel =>
    cases checked
    simp only [blockAct, readHeader, readHistory, readRecord, appendText, enterEnd, enterCancel, onOwnEntry,
      withHandle_of_high high]
  case readText p _ index | readNotes p _ index =>
    cases checked
    simp only [blockAct, readText, readNotes, readRecord, withHandle_of_high high, ite_self]
  case purge | hold | release | void | addNote =>
    cases checked
    cases frame
    simp only [blockAct, purge, hold, release, void, addNote, controlOnly_of_control (control rfl),
      withHandle_of_high high]
  case amend p fields =>
    cases checked
    cases frame
    simp only [blockAct, amend, controlOnly_of_control (control rfl), withHandle_of_high high, ite_self]
  case watch p _ value =>
    cases checked
    change watch p h value s = _
    unfold watch
    split
    · rfl
    · exact withHandle_of_high high
  all_goals cases checked

/-- A request with a handle that is not current is STALE-HANDLE at its block, once the fields before it are good. -/
theorem blockAct_of_stale {c : Instr} {f : RequestFrame} {h : HandleField} {k : SlotNo} {s : State}
    (frame : requestFrame c = some f) (checked : checkedHandle c = some h)
    (control : reserved c = true → (s.port f.port).control = true) (slot : h.slot.toNat = k.val)
    (stale : h.inc.toNat % 16 ≠ (s.slot k).inc.toNat) (text : ∀ i, c = .readText f.port h i → i.toNat ≤ 63)
    (notes : ∀ i, c = .readNotes f.port h i → i.toNat ≤ 3) (flag : ∀ v, c = .watch f.port h v → v.toNat ≤ 1)
    (amended : ∀ g, c = .amend f.port g → (g.presence.getLsbD 0 = true ∨ g.presence.getLsbD 1 = true)
      ∧ (g.presence.getLsbD 0 = true → g.klass.toNat ≤ 3)) : blockAct c s = refuse .staleHandle s := by
  cases c
  case readHeader | readHistory | appendText | enterEnd | enterCancel =>
    cases checked
    simp only [blockAct, readHeader, readHistory, readRecord, appendText, enterEnd, enterCancel, onOwnEntry,
      withHandle_of_stale slot stale]
  case readText p _ index =>
    cases checked
    cases frame
    simp only [blockAct, readText, readRecord, if_neg (Nat.not_lt.mpr (text index rfl)), withHandle_of_stale slot stale]
  case readNotes p _ index =>
    cases checked
    cases frame
    simp only [blockAct, readNotes, readRecord, if_neg (Nat.not_lt.mpr (notes index rfl)), withHandle_of_stale slot stale]
  case purge | hold | release | void | addNote =>
    cases checked
    cases frame
    simp only [blockAct, purge, hold, release, void, addNote, controlOnly_of_control (control rfl),
      withHandle_of_stale slot stale]
  case amend p fields =>
    cases checked
    cases frame
    obtain ⟨present, classInRange⟩ := amended fields rfl
    simp only [blockAct, amend, controlOnly_of_control (control rfl), withHandle_of_stale slot stale]
    refine if_neg ?_
    rintro (⟨noClass, noAdjust⟩ | ⟨hasClass, noneRead⟩)
    · obtain given | given := present
      · exact Bool.false_ne_true (noClass.symm.trans given)
      · exact Bool.false_ne_true (noAdjust.symm.trans given)
    · exact absurd (readClass_eq_none_iff.mp noneRead) (Nat.not_lt.mpr (classInRange hasClass))
  case watch p _ value =>
    cases checked
    cases frame
    obtain ⟨on, read⟩ := readFlag_of_le (flag value rfl)
    change watch p h value s = _
    rw [watch, read]
    exact withHandle_of_stale slot stale
  all_goals cases checked

/-- Settles O9: in each request with a handle the check of R5 is what the block does first, but for the fields named. -/
theorem handleCheckComesFirst : Obligations.HandleCheckComesFirst := by
  intro c p rq s h serving checked control
  obtain ⟨f, frame, rfl⟩ := State.frame_of_inProgress serving.2.1
  exact ⟨fun high => exec_of_refusal serving (blockAct_of_high frame checked control high),
    fun k slot stale text notes flag amended => exec_of_refusal serving
      (blockAct_of_stale frame checked control slot stale text notes flag amended)⟩

/-! ### The reservation to CONTROL ports (R143) -/

/-- Every request reserved by its first condition is behind the check for CONTROL. -/
theorem blockAct_of_not_control {c : Instr} {f : RequestFrame} {s : State} (frame : requestFrame c = some f)
    (control : (s.port f.port).control = false) (needs : reserved c = true) :
    blockAct c s = refuse .notControl s := by
  cases c
  case hold | release | void | amend | addNote | purge | routeSet | routeClear | defaultRoute | configure =>
    cases frame
    simp only [blockAct, hold, release, void, amend, addNote, purge, routeSet, routeClear, defaultRoute, configure,
      controlOnly_of_not_control control]
  all_goals cases needs

/-- Settles O10: a reserved request is behind the check for CONTROL, and LINK-STATE makes that check for another port. -/
theorem reservedRequestsNeedControl : Obligations.ReservedRequestsNeedControl := by
  intro c p rq s serving noControl
  refine ⟨fun needs => ?reserved, fun port state link portInRange stateInRange other => ?otherPort⟩
  case reserved =>
    obtain ⟨f, frame, rfl⟩ := State.frame_of_inProgress serving.2.1
    exact exec_of_refusal serving (blockAct_of_not_control frame noControl needs)
  case otherPort =>
    subst link
    obtain ⟨up, flag⟩ := readFlag_of_le stateInRange
    have read : readPort port = some ⟨port.toNat, Nat.lt_succ_of_le portInRange⟩ := readPort_eq_some rfl
    refine exec_of_refusal serving ?_
    change linkState p port state s = _
    simp only [linkState, read, flag]
    exact if_pos ⟨fun same => other (congrArg Fin.val same), noControl⟩

end Sys2Proof.Machine
end

section
/-! The station ports: the exchange (R171 to R177) and the frames that carry requests (R190), with their obligations. -/

namespace Sys2Proof.Machine

/-- The exchange state that an IDLE port takes from the bytes that arrived (R176). -/
def Judgement.taken : Judgement → ExchangeState
  | .noRequest => .idle
  | .answered r => .ready r
  | .request rq => .working rq

/-- An IDLE port takes what arrived (R176). -/
theorem takeFrame_of_idle {x : StationPort} (idle : x.exchangeState = .idle) (j : Judgement) :
    takeFrame j x = { x with exchangeState := j.taken } := by
  cases j <;> simp only [takeFrame, idle, if_true, Judgement.taken]
  rw [← idle]

/-- Any other port discards it, with REQUEST-OVERRUN set (R177). -/
theorem takeFrame_of_not_idle {x : StationPort} (busy : x.exchangeState ≠ .idle) (j : Judgement) :
    takeFrame j x = { x with requestOverrun := x.requestOverrun || decide (j ≠ .noRequest) } := by
  cases j <;> simp [takeFrame, busy]

/-- Settles O5: delivery makes a port IDLE exactly where the held response went out whole, and an IDLE port takes what
arrived where any other discards it. -/
theorem exchangeDeliversThenTakes : Obligations.ExchangeDeliversThenTakes := by
  intro p bytes extraBits s e supply
  have exec_eq : exec (.exchange p bytes extraBits) s = .next (endExchange p bytes s) :=
    whenPowered_of_supply supply (endExchange p bytes)
  refine ⟨fun none => ?still, fun some => ?ends⟩
  case still => rw [exec_eq, endExchange, none]
  case ends =>
    intro arrives taken
    have takenEq : (judge bytes).taken = taken := rfl
    rw [exec_eq, endExchange, some]
    refine congrArg (fun f => Host.Outcome.next (s.modPort p f)) (funext fun x => ?_)
    cases state : x.exchangeState with
    | idle => simp only [judgeDelivery, state, takeFrame_of_idle state, takenEq, shiftedOut]
    | working rq =>
      have busy : x.exchangeState ≠ .idle := by simp [state]
      simp only [judgeDelivery, state, takeFrame_of_not_idle busy, shiftedOut, arrives]
    | ready r =>
      have busy : x.exchangeState ≠ .idle := by simp [state]
      by_cases whole : e.choice = .held ∧ e.frame.length ≤ bytes.length
      · simp only [judgeDelivery, state, if_pos whole]
        rw [takeFrame_of_idle rfl, takenEq]
        rfl
      · simp only [judgeDelivery, state, if_neg whole, takeFrame_of_not_idle busy, shiftedOut, arrives]

end Sys2Proof.Machine
end

section
/-! The frames that carry requests: every well-formed request's frame is judged that request (R175, R191), and the frame
spells the request's fields without loss (R190). -/

namespace Sys2Proof.Machine

/-! ### From the frame to the block -/

/-- The frame of every well-formed request fits the limits of R190 and R191. -/
theorem requestFrame_fits (c : Instr) : Laws.FrameFits.Statement c := by
  cases c with
  | nop p => exact Laws.FrameFits.nop p
  | clockRead p => exact Laws.FrameFits.clockRead p
  | readHeader p h => exact Laws.FrameFits.readHeader p h
  | readText p h index => exact Laws.FrameFits.readText p h index
  | readNotes p h index => exact Laws.FrameFits.readNotes p h index
  | readHistory p h => exact Laws.FrameFits.readHistory p h
  | find p station serial day => exact Laws.FrameFits.find p station serial day
  | enterBegin p fields => exact Laws.FrameFits.enterBegin p fields
  | appendText p h chars => exact Laws.FrameFits.appendText p h chars
  | enterEnd p h => exact Laws.FrameFits.enterEnd p h
  | enterCancel p h => exact Laws.FrameFits.enterCancel p h
  | purge p h => exact Laws.FrameFits.purge p h
  | storeStatus p => exact Laws.FrameFits.storeStatus p
  | routeSet p index first last port => exact Laws.FrameFits.routeSet p index first last port
  | routeClear p index => exact Laws.FrameFits.routeClear p index
  | routeRead p start area => exact Laws.FrameFits.routeRead p start area
  | defaultRoute p port => exact Laws.FrameFits.defaultRoute p port
  | linkState p port state => exact Laws.FrameFits.linkState p port state
  | fence p => exact Laws.FrameFits.fence p
  | configure p fields => exact Laws.FrameFits.configure p fields
  | configRead p => exact Laws.FrameFits.configRead p
  | queueList p queue rank => exact Laws.FrameFits.queueList p queue rank
  | next p => exact Laws.FrameFits.next p
  | extend p h token => exact Laws.FrameFits.extend p h token
  | dispose p fields => exact Laws.FrameFits.dispose p fields
  | breakinEnable p value => exact Laws.FrameFits.breakinEnable p value
  | nextBreakin p h token => exact Laws.FrameFits.nextBreakin p h token
  | resume p h token => exact Laws.FrameFits.resume p h token
  | portStatus p port => exact Laws.FrameFits.portStatus p port
  | hold p h => exact Laws.FrameFits.hold p h
  | release p h => exact Laws.FrameFits.release p h
  | void p h => exact Laws.FrameFits.void p h
  | amend p fields => exact Laws.FrameFits.amend p fields
  | addNote p h chars => exact Laws.FrameFits.addNote p h chars
  | watch p h value => exact Laws.FrameFits.watch p h value
  | notices p => exact Laws.FrameFits.notices p
  | _ => exact Laws.FrameFits.of_no_frame rfl

/-- The bytes of a frame that fits are judged the request, whatever is clocked after it. -/
theorem judge_frame {code tag : Byte} {payload after : List Byte} {lo hi : Nat} (request : code ≠ 0)
    (short : payload.length ≤ 60) (accepted : acceptedLength code = some (lo, hi)) (atLeast : lo ≤ payload.length)
    (atMost : payload.length ≤ hi) :
    judge ([code, tag, BitVec.ofNat 8 payload.length] ++ payload ++ after)
      = .request { code := code, tag := tag, payload := payload } := by
  have len : (BitVec.ofNat 8 payload.length).toNat = payload.length := by
    rw [BitVec.toNat_ofNat]
    omega
  have bytes : [code, tag, BitVec.ofNat 8 payload.length] ++ payload ++ after
      = code :: tag :: BitVec.ofNat 8 payload.length :: (payload ++ after) := by simp
  rw [bytes, judge_of_known_code request (len.trans_le short) (by simp [len]) accepted, len, if_pos ⟨atLeast, atMost⟩,
    List.take_left]

/-- A port takes what an exchange brings it: at the rise of select an IDLE port is WORKING on the request judged. -/
theorem endExchange_takes {p : Port} {bytes : List Byte} {s : State} {e : Exchange} {rq : Request}
    (exchange : (s.port p).exchange = some e) (idle : (s.port p).exchangeState = .idle)
    (judged : judge bytes = .request rq) : ((endExchange p bytes s).port p).exchangeState = .working rq := by
  simp only [endExchange, exchange, State.port_modPort_same, judgeDelivery, idle, takeFrame_of_idle idle, judged,
    Judgement.taken]

/-- Settles O6: the frame fits its code's lengths, so it is judged the request, which the IDLE port takes. -/
theorem requestFramesReachTheirBlock : Obligations.RequestFramesReachTheirBlock := by
  intro c f tag after wellFormed frame bytes
  obtain ⟨request, short, lo, hi, accepted, atLeast, atMost⟩ := requestFrame_fits c wellFormed f frame
  have judged : judge bytes = _ := judge_frame request short accepted atLeast atMost
  refine ⟨judged, fun s e extraBits supply idle exchange =>
    ⟨endExchange f.port bytes s, whenPowered_of_supply supply (endExchange f.port bytes), ?supply, ?working⟩⟩
  case supply =>
    unfold endExchange
    split <;> exact supply
  case working =>
    exact State.inProgress_eq_some.mpr ⟨f, frame, rfl, endExchange_takes exchange idle judged, rfl, rfl⟩

/-! ### From the frame back to the request -/

/-- The handle that stands at the start of a payload. -/
def handleAt (b : List Byte) : HandleField := { slot := b.getD 0 0, inc := b.getD 1 0 }

/-- The two-byte number at place n of a payload. -/
def halfAt (b : List Byte) (n : Nat) : Half := b.getD n 0 ++ b.getD (n + 1) 0

/-- The station at place n of a payload. -/
def stationAt (b : List Byte) (n : Nat) : StationField := Vector.ofFn fun i => b.getD (n + i.val) 0

/-- The request that a frame spells, by its code (R190). -/
def frameCommand (f : RequestFrame) : Option Instr :=
  let p := f.port
  let b := f.payload
  let byte := fun n => b.getD n 0
  match f.code.toNat with
  | 0x01 => some (.nop p)
  | 0x02 => some (.clockRead p)
  | 0x10 => some (.readHeader p (handleAt b))
  | 0x11 => some (.readText p (handleAt b) (byte 2))
  | 0x12 => some (.readNotes p (handleAt b) (byte 2))
  | 0x13 => some (.readHistory p (handleAt b))
  | 0x14 => some (.find p (stationAt b 0) (halfAt b 8) (halfAt b 10))
  | 0x20 => some (.enterBegin p
      { klass := byte 0, station := stationAt b 1, serial := halfAt b 9, day := halfAt b 11, hour := byte 13
        minute := byte 14, area := halfAt b 15, check := halfAt b 17, deadline := halfAt b 19 })
  | 0x21 => some (.appendText p (handleAt b) (b.drop 2))
  | 0x22 => some (.enterEnd p (handleAt b))
  | 0x23 => some (.enterCancel p (handleAt b))
  | 0x28 => some (.purge p (handleAt b))
  | 0x29 => some (.storeStatus p)
  | 0x30 => some (.routeSet p (byte 0) (halfAt b 1) (halfAt b 3) (byte 5))
  | 0x31 => some (.routeClear p (byte 0))
  | 0x32 => some (.routeRead p (byte 0) (halfAt b 1))
  | 0x33 => some (.defaultRoute p (byte 0))
  | 0x34 => some (.linkState p (byte 0) (byte 1))
  | 0x35 => some (.fence p)
  | 0x38 => some (.configure p
      { mask := byte 0, weightImmediate := byte 1, weightUrgent := byte 2, weightWelfare := byte 3
        weightRoutine := byte 4, shift := byte 5, penalty := halfAt b 6, lease := halfAt b 8 })
  | 0x39 => some (.configRead p)
  | 0x40 => some (.queueList p (byte 0) (byte 1))
  | 0x41 => some (.next p)
  | 0x42 => some (.extend p (handleAt b) (byte 2))
  | 0x43 => some (.dispose p
      { handle := handleAt b, token := byte 2, outcome := byte 3, station := stationAt b 4, serial := halfAt b 12 })
  | 0x48 => some (.breakinEnable p (byte 0))
  | 0x49 => some (.nextBreakin p (handleAt b) (byte 2))
  | 0x4A => some (.resume p (handleAt b) (byte 2))
  | 0x4B => some (.portStatus p (byte 0))
  | 0x50 => some (.hold p (handleAt b))
  | 0x51 => some (.release p (handleAt b))
  | 0x52 => some (.void p (handleAt b))
  | 0x53 => some (.amend p { handle := handleAt b, presence := byte 2, klass := byte 3, adjust := halfAt b 4 })
  | 0x54 => some (.addNote p (handleAt b) (b.drop 2))
  | 0x58 => some (.watch p (handleAt b) (byte 2))
  | 0x59 => some (.notices p)
  | _ => none

/-- The two bytes of a number spell it. -/
theorem halfBytes_spell (h : Half) : (BitVec.ofNat 8 (h.toNat / 256) : Byte) ++ (BitVec.ofNat 8 h.toNat : Byte) = h := by
  apply BitVec.eq_of_toNat_eq
  have := h.isLt
  rw [BitVec.toNat_append, BitVec.toNat_ofNat, BitVec.toNat_ofNat, ← Nat.shiftLeft_add_eq_or_of_lt (by omega),
    Nat.shiftLeft_eq]
  omega

/-- A number in a payload is the one whose bytes stand at its place. -/
theorem halfAt_eq {b : List Byte} {n : Nat} {h : Half} (high : b.getD n 0 = BitVec.ofNat 8 (h.toNat / 256))
    (low : b.getD (n + 1) 0 = BitVec.ofNat 8 h.toNat) : halfAt b n = h := by
  rw [halfAt, high, low, halfBytes_spell]

/-- The eight bytes of a station behind n bytes spell it. -/
theorem stationAt_append (before after : List Byte) (v : StationField) :
    stationAt (before ++ v.toList ++ after) before.length = v := by
  apply vector_ext
  intro i
  simp [stationAt, Vector.get_eq_getElem, List.getD_eq_getElem?_getD, List.getElem?_append_right,
    List.getElem?_append_left]

/-- A frame spells the request that it carries (R190). -/
theorem frameCommand_of_requestFrame {c : Instr} {f : RequestFrame} (frame : requestFrame c = some f) :
    frameCommand f = some c := by
  cases c <;> cases frame
  case find p station serial day =>
    refine congrArg some ?_
    simp only [Instr.find.injEq, true_and]
    refine ⟨?station, halfAt_eq (by simp [halfBytes, be2]) (by simp [halfBytes, be2]), halfAt_eq (by simp [halfBytes, be2]) (by simp [halfBytes, be2])⟩
    case station => simpa using stationAt_append [] (halfBytes serial ++ halfBytes day) station
  case enterBegin p g =>
    refine congrArg (fun x => some (Instr.enterBegin p x)) ?_
    cases g with
    | mk klass station serial day hour minute area check deadline =>
      simp only [EnterBeginFields.mk.injEq]
      refine ⟨rfl, ?station, halfAt_eq (by simp [EnterBeginFields.bytes, halfBytes, be2]) (by simp [EnterBeginFields.bytes, halfBytes, be2]), halfAt_eq (by simp [EnterBeginFields.bytes, halfBytes, be2]) (by simp [EnterBeginFields.bytes, halfBytes, be2]),
        by simp [EnterBeginFields.bytes, halfBytes, be2], by simp [EnterBeginFields.bytes, halfBytes, be2],
        halfAt_eq (by simp [EnterBeginFields.bytes, halfBytes, be2]) (by simp [EnterBeginFields.bytes, halfBytes, be2]), halfAt_eq (by simp [EnterBeginFields.bytes, halfBytes, be2]) (by simp [EnterBeginFields.bytes, halfBytes, be2]),
        halfAt_eq (by simp [EnterBeginFields.bytes, halfBytes, be2]) (by simp [EnterBeginFields.bytes, halfBytes, be2])⟩
      case station => simpa [EnterBeginFields.bytes] using stationAt_append [klass] _ station
  case dispose p g =>
    refine congrArg (fun x => some (Instr.dispose p x)) ?_
    cases g with
    | mk handle token outcome station serial =>
      simp only [DisposeFields.mk.injEq]
      refine ⟨rfl, rfl, rfl, ?station, halfAt_eq (by simp [DisposeFields.bytes, HandleField.bytes, halfBytes, be2])
        (by simp [DisposeFields.bytes, HandleField.bytes, halfBytes, be2])⟩
      case station =>
        simpa [DisposeFields.bytes, HandleField.bytes] using
          stationAt_append (HandleField.bytes handle ++ [token, outcome]) (halfBytes serial) station
  case routeSet p index first last port =>
    exact congrArg₂ (fun a b => some (Instr.routeSet p index a b port)) (halfBytes_spell first) (halfBytes_spell last)
  case routeRead p start area => exact congrArg (fun a => some (Instr.routeRead p start a)) (halfBytes_spell area)
  case configure p g =>
    exact congrArg₂ (fun a b => some (Instr.configure p { g with penalty := a, lease := b })) (halfBytes_spell g.penalty)
      (halfBytes_spell g.lease)
  case amend p g =>
    exact congrArg (fun a => some (Instr.amend p { g with adjust := a })) (halfBytes_spell g.adjust)
  all_goals rfl

/-- Settles O7: the frame spells the request, so one frame spells one request. -/
theorem requestFramesTellCommandsApart : Obligations.RequestFramesTellCommandsApart := by
  intro c d f ofC ofD
  exact Option.some.inj ((frameCommand_of_requestFrame ofC).symm.trans (frameCommand_of_requestFrame ofD))

end Sys2Proof.Machine
end

section
/-! The requests that report and the ones that set a piece of state of their own: the status reads (R61, R73, R95, R138), the
reads of a record (R18 to R22), FENCE (R79), CONFIGURE (R92), QUEUE-LIST (R101), WATCH (R159), with their obligations. -/

namespace Sys2Proof.Machine

/-! ### The status reads and FENCE -/

/-- A retained record is one that is DISPOSED or VOID (R51). -/
theorem Message.retainedRecord_eq (m : Message) :
    m.retainedRecord = decide (m.custody.name = .disposed ∨ m.custody.name = .void) := by
  unfold Message.retainedRecord
  cases m.custody <;> rfl

/-- A stack record of PORT-STATUS in the statement's spelling (R138). -/
theorem suspensionBytes_eq (r : Suspension) :
    suspensionBytes r =
      handleBytes (some r.handle) ++ ([r.token] ++ (be1 r.klass.code ++ (be4 r.leaseRemaining
        ++ (boolByte r.savedEnable ++ boolByte r.revoked)))) := by
  simp only [suspensionBytes, be1_toNat, List.append_assoc]

/-- An absent or an in-range area (R192). -/
theorem optionalWithin_area_iff (area : Half) :
    optionalWithin 0 4095 (readOptional area) = true ↔ area.toNat ≤ 4095 ∨ area.toNat = 65535 := by
  unfold readOptional
  split <;> simp [optionalWithin, *]

/-- The area that a ROUTE-READ resolves, if any. -/
theorem readOptional_bind {α : Type} (area : Half) (f : Nat → Option α) :
    (readOptional area).bind f = if area.toNat = 65535 then none else f area.toNat := by
  unfold readOptional
  split <;> rfl

/-- The bytes of a resolution, in the statement's spelling. -/
theorem resolutionBytes_eq (r : Option (Port × Decider)) :
    resolutionBytes r = match r with
      | none => [0xFF, 0xFF]
      | some (q, .entry i) => [BitVec.ofNat 8 q.val, BitVec.ofNat 8 i]
      | some (q, .byDefault) => [BitVec.ofNat 8 q.val, 0x40] := by
  obtain _ | ⟨q, _ | _⟩ := r <;> rfl

/-- Settles O13: each of the four reads answers with the bytes of what it reads, and leaves the part. -/
theorem statusReadsReport : Obligations.StatusReadsReport := by
  refine fun p s rq => ⟨fun serving => exec_of_reply serving rfl, fun serving => exec_of_reply serving ?store,
    fun port q serving code => exec_of_reply serving ?status,
    fun port serving high => exec_of_refusal serving ?noPort,
    fun start area serving outside => exec_of_refusal serving ?outside,
    fun start area serving startInRange areaInRange => exec_of_reply serving ?routes⟩
  case store =>
    simp only [blockAct, storeStatus, State.emptySlots, State.retainedRecords, State.countRecords, State.counted,
      State.retainedSegments, Message.retainedRecord_eq, decide_eq_true_eq]
    rfl
  case status =>
    simp only [blockAct, portStatus, readPort_eq_some code, portStatusBytes, pendingBytes, activeBytes, handoffBytes,
      State.classOf, be1_toNat, List.append_assoc, funext suspensionBytes_eq]
    cases active : (s.breakin q).active with
    | none => rfl
    | some a =>
      cases record : s.record a.handle.slot with
      | none =>
        simp only [record]
        rfl
      | some m =>
        simp only [record, Option.map_some]
        cases m.custody <;> rfl
  case noPort => simp only [blockAct, portStatus, readPort_eq_none high]
  case outside =>
    simp only [blockAct, routeRead]
    obtain start | ⟨above, present⟩ := outside
    · exact if_pos start
    · have notInRange : ¬ optionalWithin 0 4095 (readOptional area) = true := by
        rw [optionalWithin_area_iff]
        omega
      rw [if_neg notInRange, ite_self]
  case routes =>
    have count : ((s.routes.toList.drop start.toNat).take 8).length = min 8 (24 - start.toNat) := by simp
    simp only [blockAct, routeRead, if_neg (Nat.not_lt.mpr startInRange),
      if_pos ((optionalWithin_area_iff area).mpr areaInRange), count, readOptional_bind, resolutionBytes_eq]
    have entry (e : RouteEntry) : routeEntryBytes e =
        be2 (e.first + 8192 * e.port.val + (if e.valid then 32768 else 0)) ++ be2 e.last := by
      unfold routeEntryBytes boolBit
      cases e.valid <;> rfl
    simp only [funext entry]
    rfl

/-- Settles O27: FENCE looks at the outstanding count alone. -/
theorem fenceWaitsForMarks : Obligations.FenceWaitsForMarks := by
  intro p s rq serving
  exact ⟨fun none => exec_of_reply serving (if_pos none), fun marks => exec_of_reply serving (if_neg marks)⟩

/-! ### CONFIGURE -/

/-- The clamped penalty in the statement's spelling (R93). -/
theorem clampPenalty_eq (n : Nat) : clampPenalty n = if 4095 < n then 4095 else n := by
  unfold clampPenalty
  split <;> omega

/-- The clamped lease period in the statement's spelling (R93). -/
theorem clampLease_eq (n : Nat) : clampLease n = if n < 60 then 60 else if 3600 < n then 3600 else n := by
  unfold clampLease
  repeat' split
  all_goals omega

/-- A mark of CONFIGURE's response: the item was present and is not the value given (R92). -/
theorem clampMark_eq (weight clamped given : Nat) (present : Bool) :
    weight * boolBit (present && !decide (clamped = given))
      = if present = true ∧ clamped ≠ given then weight else 0 := by
  by_cases same : clamped = given <;> cases present <;> simp [boolBit, same]

/-- Settles O30: the configuration stored and the marks are those of R92 and R93, item by item. -/
theorem configureSetsItems : Obligations.ConfigureSetsItems := by
  intro p f s rq serving control item penalty lease after
  have stored : configured f s.scoring = after := by
    simp only [configured, clampPenalty_eq, clampLease_eq]
    rfl
  refine exec_of_reply serving ?_
  change configure p f s = _
  rw [configure, controlOnly_of_control control, stored, clampMarks, clampMark_eq, clampMark_eq, clampPenalty_eq, clampLease_eq]
  rfl

/-! ### The reads of a record -/

section
variable {p : Port} {h : HandleField} {k : SlotNo} {s : State} {form : SlotNo → Message → Reply}

theorem readRecord_of_empty (names : Names h k s) (empty : s.record k = none) :
    readRecord p h form s = refuse .wrongState s := by
  simp only [readRecord, withHandle_of_names names, empty]

theorem readRecord_of_other {q : Port} {m : Message} (names : Names h k s) (other : q ≠ p) (filling : FillingOn s k m q) :
    readRecord p h form s = refuse .notYours s := by
  obtain ⟨record, custody, rfl⟩ := filling
  simp only [readRecord, withHandle_of_names names, record]
  exact if_pos ⟨custody, other⟩

/-- A read by a port that may read is answered from the record, and is activity on the port's own entry (R18, R29). -/
theorem readRecord_of_readable {m : Message} (names : Names h k s) (record : s.record k = some m)
    (own : m.custody = .filling → m.entryPort = p) : readRecord p h form s = (form k m, s.afterRead p m) := by
  simp only [readRecord, withHandle_of_names names, record]
  rw [if_neg (fun both => both.2 (own both.1))]
  refine congrArg (Prod.mk _) ?_
  simp only [refreshEntry, record, State.afterRead]
  by_cases filling : m.custody = .filling
  · rw [if_pos ⟨filling, own filling⟩, if_pos filling]
  · rw [if_neg (fun both => filling both.1), if_neg filling]

end

/-- A segment holds characters where its first place is in the text (R12). -/
theorem lt_textSegments_iff (n length : Nat) : n < textSegments length ↔ 40 * n < length := by
  unfold textSegments
  change n < (length + 39) / 40 ↔ _
  omega

/-- Settles O14: each read is a read of the record behind its own range check, with the form of its answer. -/
theorem readsReportRecord : Obligations.ReadsReportRecord := by
  refine ⟨fun c p h k s rq serving names reads => ?refused, fun p h i s rq => ⟨fun serving high => ?noSegment,
    fun serving high => ?noNote⟩, fun p h k m s rq names record own => ?read⟩
  case refused =>
    have through : ∃ form, blockAct c s = readRecord p h form s := by
      obtain rfl | ⟨i, rfl, inRange⟩ | ⟨i, rfl, inRange⟩ | rfl := reads
      · exact ⟨_, rfl⟩
      · exact ⟨_, if_neg (Nat.not_lt.mpr inRange)⟩
      · exact ⟨_, if_neg (Nat.not_lt.mpr inRange)⟩
      · exact ⟨_, rfl⟩
    obtain ⟨form, through⟩ := through
    exact ⟨fun empty => exec_of_refusal serving (through.trans (readRecord_of_empty names empty)),
      fun q other m filling => exec_of_refusal serving (through.trans (readRecord_of_other names other filling))⟩
  case noSegment => exact exec_of_refusal serving (if_pos high)
  case noNote => exact exec_of_refusal serving (if_pos high)
  case read =>
    have reads (form : SlotNo → Message → Reply) : readRecord p h form s = (form k m, s.afterRead p m) :=
      readRecord_of_readable names record own
    refine ⟨fun serving => exec_of_reply serving (reads _), fun i serving inRange => ⟨fun inText => ?segment,
      fun past => ?pastText⟩, fun i serving inRange => ⟨fun note found => ?note, fun past => ?pastNotes⟩,
      fun serving => exec_of_reply serving (reads _)⟩
    case segment =>
      refine exec_of_reply serving ((if_neg (Nat.not_lt.mpr inRange)).trans ((reads _).trans ?_))
      rw [if_pos ((lt_textSegments_iff _ _).mpr inText)]
      rfl
    case pastText =>
      refine exec_of_reply serving ((if_neg (Nat.not_lt.mpr inRange)).trans ((reads _).trans ?_))
      rw [if_neg (fun inText => Nat.not_lt.mpr past ((lt_textSegments_iff _ _).mp inText))]
    case note =>
      refine exec_of_reply serving ((if_neg (Nat.not_lt.mpr inRange)).trans ((reads _).trans ?_))
      simp only [found]
    case pastNotes =>
      refine exec_of_reply serving ((if_neg (Nat.not_lt.mpr inRange)).trans ((reads _).trans ?_))
      simp only [List.getElem?_eq_none past]

/-! ### QUEUE-LIST -/

/-- A place changed twice is changed by both. -/
theorem vmod_vmod {α : Type} {n : Nat} (v : Vector α n) (i : Fin n) (f g : α → α) :
    vmod (vmod v i f) i g = vmod v i (fun x => g (f x)) := by
  apply vector_ext
  intro j
  simp only [get_vmod]
  split <;> rfl

/-- The sticky flags of a queue changed twice are changed by both. -/
theorem State.modFlags_modFlags (s : State) (p : Port) (f g : QueueFlags → QueueFlags) :
    (s.modFlags p f).modFlags p g = s.modFlags p (fun x => g (f x)) := by
  simp only [State.modFlags, vmod_vmod]

/-- The listed flags: each has its bit (11.6). -/
theorem stickyByte_eq (topped floored : Bool) :
    stickyByte { topped := topped, floored := floored }
      = be1 ((if topped then 1 else 0) + (if floored then 2 else 0)) := by
  cases topped <;> cases floored <;> rfl

/-- An entry of a listing in the statement's spelling (11.6). -/
theorem queueEntryBytes_eq (s : State) (e : Evaluation) :
    queueEntryBytes s e = match s.record e.slot with
      | none => []
      | some m =>
        be1 e.slot.val
          ++ be1 ((s.slot e.slot).inc.toNat + 16 * m.klass.code
            + 64 * (match e.clamp with | .kept => 0 | .raised => 1 | .lowered => 2))
          ++ be4 e.number ++ be4 ((e.sum % 67108864).toNat + 67108864 * m.bounces) := by
  unfold queueEntryBytes
  cases s.record e.slot with
  | none => rfl
  | some m => cases e.clamp <;> rfl

/-- Settles O31: the listing evaluates the queue once, reports the flags it has just set, and clears them. -/
theorem queueListReportsAndClears : Obligations.QueueListReportsAndClears := by
  refine ⟨fun p queue rank s rq serving outside => exec_of_refusal serving ?outside,
    fun p queue rank q s rq serving code inRange => ?listed⟩
  case outside =>
    simp only [blockAct, queueList]
    obtain high | high := outside
    · rw [readPort_eq_none high]
    · split
      · rfl
      · exact if_pos high
  case listed =>
    intro es topped floored shown
    refine exec_of_reply serving ?_
    simp only [blockAct, queueList, readPort_eq_some code, if_neg (Nat.not_lt.mpr inRange), listQueue]
    have cleared : clearFlags q (setStickyFlags q es s) = s.modFlags q (fun _ => { topped := false, floored := false }) :=
      State.modFlags_modFlags s q _ _
    have flags : (setStickyFlags q es s).flagsOf q = { topped := topped, floored := floored } :=
      State.flagsOf_modFlags_same _ _ _
    rw [flags, cleared, stickyByte_eq, funext (queueEntryBytes_eq (setStickyFlags q es s))]
    rfl

/-! ### WATCH -/

/-- Settles O48: WATCH reads its flag, then the handle, then the state. -/
theorem watchSetsMembership : Obligations.WatchSetsMembership := by
  intro p h value k s rq serving names
  have read {on : Bool} (flag : readFlag value = some on) {r : Reply × State}
      (acts : (match s.record k with
        | none => refuse .wrongState s
        | some m =>
          if m.custody = .filling then refuse .wrongState s
          else
            answer .ok
              (handleBytes (some (s.handleOf k)) ++ be1 m.custody.name.code ++ classByte (some m.klass)
                ++ be1 (portBits (setWatcher p on m).watchers))
              (s.modRecord k (setWatcher p on))) = r) : blockAct (.watch p h value) s = r := by
    rw [← acts]
    change watch p h value s = _
    simp only [watch, flag]
    exact withHandle_of_names names
  refine ⟨fun neither => exec_of_refusal serving ?badField, fun inRange unwatchable => ?wrongState,
    fun on m code record entered => ?set⟩
  case badField =>
    change watch p h value s = _
    rw [watch, readFlag_eq_none neither]
  case wrongState =>
    obtain ⟨on, flag⟩ := readFlag_of_le inRange
    refine exec_of_refusal serving (read flag ?_)
    cases record : s.record k with
    | none => rfl
    | some m => exact if_pos (unwatchable m record)
  case set =>
    refine exec_of_reply serving (read (readFlag_eq_some code) ?_)
    simp only [record, if_neg entered]
    rw [modRecord_eq_withRecord _ record]
    rfl

/-! ### Words (R38) -/

/-- A space leaves the count and sets the carry (R38). -/
theorem countChar_space (acc : Nat × Bool) : countChar acc 0x20 = (acc.1, true) := rfl

/-- Any other character begins a word after a space, and clears the carry (R38). -/
theorem countChar_of_ne_space {c : Byte} (letter : c ≠ 0x20) (acc : Nat × Bool) :
    countChar acc c = (if acc.2 then min (acc.1 + 1) 999 else acc.1, false) := if_neg letter

/-- The word count from any start, as long as it has not stopped: the runs that begin are added, up to the greatest count. -/
theorem countWords_eq (words : Nat) (carry : Bool) (text : List Byte) (inRange : words ≤ 999) :
    (countWords words carry text).1 = min 999 (words + runStarts carry text) := by
  induction text generalizing words carry with
  | nil => exact (Nat.min_eq_right inRange).symm
  | cons c cs ih =>
    by_cases space : c = 0x20
    · have step : countWords words carry (c :: cs) = countWords words true cs := by
        rw [space, countWords, List.foldl_cons, countChar_space, countWords]
      rw [step, ih words true inRange, runStarts, if_pos space]
    · have step : countWords words carry (c :: cs)
          = countWords (if carry then min (words + 1) 999 else words) false cs := by
        rw [countWords, List.foldl_cons, countChar_of_ne_space space, countWords]
      have inRange' : (if carry then min (words + 1) 999 else words) ≤ 999 := by split <;> omega
      rw [step, ih _ false inRange', runStarts, if_neg space]
      cases carry with
      | false => simp
      | true =>
        simp
        omega

/-- Settles O20: the count adds up the beginnings of runs; a fold over two texts is the fold over the second after the
first; and the carry is decided by the last character alone. -/
theorem wordsAreRunsOfNonSpaces : Obligations.WordsAreRunsOfNonSpaces := by
  refine ⟨fun text => ?runs, fun words carry first second => ?divided, fun words carry text c => ?carry⟩
  case runs => simpa using countWords_eq 0 true text (Nat.zero_le _)
  case divided => exact List.foldl_append
  case carry =>
    rw [countWords, List.foldl_append, List.foldl_cons, List.foldl_nil]
    by_cases space : c = 0x20
    · rw [space, countChar_space]
      rfl
    · rw [countChar_of_ne_space space, decide_eq_false space]

end Sys2Proof.Machine
end

section
/-! The shared operations in the terms of the statements, continued: what a written record leaves, what joining, holding and
returning leave of a message, the settling of fences, and the handing out. -/

namespace Sys2Proof.Machine

/-! ### A written record -/

section
variable {s : State} {k : SlotNo} {m : Message}

theorem State.slot_withRecord (s : State) (k j : SlotNo) (m : Message) :
    (s.withRecord k m).slot j = if k = j then { s.slot j with record := some m } else s.slot j :=
  State.slot_modSlot _ _ _ _

@[simp] theorem State.slot_withRecord_same (s : State) (k : SlotNo) (m : Message) :
    (s.withRecord k m).slot k = { s.slot k with record := some m } := State.slot_modSlot_same _ _ _

theorem State.record_withRecord (s : State) (k j : SlotNo) (m : Message) :
    (s.withRecord k m).record j = if k = j then some m else s.record j := by
  rw [State.record_eq, State.slot_withRecord]
  split <;> rfl

@[simp] theorem State.record_withRecord_same (s : State) (k : SlotNo) (m : Message) :
    (s.withRecord k m).record k = some m := by
  rw [State.record_withRecord, if_pos rfl]

theorem State.record_withRecord_other {j : SlotNo} (other : k ≠ j) : (s.withRecord k m).record j = s.record j := by
  rw [State.record_withRecord, if_neg other]

@[simp] theorem State.handleOf_withRecord (s : State) (k j : SlotNo) (m : Message) :
    (s.withRecord k m).handleOf j = s.handleOf j := by
  simp only [State.handleOf, State.slot_withRecord]
  split <;> rfl

/-- A record written twice is written once. -/
@[simp] theorem State.withRecord_withRecord (s : State) (k : SlotNo) (m n : Message) :
    (s.withRecord k m).withRecord k n = s.withRecord k n := by
  simp only [State.withRecord, State.modSlot, vmod_vmod]

/-- Writing the record that stands changes nothing. -/
theorem State.withRecord_self (record : s.record k = some m) : s.withRecord k m = s := by
  have slots : vmod s.slots k (fun x => { x with record := some m }) = s.slots := by
    apply vector_ext
    intro j
    rw [get_vmod]
    split
    · next same =>
      subst same
      rw [← record]
      rfl
    · rfl
  simp only [State.withRecord, State.modSlot, slots]

/-- The slots in which a record is written keep their resolution. -/
@[simp] theorem State.resolve_withRecord (s : State) (k : SlotNo) (m : Message) (area : Nat) :
    (s.withRecord k m).resolve area = s.resolve area := rfl

/-- A record written with the same area and the same claim to a queue leaves every queue. -/
theorem State.queueOf_withRecord {n : Message} (record : s.record k = some m) (area : n.area = m.area)
    (queued : n.custody = .queued ↔ m.custody = .queued) (j : SlotNo) : (s.withRecord k n).queueOf j = s.queueOf j := by
  unfold State.queueOf
  by_cases same : k = j
  · subst same
    simp only [State.record_withRecord_same, record, State.resolve_withRecord, area, queued]
  · rw [State.record_withRecord_other same]
    rfl

theorem State.queue_withRecord {n : Message} (record : s.record k = some m) (area : n.area = m.area)
    (queued : n.custody = .queued ↔ m.custody = .queued) (q : Port) : (s.withRecord k n).queue q = s.queue q := by
  simp only [State.queue, State.queueOf_withRecord record area queued]

/-- The queue of a QUEUED message is the one its area resolves to (R97). -/
theorem State.queueOf_of_queued (record : s.record k = some m) (queued : m.custody = .queued) :
    s.queueOf k = s.resolve m.area := by
  simp only [State.queueOf, record, queued, if_true]

/-- A message that is not QUEUED stands in no queue (R97). -/
theorem State.queueOf_of_not_queued (record : s.record k = some m) (queued : m.custody ≠ .queued) :
    s.queueOf k = none := by
  simp only [State.queueOf, record, if_neg queued]

/-- Only a QUEUED message stands in a queue, the one its area resolves to (R97). -/
theorem State.queueOf_eq_some {q : Port} (member : s.queueOf k = some q) :
    ∃ m, s.record k = some m ∧ m.custody = .queued ∧ s.resolve m.area = some q := by
  unfold State.queueOf at member
  split at member
  · next m record =>
    split at member
    · next queued => exact ⟨m, record, queued, member⟩
    · contradiction
  · contradiction

end

/-! ### Notices -/

@[simp] theorem State.noticeQueue_told (s : State) (ports : PortSet) (n : Notice) (q : Port) :
    (s.told ports n).noticeQueue q = joinIf (ports.get q) n (s.noticeQueue q) := get_vzip _ _ _ _

/-- A notice to no port changes nothing. -/
theorem State.told_none (s : State) (n : Notice) : s.told (Vector.replicate 4 false) n = s := by
  have queues : vzip (fun addressed q => joinIf addressed n q) (Vector.replicate 4 false) s.noticeQueues
      = s.noticeQueues := by
    apply vector_ext
    intro q
    have unaddressed : (Vector.replicate 4 false).get q = false := by simp [Vector.get_eq_getElem]
    rw [get_vzip, unaddressed]
    rfl
  unfold State.told
  rw [queues]

/-- The notices of a message do not depend on the record that stands. -/
theorem stateChange_withRecord (s : State) (k j : SlotNo) (m n : Message) :
    stateChange (s.withRecord j n) k m = stateChange s k m := by
  rw [stateChange, State.handleOf_withRecord]
  rfl

theorem heldNotice_withRecord (s : State) (k j : SlotNo) (n : Message) (r : HoldReason) :
    heldNotice (s.withRecord j n) k r = heldNotice s k r := by
  rw [heldNotice, State.handleOf_withRecord]
  rfl

/-- STATE-CHANGE of a record just written, in the statements' terms. -/
theorem notifyWatchers_withRecord (s : State) (k : SlotNo) (m : Message) :
    notifyWatchers k (s.withRecord k m) = (s.withRecord k m).told m.watchers (stateChange s k m) := by
  rw [notifyWatchers_eq_told (State.record_withRecord_same s k m), stateChange_withRecord]

/-- HELD of a record just written, in the statements' terms. -/
theorem reportHeld_withRecord {m : Message} {r : HoldReason} (held : m.custody = .held r) (s : State) (k : SlotNo) :
    reportHeld k (s.withRecord k m) = (s.withRecord k m).told (controlSet s) (heldNotice s k r) := by
  rw [reportHeld_eq_told (State.record_withRecord_same s k m) held, heldNotice_withRecord]
  rfl

/-! ### A message that is left QUEUED or HELD -/

section
variable {s : State} {k : SlotNo} {m : Message}

/-- What a message is left as does not depend on what its record was in the meantime, as long as it stands in the same queue
or none. -/
theorem State.leftAs_withRecord {n : Message} (record : s.record k = some m) (area : n.area = m.area)
    (queued : n.custody = .queued ↔ m.custody = .queued) (u : Message) :
    (s.withRecord k n).leftAs k u = s.leftAs k u := by
  unfold State.leftAs
  simp only [State.withRecord_withRecord, stateChange_withRecord, heldNotice_withRecord, State.resolve_withRecord,
    State.queue_withRecord record area queued]
  rfl

/-- A message left HELD. -/
theorem State.leftAs_of_held {r : HoldReason} (held : m.custody = .held r) (s : State) (k : SlotNo) :
    s.leftAs k m =
      ((s.withRecord k m).told m.watchers (stateChange s k m)).told (controlSet s) (heldNotice s k r) := by
  simp only [State.leftAs, held]

/-- A message left QUEUED in queue q. -/
theorem State.leftAs_of_queued {q : Port} (queued : m.custody = .queued) (resolves : s.resolve m.area = some q)
    (k : SlotNo) :
    s.leftAs k m =
      breakInCheck q (if s.queue q = []
        then ((s.withRecord k m).told m.watchers (stateChange s k m)).told (onlyPort q) (bareNotice s .queueReady)
        else (s.withRecord k m).told m.watchers (stateChange s k m)) := by
  simp only [State.leftAs, queued, resolves]

/-- The joining of a queue in the statements' terms (R98). -/
theorem joinQueue_eq {q : Port} (record : s.record k = some m) (resolves : s.resolve m.area = some q) :
    joinQueue k q s = s.leftAs k { Message.applyUpgrade m with custody := .queued } := by
  have area : (Message.applyUpgrade m).area = m.area := by rw [Message.applyUpgrade_frame]
  have resolves' : s.resolve (Message.applyUpgrade m).area = some q := by rw [area, resolves]
  rw [State.leftAs_of_queued (m := { Message.applyUpgrade m with custody := .queued }) rfl resolves']
  unfold joinQueue
  simp only [modRecord_eq_withRecord _ record, notifyWatchers_withRecord, reportQueueReady, post_eq_told,
    List.isEmpty_iff]
  rfl

/-- The message after its pending upgrade stands where it stood. -/
theorem Message.applyUpgrade_custody (m : Message) : (Message.applyUpgrade m).custody = m.custody := by
  rw [Message.applyUpgrade_frame]

theorem Message.applyUpgrade_area (m : Message) : (Message.applyUpgrade m).area = m.area := by
  rw [Message.applyUpgrade_frame]

/-- A second application of a pending upgrade finds none. -/
theorem Message.applyUpgrade_applyUpgrade (m : Message) :
    Message.applyUpgrade (Message.applyUpgrade m) = Message.applyUpgrade m := by
  have none : (Message.applyUpgrade m).pendingUpgrade = none := by rw [Message.applyUpgrade_frame]
  rw [Message.applyUpgrade, none]

/-- A return to a queue in the statements' terms (R112). -/
theorem returnToQueue_eq (p : Port) (record : s.record k = some m) :
    returnToQueue k p s = s.leftAs k (returned s.seconds p (s.resolve m.area).isSome m) := by
  have left (u : Message) : (s.withRecord k (Message.applyUpgrade m)).leftAs k u = s.leftAs k u :=
    State.leftAs_withRecord record m.applyUpgrade_area (by rw [m.applyUpgrade_custody]) u
  have again := m.applyUpgrade_applyUpgrade
  unfold returnToQueue returned
  simp only [modRecord_eq_withRecord _ record]
  rw [← m.applyUpgrade_area]
  generalize Message.applyUpgrade m = n at left again ⊢
  have there : (s.withRecord k n).record k = some n := State.record_withRecord_same ..
  rw [there]
  simp only
  by_cases passed : Message.deadlinePassed s.seconds n = true
  · rw [if_pos passed]
    refine (if_pos passed).trans ?_
    rw [holdAndTell_eq there, left]
    rfl
  · rw [if_neg passed]
    refine (if_neg passed).trans ?_
    rw [State.resolve_withRecord]
    cases resolves : s.resolve n.area with
    | none =>
      simp only [Option.isSome_none, Bool.false_eq_true, if_false]
      rw [holdAndTell_eq there, left]
      rfl
    | some q =>
      simp only [Option.isSome_some, if_true]
      rw [joinQueue_eq there resolves, left, again]

/-- A logged message stands where it stood. -/
@[simp] theorem Message.log_custody (now : Nat) (p : Option Port) (e : HistoryEvent) (m : Message) :
    (Message.log now p e m).custody = m.custody := by rw [Message.log_frame]
@[simp] theorem Message.log_area (now : Nat) (p : Option Port) (e : HistoryEvent) (m : Message) :
    (Message.log now p e m).area = m.area := by rw [Message.log_frame]
@[simp] theorem Message.log_watchers (now : Nat) (p : Option Port) (e : HistoryEvent) (m : Message) :
    (Message.log now p e m).watchers = m.watchers := by rw [Message.log_frame]
@[simp] theorem Message.log_bounces (now : Nat) (p : Option Port) (e : HistoryEvent) (m : Message) :
    (Message.log now p e m).bounces = m.bounces := by rw [Message.log_frame]
@[simp] theorem Message.log_klass (now : Nat) (p : Option Port) (e : HistoryEvent) (m : Message) :
    (Message.log now p e m).klass = m.klass := by rw [Message.log_frame]
@[simp] theorem Message.log_token (now : Nat) (p : Option Port) (e : HistoryEvent) (m : Message) :
    (Message.log now p e m).token = m.token := by rw [Message.log_frame]
@[simp] theorem Message.log_deadline (now : Nat) (p : Option Port) (e : HistoryEvent) (m : Message) :
    (Message.log now p e m).deadline = m.deadline := by rw [Message.log_frame]
@[simp] theorem Message.log_pendingUpgrade (now : Nat) (p : Option Port) (e : HistoryEvent) (m : Message) :
    (Message.log now p e m).pendingUpgrade = m.pendingUpgrade := by rw [Message.log_frame]

/-- A bounce in the statements' terms (R110). -/
theorem bounce_eq (p : Port) (e : HistoryEvent) (record : s.record k = some m) :
    bounce k p e s = s.leftAs k (bounced s.seconds p e (s.resolve m.area).isSome m) := by
  unfold bounce bounced
  simp only [modRecord_eq_withRecord _ record]
  generalize logged : Message.log s.seconds (some p) e { m with bounces := m.bounces + 1 } = n
  have area : n.area = m.area := by rw [← logged, Message.log_area]
  have custody : n.custody = m.custody := by rw [← logged, Message.log_custody]
  have left (u : Message) : (s.withRecord k n).leftAs k u = s.leftAs k u :=
    State.leftAs_withRecord record area (by rw [custody]) u
  rw [State.record_withRecord_same]
  change (if 7 ≤ n.bounces then _ else _) = _
  by_cases limit : 7 ≤ n.bounces
  · rw [if_pos limit, if_pos limit, holdAndTell_eq (State.record_withRecord_same ..), left]
    rfl
  · rw [if_neg limit, if_neg limit, returnToQueue_eq p (State.record_withRecord_same ..), left, area]
    rfl

end

/-! ### Fences -/

/-- The fences and notices after the completion of one port's fence. -/
theorem completeFence_fences (p q : Port) (s : State) :
    (completeFence p s).fences.get q = (s.fences.get q && decide (p ≠ q)) := by
  unfold completeFence
  split
  · by_cases same : p = q
    · subst same
      simp [post, State.modNoticeQueue]
    · simp [post, State.modNoticeQueue, get_vmod, same]
  · next off =>
    by_cases same : p = q
    · subst same
      simpa using off
    · simp [same]

theorem completeFence_noticeQueue (p q : Port) (s : State) :
    (completeFence p s).noticeQueue q
      = if p = q ∧ s.fences.get q = true then NoticeQueue.join (bareNotice s .fenceDone) (s.noticeQueue q)
        else s.noticeQueue q := by
  unfold completeFence
  split
  · next pending =>
    rw [noticeQueue_post]
    by_cases same : p = q
    · subst same
      simp only [if_pos pending, if_true, true_and]
      rfl
    · simp only [same, if_false, false_and]
      rfl
  · next off =>
    rw [if_neg]
    rintro ⟨rfl, pending⟩
    exact off pending

/-- What completing the fences of a list of ports without repeats leaves at each port. -/
theorem foldl_completeFence (ps : List Port) (nodup : ps.Nodup) (s : State) (q : Port) :
    (ps.foldl (fun t p => completeFence p t) s).fences.get q = (s.fences.get q && decide (q ∉ ps))
      ∧ (ps.foldl (fun t p => completeFence p t) s).noticeQueue q
        = if q ∈ ps ∧ s.fences.get q = true then NoticeQueue.join (bareNotice s .fenceDone) (s.noticeQueue q)
          else s.noticeQueue q := by
  induction ps generalizing s with
  | nil => simp
  | cons p ps ih =>
    obtain ⟨fresh, rest⟩ := List.nodup_cons.mp nodup
    obtain ⟨fences, queue⟩ := ih rest (completeFence p s)
    have now : bareNotice (completeFence p s) .fenceDone = bareNotice s .fenceDone := by
      rw [completeFence_frame]
      rfl
    rw [List.foldl_cons, fences, queue, now, completeFence_fences, completeFence_noticeQueue]
    by_cases same : p = q
    · subst same
      simp [fresh]
    · have other : q ≠ p := Ne.symm same
      simp [same, other]

/-- The settling of fences in the statements' terms (R78). -/
theorem settleFences_eq (before : Nat) (s : State) : settleFences before s = s.fencesSettled before := by
  have all (q : Port) : q ∈ allPorts := by revert q; decide
  have frame := settleFences_frame before s
  unfold State.fencesSettled
  unfold settleFences at frame ⊢
  split
  · next settles =>
    rw [if_pos settles] at frame
    rw [frame]
    have fences : (allPorts.foldl (fun t p => completeFence p t) s).fences = Vector.replicate 4 false := by
      apply vector_ext
      intro q
      rw [(foldl_completeFence allPorts (by decide) s q).1]
      simp [all, Vector.get_eq_getElem]
    have queues : (allPorts.foldl (fun t p => completeFence p t) s).noticeQueues
        = (s.told s.fences (bareNotice s .fenceDone)).noticeQueues := by
      apply vector_ext
      intro q
      refine ((foldl_completeFence allPorts (by decide) s q).2).trans ?_
      rw [show (s.told s.fences (bareNotice s .fenceDone)).noticeQueues.get q = _ from State.noticeQueue_told ..]
      simp only [all, true_and, joinIf]
    rw [fences, queues]
    rfl
  · rfl

/-! ### The tick's examinations -/

/-- What the clearing of an active handoff leaves of records, handles and resolution. -/
@[simp] theorem State.withoutPending_slots (s : State) (p : Port) : (s.withoutPending p).slots = s.slots := by
  rw [← clearPendingBreakIn_eq, clearPendingBreakIn_frame]

@[simp] theorem State.withoutActive_slots (s : State) (p : Port) : (s.withoutActive p).slots = s.slots := by
  rw [← clearActive_eq, clearActive_frame]

@[simp] theorem State.withoutActive_record (s : State) (p : Port) (k : SlotNo) :
    (s.withoutActive p).record k = s.record k := by
  rw [← clearActive_eq, clearActive_frame]
  rfl

@[simp] theorem State.withoutActive_handleOf (s : State) (p : Port) (k : SlotNo) :
    (s.withoutActive p).handleOf k = s.handleOf k := by
  rw [← clearActive_eq, clearActive_frame]
  rfl

@[simp] theorem State.withoutActive_resolve (s : State) (p : Port) (area : Nat) :
    (s.withoutActive p).resolve area = s.resolve area := by
  rw [← clearActive_eq, clearActive_frame]
  rfl

@[simp] theorem State.withoutActive_seconds (s : State) (p : Port) : (s.withoutActive p).seconds = s.seconds := by
  rw [← clearActive_eq, clearActive_frame]

/-- A lapse in the statements' terms (R114). -/
theorem lapseIfDue_eq (s : State) (k : SlotNo) : lapseIfDue s k = s.lapsed k := by
  unfold lapseIfDue State.lapsed
  cases record : s.record k with
  | none => rfl
  | some m =>
    cases custody : m.custody with
    | handed p d mark =>
      simp only [custody]
      split
      · have there : ((s.withoutActive p).told (onlyPort p)
            { kind := .lapsed, handle := some (s.handleOf k), detail := .token m.token, time := s.seconds }).record k
              = some m := (s.withoutActive_record p k).trans record
        rw [settleFences_eq, clearActive_eq, post_eq_told, State.withoutActive_seconds, bounce_eq p .lapsed there]
        have now : ((s.withoutActive p).told (onlyPort p)
            { kind := .lapsed, handle := some (s.handleOf k), detail := .token m.token, time := s.seconds }).seconds
              = s.seconds := s.withoutActive_seconds p
        have resolve : ((s.withoutActive p).told (onlyPort p)
            { kind := .lapsed, handle := some (s.handleOf k), detail := .token m.token, time := s.seconds }).resolve m.area
              = s.resolve m.area := s.withoutActive_resolve p m.area
        rw [now, resolve]
      · rfl
    | _ => simp only [custody]

/-- A departure depends on its act only through the part with what was pending cleared. -/
theorem State.leaving_congr {s : State} {k : SlotNo} {act act' : State → State}
    (same : ∀ t : State, t.slots = s.slots → t.seconds = s.seconds → t.retained = s.retained → act t = act' t) :
    s.leaving k act = s.leaving k act' := by
  have now (q : Port) : (s.withoutPending q).seconds = s.seconds := by
    rw [← clearPendingBreakIn_eq, clearPendingBreakIn_frame]
  have retained (q : Port) : (s.withoutPending q).retained = s.retained := by
    rw [← clearPendingBreakIn_eq, clearPendingBreakIn_frame]
  unfold State.leaving
  split
  · exact same s rfl rfl rfl
  · simp only [same s rfl rfl rfl, same (s.modBreakin _ _) rfl rfl rfl,
      same (s.withoutPending _) (by simp) (now _) (retained _)]

/-- A delivery-deadline expiry in the statements' terms (R116). -/
theorem expireIfDue_eq (s : State) (k : SlotNo) : expireIfDue s k = s.expired k := by
  unfold expireIfDue State.expired
  cases record : s.record k with
  | none => rfl
  | some m =>
    simp only
    split
    · next due =>
      have acts : s.leaving k (holdAndTell k .deadlinePassed none)
          = s.leaving k (fun t => t.leftAs k (expiredIfDue s.seconds m)) := by
        refine State.leaving_congr fun t slots now _ => ?_
        have there : t.record k = some m := by rw [State.record, slots]; exact record
        rw [holdAndTell_eq there, expiredIfDue, if_pos due, now]
      cases queue : s.queueOf k with
      | some q => simp only [leaveQueue_eq _ queue, acts]
      | none =>
        rw [← acts]
        simp only [State.leaving, queue]
    · rfl

/-! ### The handing out -/

/-- A departure of what is not pending changes nothing. -/
theorem departed_of_not_pending {p : Port} {h : Handle} {s : State} (free : (s.breakin p).pending = none) :
    departed p h s = s := by
  rw [departed, if_neg]
  simp [free]

/-- The handing out in the statements' terms, where no break-in is pending (R103). -/
theorem handOut_eq {k : SlotNo} {p : Port} {s : State} {m : Message} (record : s.record k = some m)
    (free : (s.breakin p).pending = none) :
    handOut k p s =
      let handed : Message := Message.log s.seconds (some p) .handed
        { m with
          custody := .handed p (min (s.seconds + s.scoring.lease) 4294967295) false
          token := m.token + 1 }
      ((s.withRecord k handed).modBreakin p (fun b =>
        { b with active := some { handle := s.handleOf k, token := m.token + 1 } })).told
          m.watchers (stateChange s k handed) := by
  unfold handOut
  simp only [modRecord_eq_withRecord _ record]
  generalize logged : Message.log s.seconds (some p) .handed _ = n
  have token : n.token = m.token + 1 := by rw [← logged, Message.log_token]
  have watchers : n.watchers = m.watchers := by rw [← logged, Message.log_watchers]
  rw [departed_of_not_pending (s := s.withRecord k n) free, State.record_withRecord_same]
  simp only [token]
  rw [notifyWatchers_eq_told (m := n) (by simp), watchers]
  have change (b : BreakIn → BreakIn) : stateChange ((s.withRecord k n).modBreakin p b) k n = stateChange s k n := by
    rw [← stateChange_withRecord s k k n n]
    rfl
  rw [change]
  rw [← logged]
  rfl

end Sys2Proof.Machine
end

section
/-! What the tick does at the Dispatch Unit: the lease expiries (R114) and the delivery-deadline expiries (R116), with their
obligations. The parts of the state that notices, sticky flags and break-in checks leave alone. -/

namespace Sys2Proof.Machine

/-! ### What checks and notices leave -/

/-- The break-in state of a port but for what is pending there. -/
def State.handling (s : State) (p : Port) : BreakIn := { s.breakin p with pending := none }

/-- Two parts differ at a port only in what is pending there exactly where the rest agrees. -/
theorem State.handling_eq_iff (s t : State) (p : Port) :
    t.handling p = s.handling p ↔ t.breakin p = { s.breakin p with pending := (t.breakin p).pending } := by
  unfold State.handling
  generalize t.breakin p = b
  generalize s.breakin p = a
  cases a
  cases b
  simp

@[simp] theorem handling_breakInCheck (p q : Port) (s : State) : (breakInCheck p s).handling q = s.handling q :=
  (State.handling_eq_iff ..).mpr (breakInCheck_breakin p q s)

@[simp] theorem handling_withoutPending (p q : Port) (s : State) : (s.withoutPending p).handling q = s.handling q :=
  (State.handling_eq_iff ..).mpr (State.withoutPending_breakin p q s)

@[simp] theorem handling_told (s : State) (ports : PortSet) (n : Notice) (q : Port) :
    (s.told ports n).handling q = s.handling q := rfl

@[simp] theorem handling_withRecord (s : State) (k : SlotNo) (m : Message) (q : Port) :
    (s.withRecord k m).handling q = s.handling q := rfl

@[simp] theorem handling_withoutBreakIn (s : State) (p : Port) (h : Handle) (q : Port) :
    (s.withoutBreakIn p h).handling q = s.handling q := rfl

/-- Clearing what is pending leaves the rest of the break-in state. -/
@[simp] theorem handling_clearing (s : State) (p q : Port) :
    (s.modBreakin p (fun b => { b with pending := none })).handling q = s.handling q := by
  unfold State.handling
  rw [State.breakin_modBreakin]
  split <;> rfl

/-- A message is left by the writing of its record and by notices, and then a check may be made. -/
theorem State.leftAs_cases (s : State) (k : SlotNo) (m : Message) :
    ∃ queues, s.leftAs k m = { s.withRecord k m with noticeQueues := queues }
      ∨ ∃ q, s.leftAs k m = breakInCheck q { s.withRecord k m with noticeQueues := queues } := by
  have joins : ∃ queues, (match s.resolve m.area with
      | some q =>
        breakInCheck q (if s.queue q = []
          then ((s.withRecord k m).told m.watchers (stateChange s k m)).told (onlyPort q) (bareNotice s .queueReady)
          else (s.withRecord k m).told m.watchers (stateChange s k m))
      | none => (s.withRecord k m).told m.watchers (stateChange s k m))
        = { s.withRecord k m with noticeQueues := queues }
      ∨ ∃ q, (match s.resolve m.area with
      | some q =>
        breakInCheck q (if s.queue q = []
          then ((s.withRecord k m).told m.watchers (stateChange s k m)).told (onlyPort q) (bareNotice s .queueReady)
          else (s.withRecord k m).told m.watchers (stateChange s k m))
      | none => (s.withRecord k m).told m.watchers (stateChange s k m))
        = breakInCheck q { s.withRecord k m with noticeQueues := queues } := by
    split
    · next q _ =>
      split
      · exact ⟨_, .inr ⟨q, rfl⟩⟩
      · exact ⟨_, .inr ⟨q, rfl⟩⟩
    · exact ⟨_, .inl rfl⟩
  unfold State.leftAs
  cases m.custody with
  | held r => exact ⟨_, .inl rfl⟩
  | _ => exact joins

/-- A message left QUEUED or HELD leaves the break-in state but for what is pending. -/
@[simp] theorem handling_leftAs (s : State) (k : SlotNo) (m : Message) (q : Port) :
    (s.leftAs k m).handling q = s.handling q := by
  unfold State.leftAs
  simp only
  repeat' split
  all_goals simp

/-- Only the record that is left changes among the slots. -/
@[simp] theorem slots_breakInCheck (p : Port) (s : State) : (breakInCheck p s).slots = s.slots := by
  rw [breakInCheck_frame]

@[simp] theorem slots_told (s : State) (ports : PortSet) (n : Notice) : (s.told ports n).slots = s.slots := rfl

@[simp] theorem slots_fencesSettled (before : Nat) (s : State) : (s.fencesSettled before).slots = s.slots := by
  rw [← settleFences_eq, settleFences_frame]

@[simp] theorem slots_leftAs (s : State) (k : SlotNo) (m : Message) :
    (s.leftAs k m).slots = (s.withRecord k m).slots := by
  unfold State.leftAs
  simp only
  repeat' split
  all_goals simp

/-- A departure writes the slots as its act does. -/
theorem slots_leaving {s : State} {k : SlotNo} {act : State → State} {v : Vector Slot 192}
    (acts : ∀ t : State, t.slots = s.slots → (act t).slots = v) : (s.leaving k act).slots = v := by
  unfold State.leaving
  split
  · exact acts s rfl
  · simp only
    repeat' split
    · rw [slots_breakInCheck]
      exact acts _ rfl
    · exact acts _ (s.withoutPending_slots _)
    · exact acts s rfl

/-- A departure leaves the break-in state but for what is pending, where its act does. -/
theorem handling_leaving {act : State → State} {q : Port} (acts : ∀ t : State, (act t).handling q = t.handling q)
    (s : State) (k : SlotNo) : (s.leaving k act).handling q = s.handling q := by
  unfold State.leaving
  split
  · exact acts s
  · simp only
    repeat' split
    all_goals simp [acts]

/-! ### An operation on each slot in turn -/

/-- An operation that writes one slot at a time, from that slot and from what it does not change, writes each slot of a list
without repeats once. -/
theorem foldl_slot {ε : Type} {env : State → ε} {f : State → SlotNo → State} {g : ε → Slot → Slot}
    (keeps : ∀ s k, env (f s k) = env s)
    (step : ∀ s k j, (f s k).slot j = if k = j then g (env s) (s.slot j) else s.slot j) {ks : List SlotNo}
    (nodup : ks.Nodup) (s : State) (j : SlotNo) :
    (ks.foldl f s).slot j = if j ∈ ks then g (env s) (s.slot j) else s.slot j := by
  induction ks generalizing s with
  | nil => rfl
  | cons k ks ih =>
    obtain ⟨fresh, rest⟩ := List.nodup_cons.mp nodup
    rw [List.foldl_cons, ih rest, keeps, step]
    by_cases same : k = j
    · subst same
      simp [fresh]
    · have other : j ≠ k := Ne.symm same
      simp [same, other]

theorem nodup_allSlots : allSlots.Nodup := List.nodup_finRange 192

theorem mem_allSlots (k : SlotNo) : k ∈ allSlots := List.mem_finRange k

/-- A change that makes of the record what it already is leaves the slots. -/
theorem State.slots_modRecord_of_fixed {s : State} {k : SlotNo} {f : Message → Message}
    (fixed : ∀ m, s.record k = some m → f m = m) : (s.modRecord k f).slots = s.slots := by
  apply vector_ext
  intro j
  change (s.modRecord k f).slot j = s.slot j
  rw [State.modRecord, State.slot_modSlot]
  split
  · next same =>
    subst same
    have record : (s.slot k).record.map f = (s.slot k).record := by
      cases there : (s.slot k).record with
      | none => rfl
      | some m => exact congrArg some (fixed m there)
    rw [record]
  · rfl

/-- What every slot is after an operation on all of them. -/
theorem foldl_allSlots {ε : Type} {env : State → ε} {f : State → SlotNo → State} {g : ε → Slot → Slot}
    (keeps : ∀ s k, env (f s k) = env s)
    (step : ∀ s k j, (f s k).slot j = if k = j then g (env s) (s.slot j) else s.slot j) (s : State) (j : SlotNo) :
    (allSlots.foldl f s).slot j = g (env s) (s.slot j) := by
  rw [foldl_slot keeps step nodup_allSlots, if_pos (mem_allSlots j)]

/-- The time and the routing, on which what happens to a record depends. -/
def State.resolution (s : State) : Nat × (Nat → Option Port) := (s.seconds, s.resolve)

/-- The time and the routing are those of the same routing state. -/
theorem State.resolution_congr {s t : State} (now : t.seconds = s.seconds) (routes : t.routes = s.routes)
    (default : t.defaultRoute = s.defaultRoute) (links : t.links = s.links) : t.resolution = s.resolution :=
  congrArg₂ Prod.mk now (funext (State.resolve_congr routes default links))

/-! ### Lease expiries -/

/-- The message in slot k has a lease of p that has run out (R114). -/
def State.Lapses (s : State) (k : SlotNo) (p : Port) : Prop :=
  ∃ m d mark, s.record k = some m ∧ m.custody = .handed p d mark ∧ d ≤ s.seconds

/-- A slot that is examined lapses where its lease has run out, and nothing else happens (R114). -/
theorem State.lapsed_cases (s : State) (k : SlotNo) :
    (∃ m p d mark, s.record k = some m ∧ m.custody = .handed p d mark ∧ d ≤ s.seconds
        ∧ s.lapsed k = (((s.withoutActive p).told (onlyPort p)
            { kind := .lapsed, handle := some (s.handleOf k), detail := .token m.token, time := s.seconds }).leftAs
          k (bounced s.seconds p .lapsed (s.resolve m.area).isSome m)).fencesSettled s.outstanding)
      ∨ (∀ p, ¬ s.Lapses k p) ∧ s.lapsed k = s := by
  unfold State.lapsed
  cases record : s.record k with
  | none => exact .inr ⟨fun p ⟨m, d, mark, there, _⟩ => (Option.some_ne_none m (there.symm.trans record)).elim, rfl⟩
  | some m =>
    have only {n : Message} (there : s.record k = some n) : n = m := Option.some.inj (there.symm.trans record)
    cases custody : m.custody with
    | handed p d mark =>
      by_cases due : d ≤ s.seconds
      · exact .inl ⟨m, p, d, mark, rfl, custody, due, by simp only [custody, if_pos due]⟩
      · refine .inr ⟨?_, by simp only [custody, if_neg due]⟩
        rintro q ⟨n, d', mark', there, handed, due'⟩
        obtain rfl := only there
        cases handed.symm.trans custody
        exact due due'
    | _ =>
      refine .inr ⟨?_, by simp only [custody]⟩
      rintro q ⟨n, d', mark', there, handed, -⟩
      obtain rfl := only there
      cases handed.symm.trans custody

/-- A lapse writes its own record alone among the slots (R114). -/
theorem State.lapsed_slot (s : State) (k j : SlotNo) :
    (s.lapsed k).slot j =
      if k = j then { s.slot j with record := (s.slot j).record.map (fun m =>
        lapsedIfDue s.resolution.1 (s.resolution.2 m.area).isSome m) }
      else s.slot j := by
  have slots : (s.lapsed k).slots
      = (s.modRecord k (fun m => lapsedIfDue s.seconds (s.resolve m.area).isSome m)).slots := by
    obtain ⟨m, p, d, mark, record, handed, due, eq⟩ | ⟨none, eq⟩ := s.lapsed_cases k
    · rw [eq, slots_fencesSettled, slots_leftAs, modRecord_eq_withRecord _ record]
      simp only [State.withRecord, State.modSlot, slots_told, State.withoutActive_slots, lapsedIfDue, handed,
        if_pos due]
    · rw [eq]
      refine (State.slots_modRecord_of_fixed fun m record => ?_).symm
      unfold lapsedIfDue
      split
      · next p d mark handed => exact if_neg fun due => none p ⟨m, d, mark, record, handed, due⟩
      all_goals rfl
  rw [State.slot, slots]
  exact State.slot_modSlot _ _ _ _

theorem State.lapsed_frame (s : State) (k : SlotNo) :
    s.lapsed k =
      { s with
        slots := (s.lapsed k).slots, flags := (s.lapsed k).flags, breakins := (s.lapsed k).breakins
        fences := (s.lapsed k).fences, noticeQueues := (s.lapsed k).noticeQueues } := by
  rw [← lapseIfDue_eq]
  exact lapseIfDue_frame s k

theorem State.resolution_lapsed (s : State) (k : SlotNo) : (s.lapsed k).resolution = s.resolution := by
  rw [State.lapsed_frame]
  rfl

/-- The lapse of one slot leaves the leases of the others. -/
theorem State.lapses_lapsed {s : State} {k j : SlotNo} (other : k ≠ j) (p : Port) :
    (s.lapsed k).Lapses j p ↔ s.Lapses j p := by
  have slot := s.lapsed_slot k j
  rw [if_neg other] at slot
  have record : (s.lapsed k).record j = s.record j := congrArg Slot.record slot
  have now : (s.lapsed k).seconds = s.seconds := congrArg Prod.fst (s.resolution_lapsed k)
  simp only [State.Lapses, record, now]

/-- A port's break-in state but for what is pending, with its active handoff cleared. -/
theorem handling_withoutActive (s : State) (p q : Port) :
    (s.withoutActive p).handling q = if p = q then { s.handling q with active := none } else s.handling q := by
  unfold State.withoutActive
  rw [handling_withoutPending]
  unfold State.handling
  rw [State.breakin_modBreakin]
  split <;> rfl

@[simp] theorem handling_fencesSettled (before : Nat) (s : State) (q : Port) :
    (s.fencesSettled before).handling q = s.handling q := by
  rw [← settleFences_eq, settleFences_frame]
  rfl

/-- A lapse clears the active handoff of its holder and leaves the rest of the break-in state but for what is pending. -/
theorem State.handling_lapsed (s : State) (k : SlotNo) (q : Port) [Decidable (s.Lapses k q)] :
    (s.lapsed k).handling q = if s.Lapses k q then { s.handling q with active := none } else s.handling q := by
  obtain ⟨m, p, d, mark, record, handed, due, eq⟩ | ⟨none, eq⟩ := s.lapsed_cases k
  · have iff : s.Lapses k q ↔ p = q := by
      constructor
      · rintro ⟨n, d', mark', there, handed', -⟩
        obtain rfl : n = m := Option.some.inj (there.symm.trans record)
        cases handed'.symm.trans handed
        rfl
      · rintro rfl
        exact ⟨m, d, mark, record, handed, due⟩
    rw [eq, handling_fencesSettled, handling_leftAs, handling_told, handling_withoutActive]
    simp only [iff]
  · rw [eq, if_neg (none q)]

/-- A lapse keeps every enable and every stack, and the active handoff of every port whose lease it is not. -/
theorem State.breakin_lapsed (s : State) (k : SlotNo) (q : Port) :
    ((s.lapsed k).breakin q).enable = (s.breakin q).enable ∧ ((s.lapsed k).breakin q).stack = (s.breakin q).stack
      ∧ (¬ s.Lapses k q → ((s.lapsed k).breakin q).active = (s.breakin q).active) := by
  classical
  have enable (t : State) : (t.breakin q).enable = (t.handling q).enable := rfl
  have stack (t : State) : (t.breakin q).stack = (t.handling q).stack := rfl
  have active (t : State) : (t.breakin q).active = (t.handling q).active := rfl
  rw [enable, enable, stack, stack, active, active, State.handling_lapsed]
  split
  · next lapses => exact ⟨rfl, rfl, fun not => absurd lapses not⟩
  · exact ⟨rfl, rfl, fun _ => rfl⟩

/-- Nothing is pending at a port with no active handoff, and no check makes it so (R126). -/
def State.Quiet (s : State) (p : Port) : Prop := (s.breakin p).active = none ∧ (s.breakin p).pending = none

/-- A check raises nothing at a port with no active handoff (R126). -/
theorem breakInCheck_of_idle {p : Port} {s : State} (idle : (s.breakin p).active = none) : breakInCheck p s = s := by
  have none : s.activeClass p = none := by simp only [State.activeClass, idle]
  rw [breakInCheck, none]

/-- A check of one port leaves every other port's break-in state. -/
theorem breakInCheck_otherPort {p q : Port} (other : p ≠ q) (s : State) :
    (breakInCheck p s).breakin q = s.breakin q := by
  unfold breakInCheck
  split
  · rfl
  · split
    · split
      · rfl
      · unfold raiseBreakIn
        split
        · rfl
        · exact (State.breakin_modBreakin _ _ _ _).trans (if_neg other)
    · rfl

theorem State.Quiet.breakInCheck {s : State} {p : Port} (quiet : s.Quiet p) (q : Port) :
    (breakInCheck q s).Quiet p := by
  by_cases same : q = p
  · rw [same, breakInCheck_of_idle quiet.1]
    exact quiet
  · unfold State.Quiet
    rw [breakInCheck_otherPort same]
    exact quiet

/-- Quiet reads the break-in state of the port alone. -/
theorem State.Quiet.congr {s t : State} {p : Port} (quiet : s.Quiet p) (same : t.breakin p = s.breakin p) :
    t.Quiet p := by
  unfold State.Quiet
  rw [same]
  exact quiet

theorem State.Quiet.leftAs {s : State} {p : Port} (quiet : s.Quiet p) (k : SlotNo) (m : Message) :
    (s.leftAs k m).Quiet p := by
  obtain ⟨queues, eq | ⟨q, eq⟩⟩ := s.leftAs_cases k m
  · rw [eq]
    exact quiet.congr rfl
  · rw [eq]
    have written : State.Quiet { s.withRecord k m with noticeQueues := queues } p := quiet.congr rfl
    exact written.breakInCheck q

theorem State.Quiet.fencesSettled {s : State} {p : Port} (quiet : s.Quiet p) (before : Nat) :
    (s.fencesSettled before).Quiet p := by
  rw [← settleFences_eq, settleFences_frame]
  exact quiet

/-- A port whose active handoff is cleared is quiet (R108). -/
theorem State.quiet_withoutActive (s : State) (p : Port) : (s.withoutActive p).Quiet p := by
  unfold State.withoutActive State.withoutPending
  cases pending : ((s.modBreakin p (fun b => { b with active := none })).breakin p).pending with
  | none =>
    refine ⟨?_, pending⟩
    rw [State.breakin_modBreakin_same]
  | some h =>
    have same (t : State) : (t.withoutBreakIn p h).breakin p = t.breakin p := rfl
    simp only [State.Quiet, same, State.breakin_modBreakin_same, and_self]

/-- The clearing of one port's active handoff leaves every other port's break-in state. -/
theorem State.withoutActive_otherPort {p q : Port} (other : p ≠ q) (s : State) :
    (s.withoutActive p).breakin q = s.breakin q := by
  unfold State.withoutActive State.withoutPending
  split
  · exact (State.breakin_modBreakin _ _ _ _).trans (if_neg other)
  · next h _ =>
    refine (State.breakin_modBreakin _ _ _ _).trans ((if_neg other).trans ?_)
    exact (State.breakin_modBreakin _ _ _ _).trans (if_neg other)

/-- A port is quiet after its own lapse, and stays quiet at every lapse. -/
theorem State.quiet_lapsed {s : State} {k : SlotNo} {p : Port} (why : s.Lapses k p ∨ s.Quiet p) :
    (s.lapsed k).Quiet p := by
  obtain ⟨m, q, d, mark, record, handed, due, eq⟩ | ⟨none, eq⟩ := s.lapsed_cases k
  · rw [eq]
    refine State.Quiet.fencesSettled (State.Quiet.leftAs (?_ : State.Quiet (State.told _ _ _) p) k _) _
    by_cases same : q = p
    · subst same
      exact s.quiet_withoutActive q
    · obtain ⟨n, d', mark', there, handed', -⟩ | quiet := why
      · obtain rfl : n = m := Option.some.inj (there.symm.trans record)
        cases handed'.symm.trans handed
        exact absurd rfl same
      · have breakin : (s.withoutActive q).breakin p = s.breakin p := State.withoutActive_otherPort same s
        change (s.withoutActive q).Quiet p
        unfold State.Quiet
        rw [breakin]
        exact quiet
  · rw [eq]
    exact why.resolve_left (none p)

/-- The lapses of a list of slots: a port whose handoff is among them is quiet afterwards, any other keeps its active
handoff; and every port keeps its enable and its stack. -/
theorem foldl_lapsed {ks : List SlotNo} (nodup : ks.Nodup) (s : State) (p : Port) :
    ((∃ k ∈ ks, s.Lapses k p) ∨ s.Quiet p → (ks.foldl State.lapsed s).Quiet p)
      ∧ ((∀ k ∈ ks, ¬ s.Lapses k p) → ((ks.foldl State.lapsed s).breakin p).active = (s.breakin p).active)
      ∧ ((ks.foldl State.lapsed s).breakin p).enable = (s.breakin p).enable
      ∧ ((ks.foldl State.lapsed s).breakin p).stack = (s.breakin p).stack := by
  induction ks generalizing s with
  | nil => exact ⟨fun why => why.resolve_left nofun, fun _ => rfl, rfl, rfl⟩
  | cons k ks ih =>
    obtain ⟨fresh, rest⟩ := List.nodup_cons.mp nodup
    obtain ⟨quiet, keeps, enable, stack⟩ := ih rest (s.lapsed k)
    obtain ⟨sameEnable, sameStack, sameActive⟩ := s.breakin_lapsed k p
    have other {j : SlotNo} (member : j ∈ ks) : k ≠ j := fun same => fresh (same ▸ member)
    rw [List.foldl_cons]
    refine ⟨fun why => quiet ?_, fun none => ?_, enable.trans sameEnable, stack.trans sameStack⟩
    · obtain ⟨j, member, lapses⟩ | already := why
      · obtain rfl | later := List.mem_cons.mp member
        · exact .inr (State.quiet_lapsed (.inl lapses))
        · exact .inl ⟨j, later, (State.lapses_lapsed (other later) p).mpr lapses⟩
      · exact .inr (State.quiet_lapsed (.inr already))
    · rw [keeps fun j member lapses =>
          none j (List.mem_cons_of_mem k member) ((State.lapses_lapsed (other member) p).mp lapses),
        sameActive (none k List.mem_cons_self)]

/-- A message whose lease has run out is not left as it was: it is no longer HANDED. -/
theorem bounced_ne (now : Nat) (p : Port) (e : HistoryEvent) (resolves : Bool) {m : Message} {q : Port} {d : Nat}
    {mark : Bool} (handed : m.custody = .handed q d mark) : bounced now p e resolves m ≠ m := by
  have custody : (∃ r, (bounced now p e resolves m).custody = .held r)
      ∨ (bounced now p e resolves m).custody = .queued := by
    unfold bounced returned
    simp only
    repeat' split
    all_goals simp
  intro same
  rw [same, handed] at custody
  simp at custody

/-- The lapses that the statement counts are the leases that have run out. -/
theorem counted_lapses_iff (s : State) (p : Port) :
    0 < s.counted (fun m => decide (lapsedIfDue s.seconds (s.resolve m.area).isSome m ≠ m)
        && decide (m.custody.holder = some p)) ↔ ∃ k ∈ allSlots, s.Lapses k p := by
  rw [State.counted, List.countP_pos_iff]
  refine exists_congr fun k => and_congr Iff.rfl ?_
  cases record : s.record k with
  | none =>
    simp only [Bool.false_eq_true, false_iff]
    rintro ⟨m, d, mark, there, -⟩
    exact Option.some_ne_none m (there.symm.trans record)
  | some m =>
    simp only [Bool.and_eq_true, decide_eq_true_eq]
    constructor
    · rintro ⟨changed, holder⟩
      unfold lapsedIfDue at changed
      split at changed
      · next q d mark handed =>
        rw [handed] at holder
        cases holder
        by_cases due : d ≤ s.seconds
        · exact ⟨m, d, mark, record, handed, due⟩
        · exact absurd (if_neg due) changed
      all_goals exact absurd rfl changed
    · rintro ⟨n, d, mark, there, handed, due⟩
      obtain rfl : m = n := Option.some.inj (record.symm.trans there)
      refine ⟨?_, by rw [handed]; rfl⟩
      simp only [lapsedIfDue, handed, if_pos due]
      exact bounced_ne _ _ _ _ handed

/-- The taking of a tick's lease expiries in the statements' terms. -/
theorem takeLeaseTick_eq {s : State} (tick : s.leaseTick = true) (slots : List SlotNo) :
    takeLeaseTick slots s = slots.foldl State.lapsed { s with leaseTick := false } := by
  rw [takeLeaseTick, if_pos tick, show lapseIfDue = State.lapsed from funext₂ lapseIfDue_eq]

/-- Settles O36: each examination writes its own record and the break-in state of its holder, so the fold over the slots does
to every record what its lease asks. -/
theorem leasesLapseAtTheTick : Obligations.LeasesLapseAtTheTick := by
  intro s supply
  have exec_eq : exec .leaseExpiry s = .next (takeLeaseTick allSlots s) :=
    whenPowered_of_supply supply (takeLeaseTick allSlots)
  refine ⟨fun taken => ?still, fun tick => ?lapses⟩
  case still => rw [exec_eq, takeLeaseTick, if_neg (by simp [taken])]
  case lapses =>
    intro u
    have taken : takeLeaseTick allSlots s = u := takeLeaseTick_eq tick allSlots
    refine ⟨by rw [exec_eq, taken], fun k => ?slot, fun p => ?breakin, ?frame⟩
    case slot =>
      exact foldl_allSlots (env := State.resolution)
        (g := fun now x => { x with record := x.record.map (fun m => lapsedIfDue now.1 (now.2 m.area).isSome m) })
        State.resolution_lapsed State.lapsed_slot { s with leaseTick := false } k
    case breakin =>
      obtain ⟨quiet, keeps, enable, stack⟩ := foldl_lapsed nodup_allSlots { s with leaseTick := false } p
      refine ⟨enable, stack, ?_⟩
      split
      · next counted => exact quiet (.inl ((counted_lapses_iff s p).mp counted))
      · next none =>
        exact keeps fun k member lapses => none ((counted_lapses_iff s p).mpr ⟨k, member, lapses⟩)
    case frame =>
      have frame := takeLeaseTick_frame allSlots s
      rw [taken] at frame
      exact frame

/-! ### Delivery-deadline expiries -/

/-- An expiry writes its own record alone among the slots (R116). -/
theorem State.expired_slot (s : State) (k j : SlotNo) :
    (s.expired k).slot j =
      if k = j then { s.slot j with record := (s.slot j).record.map (expiredIfDue s.seconds) } else s.slot j := by
  have slots : (s.expired k).slots = (s.modRecord k (expiredIfDue s.seconds)).slots := by
    unfold State.expired
    split
    · next record =>
      exact (State.slots_modRecord_of_fixed fun m there => nomatch record.symm.trans there).symm
    · next m record =>
      split
      · next due =>
        refine slots_leaving fun t slots => ?_
        rw [slots_leftAs, modRecord_eq_withRecord _ record]
        simp only [State.withRecord, State.modSlot, slots, expiredIfDue, if_pos due]
      · next notDue =>
        refine (State.slots_modRecord_of_fixed fun n there => ?_).symm
        obtain rfl : m = n := Option.some.inj (record.symm.trans there)
        exact if_neg notDue
  rw [State.slot, slots]
  exact State.slot_modSlot _ _ _ _

/-- An expiry leaves the break-in state but for what is pending. -/
theorem State.handling_expired (s : State) (k : SlotNo) (q : Port) : (s.expired k).handling q = s.handling q := by
  unfold State.expired
  split
  · rfl
  · split
    · exact handling_leaving (fun t => handling_leftAs t k _ q) s k
    · rfl

theorem State.seconds_expired (s : State) (k : SlotNo) : (s.expired k).seconds = s.seconds := by
  rw [← expireIfDue_eq, expireIfDue_frame]

/-- A fold of expiries changes what an expiry does. -/
theorem foldl_expired_frame (ks : List SlotNo) (s : State) :
    ks.foldl State.expired s =
      { s with
        slots := (ks.foldl State.expired s).slots, breakins := (ks.foldl State.expired s).breakins
        noticeQueues := (ks.foldl State.expired s).noticeQueues, flags := (ks.foldl State.expired s).flags } :=
  foldl_frame
    (frame := fun s t => { s with
      slots := t.slots, breakins := t.breakins, noticeQueues := t.noticeQueues, flags := t.flags })
    (fun _ => rfl) (fun _ _ _ => rfl)
    (fun s k => by rw [← expireIfDue_eq]; exact expireIfDue_frame s k) ks s

/-- The taking of a tick's delivery-deadline expiries in the statements' terms. -/
theorem takeDeadlineTick_eq {s : State} (tick : s.deadlineTick = true) (lease : s.leaseTick = false)
    (leases : List SlotNo) :
    takeDeadlineTick leases s = allSlots.foldl State.expired { s with deadlineTick := false } := by
  have taken : takeLeaseTick leases s = s := if_neg (by simp [lease])
  rw [takeDeadlineTick, taken]
  simp only [if_pos tick]
  rw [show expireIfDue = State.expired from funext₂ expireIfDue_eq]

/-- The lease expiries of a tick that have been taken are not taken again with its delivery-deadline expiries. -/
theorem takeDeadlineTick_takeLeaseTick (leases : List SlotNo) (s : State) :
    takeDeadlineTick leases (takeLeaseTick leases s) = takeDeadlineTick leases s := by
  have none : (takeLeaseTick leases s).leaseTick = false := by rw [takeLeaseTick_frame]
  have taken : takeLeaseTick leases (takeLeaseTick leases s) = takeLeaseTick leases s := if_neg (by simp [none])
  rw [takeDeadlineTick, taken]
  rfl

/-- Settles O37: each examination writes its own record and, of the break-in state, only what is pending. -/
theorem deadlinesPassAtTheTick : Obligations.DeadlinesPassAtTheTick := by
  intro s supply
  have exec_eq {t : State} (supply : t.supplyLow = false) :
      exec .deliveryDeadlineExpiry t = .next (takeDeadlineTick allSlots t) :=
    whenPowered_of_supply supply (takeDeadlineTick allSlots)
  refine ⟨fun deadline lease => ?still, fun tick => ⟨takeLeaseTick allSlots s,
    whenPowered_of_supply supply (takeLeaseTick allSlots), ?lease⟩, fun tick lease => ?expires⟩
  case still =>
    have taken : takeLeaseTick allSlots s = s := if_neg (by simp [lease])
    rw [exec_eq supply, takeDeadlineTick, taken]
    exact congrArg _ (if_neg (by simp [deadline]))
  case lease =>
    have supply' : (takeLeaseTick allSlots s).supplyLow = false := by rw [takeLeaseTick_frame]; exact supply
    refine ⟨by rw [takeLeaseTick_frame], by rw [takeLeaseTick_frame], ?_⟩
    rw [exec_eq supply, exec_eq supply', takeDeadlineTick_takeLeaseTick]
  case expires =>
    intro u
    refine ⟨by rw [exec_eq supply, takeDeadlineTick_eq tick lease], fun k => ?slot, fun p => ?breakin,
      foldl_expired_frame ..⟩
    case slot =>
      exact foldl_allSlots (env := State.seconds)
        (g := fun now x => { x with record := x.record.map (expiredIfDue now) }) State.seconds_expired
        State.expired_slot { s with deadlineTick := false } k
    case breakin =>
      exact (State.handling_eq_iff ..).mp (foldl_keeps (view := fun s => s.handling p)
        (fun s k => State.handling_expired s k p) allSlots { s with deadlineTick := false })

end Sys2Proof.Machine
end

section
/-! The break-in check (R126), the handing out (R103), the suspension (R131) and the resumption (R136). -/

namespace Sys2Proof.Machine

/-! ### The ranked messages -/

/-- What is ranked is the evaluation of the message in its slot (R83, R90). -/
theorem State.evaluation_of_ranked {s : State} {ks : List SlotNo} {e : Evaluation} (ranked : e ∈ s.ranked ks) :
    ∃ k ∈ ks, ∃ m, s.record k = some m ∧ e = evaluate s.scoring s.seconds k m := by
  have evaluated : e ∈ ks.filterMap s.evaluation := (inQueueOrder_perm _).mem_iff.mp ranked
  obtain ⟨k, member, evaluation⟩ := List.mem_filterMap.mp evaluated
  obtain ⟨m, record, rfl⟩ := Option.map_eq_some_iff.mp evaluation
  exact ⟨k, member, m, record, rfl⟩

/-- A ranked message stands in one of the slots that are ranked. -/
theorem State.slot_mem_of_ranked {s : State} {ks : List SlotNo} {e : Evaluation} (ranked : e ∈ s.ranked ks) :
    e.slot ∈ ks := by
  obtain ⟨k, member, m, -, rfl⟩ := State.evaluation_of_ranked ranked
  exact member

/-- The messages of a queue that are of a higher class, slot by slot (R126). -/
theorem State.eligible_eq (s : State) (p : Port) (c : Class) :
    s.eligible p c = allSlots.filter (fun k => decide (s.queueOf k = some p)
      && (match s.record k with | some n => decide (c.code < n.klass.code) | none => false)) := by
  rw [State.eligible, State.queue, List.filter_filter]
  refine List.filter_congr fun k _ => ?_
  rw [Bool.and_comm]
  rfl

/-- A message that is eligible is QUEUED in the port's queue, with the higher class (R126). -/
theorem State.mem_eligible {s : State} {p : Port} {c : Class} {k : SlotNo} :
    k ∈ s.eligible p c ↔ s.queueOf k = some p ∧ ∃ n, s.record k = some n ∧ c.code < n.klass.code := by
  rw [State.eligible_eq, List.mem_filter, Bool.and_eq_true, decide_eq_true_eq]
  refine ⟨fun both => ⟨both.2.1, ?_⟩, fun both => ⟨mem_allSlots k, both.1, ?_⟩⟩
  · cases record : s.record k with
    | none => simp [record] at both
    | some n => exact ⟨n, rfl, by simpa [record] using both.2.2⟩
  · obtain ⟨n, record, higher⟩ := both.2
    simpa [record] using higher

/-! ### The break-in check -/

/-- A check raises nothing where the enable is off or a break-in is pending (R126). -/
theorem breakInCheck_of_off {p : Port} {s : State} (off : (s.breakin p).enable = false ∨ (s.breakin p).pending ≠ none) :
    breakInCheck p s = s := by
  unfold breakInCheck
  split
  · rfl
  · refine if_neg fun both => ?_
    obtain off | pending := off
    · simp [off] at both
    · exact pending both.2

/-- A check leaves every stack (R126). -/
theorem breakInCheck_stack (p q : Port) (s : State) : ((breakInCheck p s).breakin q).stack = (s.breakin q).stack := by
  rw [breakInCheck_breakin]

/-- The active handoff's class is that of its message (R126). -/
theorem State.activeClass_eq {s : State} {p : Port} {a : Handoff} {m : Message} (active : (s.breakin p).active = some a)
    (record : s.record a.handle.slot = some m) : s.activeClass p = some m.klass := by
  simp only [State.activeClass, active, record, Option.map_some]

/-- A check finds nothing higher (R126). -/
theorem breakInCheck_of_none_higher {p : Port} {s : State} {c : Class} (active : s.activeClass p = some c)
    (none : s.ranked (s.eligible p c) = []) : breakInCheck p s = s := by
  simp only [breakInCheck, active, none, ite_self]

/-- A check names the first of the higher messages (R126). -/
theorem breakInCheck_of_higher {p : Port} {s : State} {c : Class} {e : Evaluation} {es : List Evaluation} {n : Message}
    (active : s.activeClass p = some c) (enable : (s.breakin p).enable = true) (free : (s.breakin p).pending = none)
    (ranked : s.ranked (s.eligible p c) = e :: es) (record : s.record e.slot = some n) :
    breakInCheck p s =
      ((setStickyFlags p (e :: es) s).modBreakin p (fun b => { b with pending := some (s.handleOf e.slot) })).told
        (onlyPort p)
        { kind := .breakIn, handle := some (s.handleOf e.slot), detail := .klass n.klass, time := s.seconds } := by
  simp only [breakInCheck, active, enable, free, and_self, if_true, ranked]
  have there : (setStickyFlags p (e :: es) s).record e.slot = some n := record
  simp only [raiseBreakIn, there]
  exact post_eq_told ..

/-- A check does nothing, or raises a break-in of a message of the queue of a higher class (R126). -/
theorem breakInCheck_cases (p : Port) (s : State) :
    breakInCheck p s = s
      ∨ ∃ c k n es, s.activeClass p = some c ∧ (s.breakin p).enable = true ∧ (s.breakin p).pending = none
        ∧ k ∈ s.eligible p c ∧ s.record k = some n
        ∧ breakInCheck p s =
          ((setStickyFlags p es s).modBreakin p (fun b => { b with pending := some (s.handleOf k) })).told (onlyPort p)
            { kind := .breakIn, handle := some (s.handleOf k), detail := .klass n.klass, time := s.seconds } := by
  cases active : s.activeClass p with
  | none => exact .inl (by rw [breakInCheck, active])
  | some c =>
    by_cases off : (s.breakin p).enable = false ∨ (s.breakin p).pending ≠ none
    · exact .inl (breakInCheck_of_off off)
    · obtain ⟨enable, free⟩ := not_or.mp off
      have enable := Bool.eq_true_of_not_eq_false enable
      have free := not_not.mp free
      cases ranked : s.ranked (s.eligible p c) with
      | nil => exact .inl (breakInCheck_of_none_higher active ranked)
      | cons e es =>
        obtain ⟨k, member, n, record, rfl⟩ := State.evaluation_of_ranked (ranked ▸ List.mem_cons_self)
        exact .inr ⟨c, k, n, _, rfl, enable, free, member, record,
          breakInCheck_of_higher active enable free ranked record⟩

/-- Settles O39: the four outcomes of the check, with what is eligible in the statement's terms. -/
theorem breakInCheckNamesTheFirst : Obligations.BreakInCheckNamesTheFirst := by
  intro p s
  refine ⟨?idle, fun a m active record enable free => ?check⟩
  case idle =>
    rintro (idle | off)
    · exact breakInCheck_of_idle idle
    · exact breakInCheck_of_off off
  case check =>
    intro higher
    have eligible : s.eligible p m.klass = higher := s.eligible_eq p m.klass
    have class_eq := State.activeClass_eq active record
    refine ⟨fun empty => breakInCheck_of_none_higher class_eq ?_, fun e es n ranked there => ?_⟩
    · rw [eligible, empty]
      rfl
    · exact breakInCheck_of_higher class_eq enable free (by rw [eligible, ranked]) there

/-! ### NEXT -/

/-- The message that was handed out is in its slot. -/
theorem handedPayload_eq {s : State} {e : Evaluation} {m : Message} (record : s.record e.slot = some m) :
    handedPayload s e = custodyPart (s.handleOf e.slot) m ++ be2 (twos 16 e.score) ++ be4 (twos 32 e.sum) := by
  simp only [handedPayload, record]
  rfl

/-- Settles O32: the three refusals, and the handing out of the first ranked message. -/
theorem nextHandsOutTheFirst : Obligations.NextHandsOutTheFirst := by
  intro p s rq serving
  refine ⟨fun a active => exec_of_reply serving ?_, fun idle suspended => exec_of_reply serving ?_,
    fun idle empty none => exec_of_reply serving ?_, fun e es m idle empty free ranked record => ?_⟩
  · simp only [blockAct, nextMessage, active]
    rfl
  · simp only [blockAct, nextMessage, idle, if_pos suspended]
    rfl
  · have none : s.ranked (s.queue p) = [] := by rw [none]; rfl
    simp only [blockAct, nextMessage, idle, empty, ne_eq, not_true, if_false, none]
    rfl
  · intro handed
    refine exec_of_reply serving ?_
    simp only [blockAct, nextMessage, idle, empty, ne_eq, not_true, if_false, ranked]
    have there : (setStickyFlags p (e :: es) s).record e.slot = some m := record
    rw [handOut_eq there free]
    refine Prod.ext (congrArg (Reply.mk .ok) ?_) rfl
    refine (handedPayload_eq (m := handed)
      (State.record_withRecord_same (setStickyFlags p (e :: es) s) e.slot handed)).trans ?_
    exact congrArg (fun h => custodyPart h handed ++ be2 (twos 16 e.score) ++ be4 (twos 32 e.sum))
      (State.handleOf_withRecord (setStickyFlags p (e :: es) s) e.slot e.slot handed)

/-! ### NEXT-BREAKIN -/

/-- The handle of a NEXT-BREAKIN or a RESUME, where its slot number is in range (R192). -/
theorem HandleField.read_of_slot {h : HandleField} {k : SlotNo} (slot : h.slot.toNat = k.val) :
    HandleField.read h = some { slot := k, inc := HandleField.incarnation h } := by
  rw [HandleField.read, HandleField.slotNo_eq_some.mpr slot]
  rfl

theorem HandleField.read_of_high {h : HandleField} (high : 191 < h.slot.toNat) : HandleField.read h = none := by
  rw [HandleField.read, slotNo_eq_none high]
  rfl

/-- A current handle reads as the handle of its slot (R5). -/
theorem HandleField.read_of_names {h : HandleField} {k : SlotNo} {s : State} (names : Names h k s) :
    HandleField.read h = some (s.handleOf k) := by
  rw [HandleField.read_of_slot names.1, incarnation_eq_iff.mpr names.2]
  rfl

/-- The handle that a request gives is a handle in hand where slot number and incarnation are (R192). -/
theorem Handle.eq_read_iff {a : Handle} {h : HandleField} {k : SlotNo} :
    a = { slot := k, inc := HandleField.incarnation h } ↔ a.slot = k ∧ a.inc.toNat = h.inc.toNat % 16 := by
  cases a
  simp only [Handle.mk.injEq]
  refine and_congr Iff.rfl ?_
  rw [eq_comm, incarnation_eq_iff, eq_comm]

/-- Two changes of a break-in state are one. -/
theorem State.modBreakin_modBreakin (s : State) (p : Port) (f g : BreakIn → BreakIn) :
    (s.modBreakin p f).modBreakin p g = s.modBreakin p (fun b => g (f b)) := by
  simp only [State.modBreakin, vmod_vmod]

/-- Changes of a break-in state that agree there are one. -/
theorem State.modBreakin_congr {s : State} {p : Port} {f g : BreakIn → BreakIn}
    (same : f (s.breakin p) = g (s.breakin p)) : s.modBreakin p f = s.modBreakin p g := by
  have breakins : vmod s.breakins p f = vmod s.breakins p g := by
    apply vector_ext
    intro q
    rw [get_vmod, get_vmod]
    split
    · next eq =>
      subst eq
      exact same
    · rfl
  rw [State.modBreakin, State.modBreakin, breakins]

/-- No break-in is pending after the withdrawal (R128). -/
theorem State.pending_withoutPending (s : State) (p : Port) : ((s.withoutPending p).breakin p).pending = none := by
  unfold State.withoutPending
  cases pending : (s.breakin p).pending with
  | none => exact pending
  | some h => exact congrArg BreakIn.pending (State.breakin_modBreakin_same ..)

/-- The withdrawal leaves every stack (R128). -/
theorem State.stack_withoutPending (s : State) (p q : Port) :
    ((s.withoutPending p).breakin q).stack = (s.breakin q).stack := by
  rw [State.withoutPending_breakin]

/-- The suspension of a HANDED message in the statements' terms (R131). -/
theorem suspend_eq {k : SlotNo} {p : Port} {a : Handoff} {m : Message} {s : State} {deadline : Nat} {mark : Bool}
    (record : s.record k = some m) (handed : m.custody = .handed p deadline mark) :
    suspend k p a m s =
      let suspended : Message := { m with custody := .suspended p (deadline - s.seconds) mark }
      ((((s.withRecord k suspended).told m.watchers (stateChange s k suspended)).modBreakin p (fun b =>
        { b with
          active := none, enable := false
          stack :=
            { handle := a.handle, token := a.token, leaseRemaining := deadline - s.seconds
              savedEnable := (s.breakin p).enable, klass := m.klass, revoked := false } :: b.stack })).withoutPending p) := by
  have there (f : BreakIn → BreakIn) : (s.modBreakin p f).record k = some m := record
  unfold suspend
  simp only [handed, Custody.leaseLeft, clearPendingBreakIn_eq, modRecord_eq_withRecord _ (there _), Custody.marked,
    notifyWatchers_withRecord]
  refine congrArg (fun t => State.withoutPending t p) ?_
  let suspended : Message := { m with custody := .suspended p (deadline - s.seconds) mark }
  exact State.modBreakin_modBreakin ((s.withRecord k suspended).told m.watchers (stateChange s k suspended)) p
    (fun b => { b with stack :=
      { handle := a.handle, token := a.token, leaseRemaining := deadline - s.seconds
        savedEnable := (s.breakin p).enable, klass := m.klass, revoked := false } :: b.stack })
    (fun b => { b with active := none, enable := false })

/-- Settles O41: the refusals, and the suspension followed by the handing out of the first eligible message, which is not
the message suspended, since that is not QUEUED. -/
theorem nextBreakinSuspendsAndHandsOut : Obligations.NextBreakinSuspendsAndHandsOut := by
  refine ⟨fun p h token s rq serving high => exec_of_refusal serving ?bad,
    fun p h token k s rq serving slot => ⟨fun none => exec_of_refusal serving ?none,
      fun pending other => exec_of_refusal serving ?stale,
      fun named m n deadline mark e es names pending enable active record handed ranked there => ?taken⟩⟩
  case bad => simp only [blockAct, nextBreakin, HandleField.read_of_high high]
  case none => simp only [blockAct, nextBreakin, HandleField.read_of_slot slot, none]
  case stale =>
    obtain ⟨named, pending⟩ := Option.ne_none_iff_exists'.mp pending
    simp only [blockAct, nextBreakin, HandleField.read_of_slot slot, pending]
    refine if_neg fun active => other _ active ⟨rfl, ?_, rfl⟩
    simp [HandleField.incarnation]
  case taken =>
    intro suspended handedOut s₁ s₂ s₃
    refine exec_of_reply serving ?_
    have queued : s.queueOf e.slot = some p :=
      (State.mem_eligible.mp (State.slot_mem_of_ranked (ranked ▸ List.mem_cons_self))).1
    have other : k ≠ e.slot := by
      rintro same
      obtain ⟨u, record', queued', -⟩ := State.queueOf_eq_some queued
      rw [← same, record] at record'
      cases record'
      rw [handed] at queued'
      cases queued'
    have suspension : suspend k p { handle := s.handleOf k, token := token } m (setStickyFlags p (e :: es) s) = s₂ := by
      rw [suspend_eq (s := setStickyFlags p (e :: es) s) record handed]
      have enable' : ((setStickyFlags p (e :: es) s).breakin p).enable = true := enable
      rw [enable']
      rfl
    have frame : s₂ = { s₁ with breakins := s₂.breakins, noticeQueues := s₂.noticeQueues } := by
      change State.withoutPending _ p = _
      rw [← clearPendingBreakIn_eq, clearPendingBreakIn_frame]
      rfl
    have record₂ : s₂.record e.slot = some n := by
      rw [frame]
      exact (State.record_withRecord_other other).trans there
    have handle₂ (j : SlotNo) : s₂.handleOf j = s.handleOf j := by
      rw [frame]
      exact State.handleOf_withRecord ..
    have out : handOut e.slot p s₂ = s₃ := by
      rw [handOut_eq record₂ (State.pending_withoutPending _ p)]
      have now : s₂.seconds = s.seconds := by rw [frame]; rfl
      have lease : s₂.scoring = s.scoring := by rw [frame]; rfl
      simp only [stateChange, handle₂, now, lease]
      rfl
    simp only [blockAct, nextBreakin, HandleField.read_of_names names, pending, active, if_true]
    have slot_eq : (s.handleOf k).slot = k := rfl
    rw [slot_eq, record]
    simp only [ranked, suspension, out]
    have handle₃ : s₃.handleOf e.slot = s.handleOf e.slot :=
      (State.handleOf_withRecord s₂ e.slot e.slot handedOut).trans (handle₂ e.slot)
    have stack₃ : (s₃.breakin p).stack.length = (s.breakin p).stack.length + 1 := by
      have written : s₃.breakin p
          = { s₂.breakin p with active := some { handle := s.handleOf e.slot, token := n.token + 1 } } :=
        State.breakin_modBreakin_same (s₂.withRecord e.slot handedOut) p _
      rw [written]
      refine (congrArg List.length (State.stack_withoutPending _ p p)).trans ?_
      rw [State.breakin_modBreakin_same]
      rfl
    have payload : handedPayload s₃ e
        = custodyPart (s₃.handleOf e.slot) handedOut ++ be2 (twos 16 e.score) ++ be4 (twos 32 e.sum) :=
      handedPayload_eq (State.record_withRecord_same s₂ e.slot handedOut)
    rw [payload, handle₃, stack₃]
    rfl

/-! ### RESUME -/

/-- The pop of the top record (R136). -/
theorem popRecord_eq {p : Port} {r : Suspension} {rest : List Suspension} {s : State}
    (stack : (s.breakin p).stack = r :: rest) :
    popRecord p r s = s.modBreakin p (fun b => { b with stack := rest, enable := r.savedEnable }) :=
  State.modBreakin_congr (by rw [stack]; rfl)

/-- The resumption of a message in the statements' terms (R136). -/
theorem resumeRecord_popRecord_eq {p : Port} {r : Suspension} {rest : List Suspension} {m : Message} {remaining : Nat}
    {mark : Bool} {s : State} (stack : (s.breakin p).stack = r :: rest) (record : s.record r.handle.slot = some m)
    (suspended : m.custody = .suspended p remaining mark) :
    resumeRecord p r (popRecord p r s) =
      let handed : Message := { m with custody := .handed p (min (s.seconds + r.leaseRemaining) 4294967295) mark }
      breakInCheck p (((s.withRecord r.handle.slot handed).modBreakin p (fun b =>
        { b with
          stack := rest, enable := r.savedEnable
          active := some { handle := r.handle, token := r.token } })).told m.watchers
            (stateChange s r.handle.slot handed)) := by
  have popped : (popRecord p r s).record r.handle.slot = some m := record
  unfold resumeRecord
  simp only [modRecord_eq_withRecord _ popped, suspended, Custody.marked]
  refine congrArg (breakInCheck p) ?_
  let handed : Message := { m with custody := .handed p (min (s.seconds + r.leaseRemaining) 4294967295) mark }
  let written := ((popRecord p r s).withRecord r.handle.slot handed).modBreakin p
    (fun b => { b with active := some { handle := r.handle, token := r.token } })
  have told : notifyWatchers r.handle.slot written
      = written.told m.watchers (stateChange s r.handle.slot handed) := by
    have there : written.record r.handle.slot = some handed :=
      State.record_withRecord_same (popRecord p r s) r.handle.slot handed
    rw [notifyWatchers_eq_told there]
    exact congrArg (written.told m.watchers)
      (stateChange_withRecord (popRecord p r s) r.handle.slot r.handle.slot handed handed)
  refine told.trans (congrArg (fun t => State.told t m.watchers (stateChange s r.handle.slot handed)) ?_)
  simp only [written, popRecord_eq stack]
  exact State.modBreakin_modBreakin (s.withRecord r.handle.slot handed) p
    (fun b => { b with stack := rest, enable := r.savedEnable }) _

/-- Settles O42: the refusals, and the pop, after which a revoked record leaves no active handoff to check for. -/
theorem resumePopsTheTopRecord : Obligations.ResumePopsTheTopRecord := by
  refine ⟨fun p h token s rq serving high => exec_of_refusal serving ?bad,
    fun p h token k s rq serving slot => ⟨fun a active => exec_of_reply serving ?handoffOpen,
      fun idle empty => exec_of_refusal serving ?nothing,
      fun r rest idle stack => ⟨fun other => exec_of_refusal serving ?stale, fun slotSame incSame tokenSame => ?popped⟩⟩⟩
  case bad => simp only [blockAct, resume, HandleField.read_of_high high]
  case handoffOpen =>
    simp only [blockAct, resume, HandleField.read_of_slot slot, active]
    rfl
  case nothing => simp only [blockAct, resume, HandleField.read_of_slot slot, idle, empty]
  case stale =>
    simp only [blockAct, resume, HandleField.read_of_slot slot, idle, stack]
    refine if_neg fun both => other ?_
    obtain ⟨slotSame, incSame⟩ := Handle.eq_read_iff.mp both.1
    exact ⟨slotSame, incSame, both.2⟩
  case popped =>
    subst tokenSame slotSame
    have named : r.handle = { slot := r.handle.slot, inc := HandleField.incarnation h } :=
      Handle.eq_read_iff.mpr ⟨rfl, incSame⟩
    have reads : HandleField.read h = some r.handle := (HandleField.read_of_slot slot).trans (congrArg some named.symm)
    refine ⟨fun revoked => exec_of_reply serving ?revoked,
      fun m remaining mark live record suspended => ?resumed⟩
    case revoked =>
      have none : ((popRecord p r s).breakin p).active = none := by
        rw [popRecord, State.breakin_modBreakin_same]
        exact idle
      simp only [blockAct, resume, reads, idle, stack, revoked, and_self, if_true, breakInCheck_of_idle none]
      rw [popRecord_eq stack, State.breakin_modBreakin_same]
      simp [answer]
    case resumed =>
      intro deadline handed u
      refine exec_of_reply serving ?_
      simp only [blockAct, resume, reads, idle, stack, live, and_self, if_true, Bool.false_eq_true, if_false,
        resumeRecord_popRecord_eq stack record suspended]
      have written : (((s.withRecord r.handle.slot handed).modBreakin p (fun b =>
          { b with
            stack := rest, enable := r.savedEnable
            active := some { handle := r.handle, token := r.token } })).told m.watchers
              (stateChange s r.handle.slot handed)).breakin p
          = { s.breakin p with
              stack := rest, enable := r.savedEnable, active := some { handle := r.handle, token := r.token } } :=
        State.breakin_modBreakin_same (s.withRecord r.handle.slot handed) p _
      have enable : (u.breakin p).enable = r.savedEnable := (breakInCheck_enable p p _).trans (by rw [written])
      have stack : (u.breakin p).stack = rest := (breakInCheck_stack p p _).trans (by rw [written])
      refine Prod.ext (congrArg (Reply.mk .ok) ?_) rfl
      change resumedBytes u p r deadline = _
      simp [resumedBytes, enable, stack]

end Sys2Proof.Machine
end

section
/-! EXTEND and DISPOSE behind the handoff check (R105 to R113). -/

namespace Sys2Proof.Machine

/-! ### What is read of a part after an operation -/

theorem State.record_congr {s t : State} (slots : t.slots = s.slots) (k : SlotNo) : t.record k = s.record k := by
  rw [State.record, slots]
  rfl

theorem State.handleOf_congr {s t : State} (slots : t.slots = s.slots) (k : SlotNo) : t.handleOf k = s.handleOf k := by
  rw [State.handleOf, State.slot, slots]
  rfl

@[simp] theorem resolve_breakInCheck (p : Port) (s : State) (area : Nat) :
    (breakInCheck p s).resolve area = s.resolve area := by
  rw [breakInCheck_frame]
  rfl

@[simp] theorem resolve_leftAs (s : State) (k : SlotNo) (m : Message) (area : Nat) :
    (s.leftAs k m).resolve area = s.resolve area := by
  obtain ⟨queues, eq | ⟨q, eq⟩⟩ := s.leftAs_cases k m
  · rw [eq]
    rfl
  · rw [eq, resolve_breakInCheck]
    rfl

@[simp] theorem resolve_fencesSettled (before : Nat) (s : State) (area : Nat) :
    (s.fencesSettled before).resolve area = s.resolve area := by
  rw [← settleFences_eq, settleFences_frame]
  rfl

/-- The record that is left stands in its slot, under the same handle. -/
theorem record_leftAs_fencesSettled (s : State) (k : SlotNo) (m : Message) (before : Nat) :
    ((s.leftAs k m).fencesSettled before).record k = some m := by
  rw [State.record_congr (slots_fencesSettled ..), State.record_congr (slots_leftAs ..), State.record_withRecord_same]

theorem handleOf_leftAs_fencesSettled (s : State) (k : SlotNo) (m : Message) (before : Nat) :
    ((s.leftAs k m).fencesSettled before).handleOf k = s.handleOf k := by
  rw [State.handleOf_congr (slots_fencesSettled ..), State.handleOf_congr (slots_leftAs ..), State.handleOf_withRecord]

/-- Where a message stands, in its placement (11.4). -/
theorem placementBytes_eq {s : State} {k : SlotNo} {m : Message} (record : s.record k = some m) :
    placementBytes s k m = be1 m.custody.name.code ++ portByte (if m.custody = .queued then s.resolve m.area else none)
      ++ reasonByte m.custody.reason := by
  rw [placementBytes]
  by_cases queued : m.custody = .queued
  · rw [State.queueOf_of_queued record queued, if_pos queued]
  · rw [State.queueOf_of_not_queued record queued, if_neg queued]

/-! ### The handoff check (R105) -/

section
variable {p : Port} {h : HandleField} {k : SlotNo} {token : Byte} {act : SlotNo → State → Reply × State} {s : State}
  {m : Message}

theorem onHandoff_of_refused {r : Result} (slot : h.slot.toNat = k.val)
    (refused : handoffRefusal p k (HandleField.incarnation h) token s = some r) :
    onHandoff p h token act s = refuse r s := by
  simp only [onHandoff, HandleField.slotNo_eq_some.mpr slot, refused]

theorem onHandoff_of_high (high : 191 < h.slot.toNat) : onHandoff p h token act s = refuse .badField s := by
  simp only [onHandoff, slotNo_eq_none high]

theorem handoffRefusal_of_stale (stale : h.inc.toNat % 16 ≠ (s.slot k).inc.toNat) :
    handoffRefusal p k (HandleField.incarnation h) token s = some .staleHandoff :=
  if_pos (mt incarnation_eq_iff.mp stale)

theorem handoffRefusal_of_empty (names : Names h k s) (empty : s.record k = none) :
    handoffRefusal p k (HandleField.incarnation h) token s = some .staleHandoff := by
  unfold handoffRefusal
  rw [if_neg (not_not.mpr (incarnation_eq_iff.mpr names.2)), empty]

/-- A handoff that is not the port's own, or whose token is not current, is stale, whatever the state but VOID. -/
theorem handoffRefusal_of_other (names : Names h k s) (record : s.record k = some m) (live : m.custody.name ≠ .void)
    (other : m.custody.holder ≠ some p ∨ token ≠ m.token) :
    handoffRefusal p k (HandleField.incarnation h) token s = some .staleHandoff := by
  unfold handoffRefusal
  rw [if_neg (not_not.mpr (incarnation_eq_iff.mpr names.2)), record]
  have notOwn {q : Port} (holder : m.custody.holder = some q) : ¬ (q = p ∧ token = m.token) := by
    rintro ⟨rfl, same⟩
    exact other.elim (· holder) (· same)
  cases custody : m.custody with
  | handed q d mark => simp only [custody, if_neg (notOwn (by rw [custody]; rfl))]
  | suspended q r mark => simp only [custody, if_neg (notOwn (by rw [custody]; rfl))]
  | void => exact absurd (by rw [custody]; rfl) live
  | _ => simp only [custody]

theorem handoffRefusal_of_suspended (names : Names h k s) (record : s.record k = some m)
    (suspended : m.custody.name = .suspended) (own : m.custody.holder = some p) (current : token = m.token) :
    handoffRefusal p k (HandleField.incarnation h) token s = some .wrongState := by
  unfold handoffRefusal
  rw [if_neg (not_not.mpr (incarnation_eq_iff.mpr names.2)), record]
  cases custody : m.custody with
  | suspended q r mark =>
    rw [custody] at own
    cases own
    simp only [custody, current, and_self, if_true]
  | _ =>
    rw [custody] at suspended
    cases suspended

/-- A VOID record refuses by what its history says of how it became VOID. -/
theorem handoffRefusal_of_void {older : List HistoryEntry} {before last : HistoryEntry} (names : Names h k s)
    (record : s.record k = some m) (void : m.custody = .void) (history : m.history = older ++ [before, last]) :
    handoffRefusal p k (HandleField.incarnation h) token s =
      if before.event = .handed ∧ before.port = some p ∧ token = m.token then some .revoked else some .staleHandoff := by
  have voided : voidedFrom p m = decide (before.event = .handed ∧ before.port = some p) := by
    simp [voidedFrom, history]
  unfold handoffRefusal
  rw [if_neg (not_not.mpr (incarnation_eq_iff.mpr names.2)), record]
  simp only [void, voided, decide_eq_true_eq, and_assoc]

theorem onHandoff_of_own {deadline : Nat} {mark : Bool} (names : Names h k s) (record : s.record k = some m)
    (handed : m.custody = .handed p deadline mark) (current : token = m.token) :
    onHandoff p h token act s = act k s := by
  have passes : handoffRefusal p k (HandleField.incarnation h) token s = none := by
    unfold handoffRefusal
    rw [if_neg (not_not.mpr (incarnation_eq_iff.mpr names.2)), record]
    simp only [handed, current, and_self, if_true]
  simp only [onHandoff, HandleField.slotNo_eq_some.mpr names.1, passes]

end

/-! ### The fields of DISPOSE (R107) -/

/-- The station and serial of a RELAYED report are good. -/
theorem serialOk_iff (h : Half) : serialOk h = true ↔ 1 ≤ h.toNat ∧ h.toNat ≤ 9999 := decide_eq_true_iff

/-- The fields are bad exactly where no report is read. -/
theorem readReport_eq_none {f : DisposeFields}
    (bad : f.outcome.toNat = 0 ∨ 4 < f.outcome.toNat
      ∨ f.outcome.toNat = 1 ∧ (readStation f.station = none ∨ f.serial.toNat = 0 ∨ 9999 < f.serial.toNat)) :
    readReport f = none := by
  unfold readReport
  by_cases relayed : f.outcome.toNat = 1
  · rw [if_pos relayed]
    obtain noStation | outside : readStation f.station = none ∨ f.serial.toNat = 0 ∨ 9999 < f.serial.toNat := by
      obtain zero | high | ⟨-, bad⟩ := bad
      · omega
      · omega
      · exact bad
    · rw [noStation]
    · split
      · exact if_neg (mt (serialOk_iff f.serial).mp (by omega))
      · rfl
  · rw [if_neg relayed, if_neg (by omega), if_neg (by omega), if_neg (by omega)]

theorem readReport_relayed {f : DisposeFields} {st : List Byte} (outcome : f.outcome.toNat = 1)
    (station : readStation f.station = some st) (low : 1 ≤ f.serial.toNat) (high : f.serial.toNat ≤ 9999) :
    readReport f = some (.relayed st f.serial.toNat) := by
  simp only [readReport, outcome, if_true, station, (serialOk_iff f.serial).mpr ⟨low, high⟩]

theorem readReport_delivered {f : DisposeFields} (outcome : f.outcome.toNat = 2) : readReport f = some .delivered := by
  simp [readReport, outcome]

theorem readReport_bounced {f : DisposeFields} (outcome : f.outcome.toNat = 3) : readReport f = some .bounced := by
  simp [readReport, outcome]

theorem readReport_refused {f : DisposeFields} (outcome : f.outcome.toNat = 4) : readReport f = some .refused := by
  simp [readReport, outcome]

/-- Good fields read as a report. -/
theorem readReport_isSome {f : DisposeFields}
    (good : 2 ≤ f.outcome.toNat ∧ f.outcome.toNat ≤ 4
      ∨ f.outcome.toNat = 1 ∧ (readStation f.station).isSome = true ∧ 1 ≤ f.serial.toNat ∧ f.serial.toNat ≤ 9999) :
    ∃ r, readReport f = some r := by
  obtain range | ⟨relayed, station, low, high⟩ := good
  · obtain two | three | four : f.outcome.toNat = 2 ∨ f.outcome.toNat = 3 ∨ f.outcome.toNat = 4 := by omega
    · exact ⟨_, readReport_delivered two⟩
    · exact ⟨_, readReport_bounced three⟩
    · exact ⟨_, readReport_refused four⟩
  · obtain ⟨st, station⟩ := Option.isSome_iff_exists.mp station
    exact ⟨_, readReport_relayed relayed station low high⟩

/-- A DISPOSE with a good report goes to the handoff check. -/
theorem dispose_of_report {p : Port} {f : DisposeFields} {r : Report} (report : readReport f = some r) (s : State) :
    dispose p f s = onHandoff p f.handle f.token (fun k s =>
      answer .ok (disposeBytes (settleFences s.outstanding (applyReport k p r (clearActive p s))) k f.outcome)
        (settleFences s.outstanding (applyReport k p r (clearActive p s)))) s := by
  simp only [dispose, report]

/-- Settles O33: the fields come first, then the handoff check, which EXTEND and DISPOSE share. -/
theorem extendRenewsTheNamedLease : Obligations.ExtendRenewsTheNamedLease := by
  refine ⟨fun p s rq => ⟨fun h token serving high => exec_of_refusal serving ?badSlot,
      fun f serving bad => exec_of_refusal serving ?badField⟩,
    fun p h token k s rq slot => ⟨fun m deadline mark serving names record handed current => ?renewed,
      fun c serving names => ?refused⟩⟩
  case badSlot =>
    change extend p h token s = _
    exact onHandoff_of_high high
  case badField =>
    simp only [blockAct, dispose]
    cases report : readReport f with
    | none => rfl
    | some r =>
      obtain high | fields := bad
      · exact onHandoff_of_high high
      · cases (readReport_eq_none fields).symm.trans report
  case renewed =>
    intro renewed
    refine exec_of_reply serving ?_
    change extend p h token s = _
    refine (onHandoff_of_own names record handed current).trans ?_
    simp only [modRecord_eq_withRecord _ record, handed]
    rfl
  case refused =>
    have through : ∃ act, blockAct c s = onHandoff p h token act s := by
      obtain rfl | ⟨f, rfl, rfl, rfl, good⟩ := names
      · exact ⟨_, show extend p h token s = _ from rfl⟩
      · obtain ⟨r, report⟩ := readReport_isSome good
        exact ⟨_, dispose_of_report report s⟩
    obtain ⟨act, through⟩ := through
    have answer {r : Result} (refused : handoffRefusal p k (HandleField.incarnation h) token s = some r) :
        exec c s = .next (responded p rq r [] s) :=
      exec_of_refusal serving (through.trans (onHandoff_of_refused slot refused))
    refine ⟨fun stale => answer (handoffRefusal_of_stale stale),
      fun names empty => answer (handoffRefusal_of_empty names empty), fun m names record =>
        ⟨fun live other => answer (handoffRefusal_of_other names record live other),
          fun suspended own current => answer (handoffRefusal_of_suspended names record suspended own current),
          fun older last before void history => ⟨fun revoked => answer ?_, fun other => answer ?_⟩⟩⟩
    · rw [handoffRefusal_of_void names record void history, if_pos revoked]
    · rw [handoffRefusal_of_void names record void history, if_neg other]

/-! ### DISPOSE -/

/-- What an event of custody leaves of a message: all but its class, pending upgrade, bounce count, custody and history. -/
def Message.content (m : Message) : Message :=
  { m with klass := .routine, pendingUpgrade := none, bounces := 0, custody := .void, history := [], dropped := 0 }

/-- Messages of one content agree in everything that the content has. -/
theorem Message.view_of_content {α : Type} {m n : Message} (view : Message → α) (same : n.content = m.content)
    (stable : ∀ x : Message, view x.content = view x := by exact fun _ => rfl) : view n = view m := by
  rw [← stable, same, stable]

@[simp] theorem Message.content_log (now : Nat) (p : Option Port) (e : HistoryEvent) (m : Message) :
    (Message.log now p e m).content = m.content := by
  rw [Message.log_frame]
  rfl

@[simp] theorem Message.content_applyUpgrade (m : Message) : (Message.applyUpgrade m).content = m.content := by
  rw [Message.applyUpgrade_frame]
  rfl

@[simp] theorem Message.content_custody (m : Message) (c : Custody) :
    Message.content { m with custody := c } = m.content := rfl

@[simp] theorem Message.content_bounces (m : Message) (n : Nat) :
    Message.content { m with bounces := n } = m.content := rfl

@[simp] theorem content_returned (now : Nat) (p : Port) (resolves : Bool) (m : Message) :
    (returned now p resolves m).content = m.content := by
  unfold returned
  simp only
  split
  · simp
  · split <;> simp

@[simp] theorem content_bounced (now : Nat) (p : Port) (e : HistoryEvent) (resolves : Bool) (m : Message) :
    (bounced now p e resolves m).content = m.content := by
  unfold bounced
  simp only
  split
  · rw [Message.content_log, Message.content_custody, Message.content_log, Message.content_bounces]
  · rw [content_returned, Message.content_log, Message.content_bounces]

/-- What a DISPOSE reports of the record it leaves (R107). -/
theorem disposeBytes_eq {s : State} {k : SlotNo} {m : Message} (record : s.record k = some m) (outcome : Byte) :
    disposeBytes s k outcome =
      handleBytes (some (s.handleOf k)) ++ [outcome] ++ be1 m.token.toNat ++ be1 m.bounces ++ be1 m.custody.name.code
        ++ portByte (if m.custody = .queued then s.resolve m.area else none) ++ reasonByte m.custody.reason := by
  simp only [disposeBytes, record, placementBytes_eq record, List.append_assoc]

/-- The end of custody in the statements' terms (R109). -/
theorem dispositionOf_eq {s : State} {k : SlotNo} {m : Message} (record : s.record k = some m) (p : Port)
    (outcome : Disposal) (event : HistoryEvent) :
    dispositionOf k p outcome event s =
      let after := Message.log s.seconds (some p) event { m with custody := .disposed outcome s.seconds }
      ({ s.withRecord k after with retained := s.retained ++ [s.handleOf k] } : State).told m.watchers
        (stateChange s k after) := by
  unfold dispositionOf
  simp only [modRecord_eq_withRecord _ record]
  generalize logged : Message.log s.seconds (some p) event _ = n
  have watchers : n.watchers = m.watchers := by rw [← logged, Message.log_watchers]
  have there : (retain (s.handleOf k) (s.withRecord k n)).record k = some n := State.record_withRecord_same s k n
  rw [State.handleOf_withRecord, notifyWatchers_eq_told there, watchers]
  exact congrArg (State.told _ m.watchers) (stateChange_withRecord s k k n n)

/-- Settles O34. -/
theorem disposeEndsCustody : Obligations.DisposeEndsCustody := by
  intro p f k m deadline mark s rq outcome event serving names record handed current reports after
  have report : ∃ r, readReport f = some r ∧ ∀ t : State, applyReport k p r t = dispositionOf k p outcome event t := by
    obtain ⟨two, rfl, rfl⟩ | ⟨one, low, high, rfl, station⟩ := reports
    · exact ⟨_, readReport_delivered two, fun _ => rfl⟩
    · obtain ⟨st, reads, rfl⟩ := Option.map_eq_some_iff.mp station
      exact ⟨_, readReport_relayed one reads low high, fun _ => rfl⟩
  obtain ⟨r, report, applies⟩ := report
  have cleared : (s.withoutActive p).record k = some m := (s.withoutActive_record p k).trans record
  refine exec_of_reply serving ((dispose_of_report report s).trans
    ((onHandoff_of_own names record handed current).trans ?_))
  rw [applies, clearActive_eq, dispositionOf_eq cleared, settleFences_eq]
  simp only [State.withoutActive_seconds]
  have change : stateChange (s.withoutActive p) k after = stateChange s k after := by
    simp only [stateChange, State.withoutActive_handleOf, State.withoutActive_seconds]
  have retained : (s.withoutActive p).retained = s.retained := by rw [← clearActive_eq, clearActive_frame]
  simp only [State.withoutActive_handleOf, retained]
  rw [show Message.log s.seconds (some p) event { m with custody := .disposed outcome s.seconds } = after from rfl, change]
  refine Prod.ext (congrArg (Reply.mk .ok) ?_) rfl
  have slots : (State.fencesSettled s.outstanding (State.told
      { (s.withoutActive p).withRecord k after with retained := s.retained ++ [s.handleOf k] } m.watchers
      (stateChange s k after))).slots = ((s.withoutActive p).withRecord k after).slots :=
    slots_fencesSettled ..
  have there := (State.record_congr slots k).trans (State.record_withRecord_same ..)
  have custody : after.custody = .disposed outcome s.seconds := Message.log_custody ..
  have token : after.token = m.token := Message.log_token ..
  have bounces : after.bounces = m.bounces := Message.log_bounces ..
  rw [disposeBytes_eq there, State.handleOf_congr slots, State.handleOf_withRecord, State.withoutActive_handleOf,
    custody, token, bounces]
  rfl

/-- Settles O35. -/
theorem disposeReturnsOrHolds : Obligations.DisposeReturnsOrHolds := by
  intro p f k m deadline mark s rq serving names record handed current reports after
  have cleared : (s.withoutActive p).record k = some m := (s.withoutActive_record p k).trans record
  have report : ∃ r, readReport f = some r ∧ applyReport k p r (s.withoutActive p) = (s.withoutActive p).leftAs k after := by
    obtain three | four := reports
    · refine ⟨_, readReport_bounced three, (bounce_eq p .bounced cleared).trans ?_⟩
      rw [State.withoutActive_seconds, State.withoutActive_resolve]
      simp only [after, if_pos three]
    · refine ⟨_, readReport_refused four, ?_⟩
      change refusalHold k p (s.withoutActive p) = _
      rw [refusalHold, modRecord_eq_withRecord _ cleared, holdAndTell_eq (State.record_withRecord_same ..),
        State.leftAs_withRecord cleared (by simp) (by simp)]
      simp only [after, four]
      rw [if_neg (by decide)]
      exact congrArg (fun now => State.leftAs _ k (Message.log now _ _ { Message.log now _ _ m with custody := _ }))
        (s.withoutActive_seconds p)
  obtain ⟨r, report, applies⟩ := report
  refine exec_of_reply serving ((dispose_of_report report s).trans
    ((onHandoff_of_own names record handed current).trans ?_))
  rw [clearActive_eq, applies, settleFences_eq, disposeBytes_eq (record_leftAs_fencesSettled ..),
    handleOf_leftAs_fencesSettled, State.withoutActive_handleOf, resolve_fencesSettled, resolve_leftAs,
    State.withoutActive_resolve]
  have content : after.content = m.content := by
    simp only [after]
    split
    · exact content_bounced ..
    · rw [Message.content_log, Message.content_custody, Message.content_log]
  have token : after.token = m.token := Message.view_of_content Message.token content
  have area : after.area = m.area := Message.view_of_content Message.area content
  rw [token, area]
  rfl

end Sys2Proof.Machine
end

section
/-! HOLD, RELEASE, VOID, AMEND and ADD-NOTE (R145 to R155). -/

namespace Sys2Proof.Machine

/-! ### What net control meets -/

section
variable {p : Port} {h : HandleField} {k : SlotNo} {s : State} {act : SlotNo → State → Reply × State}

/-- A reserved request of a CONTROL port with a current handle acts on the slot (R5, R143). -/
theorem controlOnly_withHandle (control : (s.port p).control = true) (names : Names h k s) :
    controlOnly p (withHandle h act) s = act k s :=
  (controlOnly_of_control control).trans (withHandle_of_names names)

end

/-- A message is in custody where it is HANDED or SUSPENDED. -/
theorem Message.inHand_iff (m : Message) :
    m.inHand = true ↔ m.custody.name = .handed ∨ m.custody.name = .suspended := by
  unfold Message.inHand
  cases m.custody <;> simp [Custody.holder, Custody.name]

theorem Custody.eq_queued_iff (c : Custody) : c = .queued ↔ c.name = .queued := by
  cases c <;> simp [Custody.name]

theorem Custody.reason_isSome_iff (c : Custody) : c.reason.isSome = true ↔ c.name = .held := by
  cases c <;> simp [Custody.name, Custody.reason]

/-! ### HOLD -/

/-- A departure in the statements' terms (R99). -/
theorem departed_eq (p : Port) (h : Handle) (s : State) :
    departed p h s = if (s.breakin p).pending = some h then breakInCheck p (s.withoutPending p) else s := by
  rw [departed, clearPendingBreakIn_eq]

/-- A departure leaves the slots and the time. -/
@[simp] theorem slots_departed (p : Port) (h : Handle) (s : State) : (departed p h s).slots = s.slots := by
  rw [departed_frame]

@[simp] theorem seconds_departed (p : Port) (h : Handle) (s : State) : (departed p h s).seconds = s.seconds := by
  rw [departed_frame]

/-- Settles O43: the hold takes the record out of its queue, the departure is settled, and STATE-CHANGE follows. -/
theorem holdTakesOutOfTheQueue : Obligations.HoldTakesOutOfTheQueue := by
  intro p h k s rq serving control names
  have acts {r : Reply × State} (act : (match s.record k with
      | none => refuse .wrongState s
      | some m =>
        if Message.inHand m = true then refuse .inHand s
        else if m.custody = .queued then
          answer .ok
            (handleBytes (some (s.handleOf k)) ++ be1 StateName.held.code ++ reasonByte (some .control)
              ++ portByte (s.queueOf k)) (holdMessage k p s)
        else refuse .wrongState s) = r) : blockAct (.hold p h) s = r := by
    rw [← act]
    change hold p h s = _
    exact controlOnly_withHandle control names
  refine ⟨fun m record inHand => exec_of_refusal serving (acts ?inHand),
    fun other => exec_of_refusal serving (acts ?wrongState), fun m q record queue => ?held⟩
  case inHand =>
    rw [record]
    exact if_pos ((Message.inHand_iff m).mpr inHand)
  case wrongState =>
    cases record : s.record k with
    | none => rfl
    | some m =>
      obtain ⟨notHanded, notSuspended, notQueued⟩ := other m record
      refine (if_neg ?_).trans (if_neg ?_)
      · rw [Message.inHand_iff]
        exact fun either => either.elim notHanded notSuspended
      · rw [Custody.eq_queued_iff]
        exact notQueued
  case held =>
    intro held out checked after
    obtain ⟨m', record', queued, -⟩ := State.queueOf_eq_some queue
    obtain rfl : m = m' := Option.some.inj (record.symm.trans record')
    have slots : checked.slots = out.slots := by
      have settled : departed q (s.handleOf k) out = checked := departed_eq q (s.handleOf k) out
      rw [← settled, slots_departed]
    have now : checked.seconds = s.seconds := by
      have settled : departed q (s.handleOf k) out = checked := departed_eq q (s.handleOf k) out
      rw [← settled, seconds_departed]
      rfl
    have there : checked.record k = some held := (State.record_congr slots k).trans (State.record_withRecord_same ..)
    have message : holdMessage k p s = (checked.withRecord k after).told m.watchers (stateChange s k after) := by
      have settled : departed q (out.handleOf k) out = checked := by
        rw [State.handleOf_withRecord]
        exact departed_eq q (s.handleOf k) out
      unfold holdMessage
      simp only [modRecord_eq_withRecord _ record, queue]
      change notifyWatchers k (State.modRecord (departed q (out.handleOf k) out) k
        (Message.log (departed q (out.handleOf k) out).seconds (some p) .held)) = _
      rw [settled, modRecord_eq_withRecord _ there, now, notifyWatchers_withRecord]
      have watchers : after.watchers = m.watchers := Message.log_watchers ..
      have handle : checked.handleOf k = s.handleOf k :=
        (State.handleOf_congr slots k).trans (State.handleOf_withRecord ..)
      simp only [stateChange, handle, now]
      change State.told _ after.watchers _ = _
      rw [watchers]
    refine exec_of_reply serving (acts ?_)
    rw [record]
    refine (if_neg ?_).trans ((if_pos queued).trans ?_)
    · rw [Message.inHand_iff, queued]
      simp [Custody.name]
    · rw [message, queue]
      rfl

/-! ### RELEASE -/

/-- The message that a RELEASE frees in the statements' terms (R148). -/
theorem Message.released_eq {m : Message} {r : HoldReason} (held : m.custody = .held r) :
    Message.released m = Message.applyUpgrade
      { m with bounces := 0, deadline := if r = .deadlinePassed then none else m.deadline } := by
  simp only [Message.released, held, Custody.held.injEq]

@[simp] theorem seconds_withRecord (s : State) (k : SlotNo) (m : Message) : (s.withRecord k m).seconds = s.seconds := rfl

/-- HELD of a record just written, after another notice. -/
theorem reportHeld_told {k : SlotNo} {m : Message} {r : HoldReason} (held : m.custody = .held r) (s : State)
    (ports : PortSet) (n : Notice) :
    reportHeld k ((s.withRecord k m).told ports n)
      = ((s.withRecord k m).told ports n).told (controlSet s) (heldNotice s k r) := by
  have there : ((s.withRecord k m).told ports n).record k = some m := State.record_withRecord_same s k m
  rw [reportHeld_eq_told there held]
  exact congrArg (State.told _ (controlSet s)) (heldNotice_withRecord s k k m r)

/-- A message held again in the statements' terms (R148). -/
theorem holdAgain_eq {s : State} {k : SlotNo} {m : Message} (record : s.record k = some m) (reason : HoldReason)
    (p : Port) (changed : Bool) :
    holdAgain k reason p changed s =
      let again := Message.log s.seconds (some p) .held
        { Message.log s.seconds (some p) .released m with custody := .held reason }
      (if changed then (s.withRecord k again).told m.watchers (stateChange s k again) else s.withRecord k again).told
        (controlSet s) (heldNotice s k reason) := by
  unfold holdAgain holdFor
  simp only [modRecord_eq_withRecord _ record, modRecord_eq_withRecord _ (State.record_withRecord_same ..),
    State.withRecord_withRecord, seconds_withRecord]
  generalize logged : Message.log s.seconds (some p) .held _ = again
  have custody : again.custody = .held reason := by rw [← logged, Message.log_custody]
  have watchers : again.watchers = m.watchers := by rw [← logged, Message.log_watchers, Message.log_watchers]
  cases changed with
  | false =>
    simp only [Bool.false_eq_true, if_false]
    exact reportHeld_withRecord custody s k
  | true =>
    simp only [if_true, notifyWatchers_withRecord, watchers]
    exact reportHeld_told custody s m.watchers (stateChange s k again)

theorem Message.applyUpgrade_bounces (m : Message) : (Message.applyUpgrade m).bounces = m.bounces := by
  rw [Message.applyUpgrade_frame]

theorem Message.applyUpgrade_pendingUpgrade (m : Message) : (Message.applyUpgrade m).pendingUpgrade = none := by
  rw [Message.applyUpgrade_frame]

theorem Message.applyUpgrade_watchers (m : Message) : (Message.applyUpgrade m).watchers = m.watchers := by
  rw [Message.applyUpgrade_frame]

/-- A message without a pending upgrade has none to apply. -/
theorem Message.applyUpgrade_of_none {m : Message} (none : m.pendingUpgrade = none) : Message.applyUpgrade m = m := by
  rw [Message.applyUpgrade, none]

/-- What a RELEASE reports of the record it leaves (R148). -/
theorem releaseBytes_eq {s : State} {k : SlotNo} {m : Message} (record : s.record k = some m) :
    releaseBytes s k = handleBytes (some (s.handleOf k)) ++ be1 m.klass.code ++ be1 m.bounces ++ be1 m.custody.name.code
      ++ portByte (if m.custody = .queued then s.resolve m.area else none) ++ reasonByte m.custody.reason := by
  simp only [releaseBytes, record, placementBytes_eq record, classByte, List.append_assoc]

/-- Settles O44: the three outcomes of a RELEASE of a HELD message, and its refusals. -/
theorem releaseReturnsHeldTraffic : Obligations.ReleaseReturnsHeldTraffic := by
  intro p h k s rq serving control names
  have acts {r : Reply × State} (act : (match s.record k with
      | none => refuse .wrongState s
      | some m =>
        if Message.inHand m = true then refuse .inHand s
        else if m.custody.reason.isSome = true then
          answer (releaseMessage k p m s).1 (releaseBytes (releaseMessage k p m s).2 k) (releaseMessage k p m s).2
        else refuse .wrongState s) = r) : blockAct (.release p h) s = r := by
    rw [← act]
    change release p h s = _
    exact controlOnly_withHandle control names
  refine ⟨fun m record inHand => exec_of_refusal serving (acts ?inHand),
    fun other => exec_of_refusal serving (acts ?wrongState), fun m r record held => ?released⟩
  case inHand =>
    rw [record]
    exact if_pos ((Message.inHand_iff m).mpr inHand)
  case wrongState =>
    cases record : s.record k with
    | none => rfl
    | some m =>
      obtain ⟨notHanded, notSuspended, notHeld⟩ := other m record
      refine (if_neg ?_).trans (if_neg ?_)
      · rw [Message.inHand_iff]
        exact fun either => either.elim notHanded notSuspended
      · rw [Custody.reason_isSome_iff]
        exact notHeld
  case released =>
    intro freed released again heldAgain answered
    have isFreed : Message.released m = freed := Message.released_eq held
    have written : (s.withRecord k freed).record k = some freed := State.record_withRecord_same ..
    have area : freed.area = m.area := Message.applyUpgrade_area _
    have bounces : freed.bounces = 0 := Message.applyUpgrade_bounces _
    have upgrade : freed.pendingUpgrade = none := Message.applyUpgrade_pendingUpgrade _
    have acted : blockAct (.release p h) s
        = answer (releaseMessage k p m s).1 (releaseBytes (releaseMessage k p m s).2 k) (releaseMessage k p m s).2 := by
      refine acts ?_
      rw [record]
      refine (if_neg ?_).trans (if_pos ?_)
      · rw [Message.inHand_iff, held]
        simp [Custody.name]
      · rw [held]
        rfl
    have holds (reason : HoldReason) :
        holdAgain k reason p (!decide (freed.klass = m.klass)) (s.withRecord k freed) = heldAgain reason := by
      rw [holdAgain_eq written]
      simp only [State.withRecord_withRecord, stateChange_withRecord, heldNotice_withRecord, seconds_withRecord, heldAgain]
      by_cases same : freed.klass = m.klass
      · rw [if_neg (by simp [same]), if_pos same]
        rfl
      · rw [if_pos (by simp [same]), if_neg same]
        have watchers : freed.watchers = m.watchers := Message.applyUpgrade_watchers _
        rw [watchers]
        rfl
    have heldBytes (reason : HoldReason) : releaseBytes (heldAgain reason) k = answered 5 none (some reason) := by
      have custody : (again reason).custody = .held reason := Message.log_custody ..
      have slots : (heldAgain reason).slots = (s.withRecord k (again reason)).slots := by
        simp only [heldAgain]
        split <;> rfl
      rw [releaseBytes_eq ((State.record_congr slots k).trans (State.record_withRecord_same ..)),
        State.handleOf_congr slots, State.handleOf_withRecord, custody]
      have klass : (again reason).klass = freed.klass := by
        simp only [again, released, Message.log_klass]
      have bounces' : (again reason).bounces = 0 := by
        simp only [again, released, Message.log_bounces, bounces]
      rw [klass, bounces']
      rfl
    refine ⟨fun passed => exec_of_reply serving (acted.trans ?passed), fun waits =>
      ⟨fun unresolved => exec_of_reply serving (acted.trans ?unresolved),
        fun q resolves => exec_of_reply serving (acted.trans ?resolves)⟩⟩
    case passed =>
      have message : releaseMessage k p m s = (.ok, heldAgain .deadlinePassed) := by
        simp only [releaseMessage, modRecord_eq_withRecord _ record, isFreed, seconds_withRecord, passed, if_true, holds]
      rw [message, heldBytes]
      rfl
    case unresolved =>
      have message : releaseMessage k p m s = (.unrouted, heldAgain .unrouted) := by
        simp only [releaseMessage, modRecord_eq_withRecord _ record, isFreed, seconds_withRecord, waits,
          Bool.false_eq_true, if_false, State.resolve_withRecord, area, unresolved, holds]
      rw [message, heldBytes]
      rfl
    case resolves =>
      have custody : freed.custody = .held r := (Message.applyUpgrade_custody _).trans held
      have upgrade' : released.pendingUpgrade = none := (Message.log_pendingUpgrade ..).trans upgrade
      have area' : released.area = m.area := (Message.log_area ..).trans area
      have custody' : released.custody = .held r := (Message.log_custody ..).trans custody
      have resolves' : (s.withRecord k released).resolve released.area = some q := by
        rw [State.resolve_withRecord, area', resolves]
      have joins : joinQueue k q (s.withRecord k released) = s.leftAs k { released with custody := .queued } := by
        rw [joinQueue_eq (State.record_withRecord_same ..) resolves', Message.applyUpgrade_of_none upgrade',
          State.leftAs_withRecord record area' (by rw [custody', held])]
      have message : releaseMessage k p m s = (.ok, s.leftAs k { released with custody := .queued }) := by
        simp only [releaseMessage, modRecord_eq_withRecord _ record, isFreed, seconds_withRecord, waits,
          Bool.false_eq_true, if_false, State.resolve_withRecord, area, resolves, modRecord_eq_withRecord _ written,
          State.withRecord_withRecord]
        exact congrArg (Prod.mk Result.ok) joins
      have slots := slots_leftAs s k { released with custody := .queued }
      have bytes : releaseBytes (s.leftAs k { released with custody := .queued }) k = answered 2 (some q) none := by
        rw [releaseBytes_eq ((State.record_congr slots k).trans (State.record_withRecord_same ..)),
          State.handleOf_congr slots, State.handleOf_withRecord, resolve_leftAs]
        have klass : released.klass = freed.klass := Message.log_klass ..
        have bounces' : released.bounces = 0 := (Message.log_bounces ..).trans bounces
        simp only [klass, bounces', area', resolves, if_true]
        rfl
      rw [message, bytes]
      rfl

end Sys2Proof.Machine
end

section
/-! VOID, AMEND and ADD-NOTE (R149 to R155). -/

namespace Sys2Proof.Machine

/-! ### A message becomes VOID -/

/-- A message becomes VOID in the statements' terms, also in a part that has come about from the one the statement names
(R149). -/
theorem becomeVoid_eq {s t : State} {k : SlotNo} {m : Message} (record : s.record k = some m) (slots : t.slots = s.slots)
    (now : t.seconds = s.seconds) (retained : t.retained = s.retained) (p : Port) :
    becomeVoid k p t =
      let after := Message.log s.seconds (some p) .voided { m with custody := .void }
      ({ t.withRecord k after with retained := s.retained ++ [s.handleOf k] } : State).told m.watchers
        (stateChange s k after) := by
  have there : t.record k = some m := (State.record_congr slots k).trans record
  unfold becomeVoid
  simp only [modRecord_eq_withRecord _ there, now]
  generalize logged : Message.log s.seconds (some p) .voided _ = n
  have watchers : n.watchers = m.watchers := by rw [← logged, Message.log_watchers]
  have handle : (t.withRecord k n).handleOf k = s.handleOf k :=
    (State.handleOf_withRecord t k k n).trans (State.handleOf_congr slots k)
  have written : (retain (s.handleOf k) (t.withRecord k n)).record k = some n := State.record_withRecord_same t k n
  have change : stateChange (retain (s.handleOf k) (t.withRecord k n)) k n = stateChange s k n := by
    have handle' : (retain (s.handleOf k) (t.withRecord k n)).handleOf k = s.handleOf k := handle
    have now' : (retain (s.handleOf k) (t.withRecord k n)).seconds = s.seconds := now
    rw [stateChange, handle', now']
    rfl
  rw [handle, notifyWatchers_eq_told written, watchers, change, retain]
  simp only [← retained]
  rfl

/-- The record of a SUSPENDED message is flagged, whether or not it is already (R134). -/
theorem revokeRecord_eq (p : Port) (h : Handle) (s : State) :
    revokeRecord p h s = s.modBreakin p (fun b =>
      { b with stack := b.stack.map (fun r => if r.handle = h then { r with revoked := true } else r) }) := by
  have flagged (r : Suspension) :
      (if r.handle = h ∧ r.revoked = false then { r with revoked := true } else r)
        = if r.handle = h then { r with revoked := true } else r := by
    by_cases named : r.handle = h
    · cases revoked : r.revoked with
      | false => simp [named]
      | true =>
        have same : { r with revoked := true } = r := by rw [← revoked]
        rw [if_neg (by simp), if_pos named, same]
    · simp [named]
  simp only [revokeRecord, flagged]

/-! ### The place of a renewed BREAK-IN -/

/-- A notice that joins a queue with room stands at its tail (R163). -/
theorem NoticeQueue.getLast_join {n : Notice} {q : NoticeQueue} (room : q.items.length < 16) :
    (NoticeQueue.join n q).items.getLast? = some n := by
  rcases n.first_match_or_none q.items with ⟨before, x, after, items, same, noneBefore⟩ | noMatch
  · rw [NoticeQueue.join_of_first_match items same noneBefore]
    simp
  · rw [NoticeQueue.join_of_room noMatch room]
    simp

/-- A notice that does not match keeps its place in the queue (R163). -/
theorem NoticeQueue.mem_join_of_mem {n x : Notice} {q : NoticeQueue} (member : x ∈ q.items) (other : ¬ n.Matches x) :
    x ∈ (NoticeQueue.join n q).items := by
  rcases n.first_match_or_none q.items with ⟨before, y, after, items, same, noneBefore⟩ | noMatch
  · rw [NoticeQueue.join_of_first_match items same noneBefore]
    rw [items] at member
    obtain early | rfl | late := by simpa using member
    · simp [early]
    · exact absurd same other
    · simp [late]
  · rw [NoticeQueue.join_of_no_match noMatch]
    split <;> simp [member]

/-- The withdrawal of a BREAK-IN from a queue in form that holds it leaves room. -/
theorem NoticeQueue.length_withdrawn {q : NoticeQueue} {n : Notice} {h : Handle} (length : q.items.length ≤ 16)
    (member : n ∈ q.items) (kind : n.kind = .breakIn) (handle : n.handle = some h) :
    (q.items.filter (fun n => !decide (n.kind = .breakIn ∧ n.handle = some h))).length < 16 := by
  have shorter : (q.items.filter (fun n => !decide (n.kind = .breakIn ∧ n.handle = some h))).length < q.items.length :=
    List.length_filter_lt_length_iff_exists.mpr ⟨n, member, by simp [kind, handle]⟩
  omega

theorem State.noticeQueue_withoutBreakIn_same (s : State) (p : Port) (h : Handle) :
    (s.withoutBreakIn p h).noticeQueue p =
      { s.noticeQueue p with
        items := (s.noticeQueue p).items.filter (fun n => !decide (n.kind = .breakIn ∧ n.handle = some h)) } :=
  get_vmod_same ..

theorem onlyPort_get_same (p : Port) : (onlyPort p).get p = true := by
  revert p
  decide

/-- A break-in that a check raises has its notice at the tail of a queue with room (R126). -/
theorem getLast_breakInCheck {s : State} {p : Port} {named : Handle} (room : (s.noticeQueue p).items.length < 16)
    (free : (s.breakin p).pending = none) (raised : ((breakInCheck p s).breakin p).pending = some named) :
    ((breakInCheck p s).noticeQueue p).items.getLast?.map (fun n => (n.kind, n.handle)) = some (.breakIn, some named) := by
  obtain still | ⟨c, j, n, es, -, -, -, -, -, eq⟩ := breakInCheck_cases p s
  · rw [still, free] at raised
    cases raised
  · rw [eq] at raised ⊢
    have written := State.breakin_modBreakin_same (setStickyFlags p es s) p
      (fun b => { b with pending := some (s.handleOf j) })
    have same : some (s.handleOf j) = some named := (congrArg BreakIn.pending written).symm.trans raised
    rw [State.noticeQueue_told, onlyPort_get_same]
    refine (congrArg (Option.map _) (NoticeQueue.getLast_join (q := s.noticeQueue p) room)).trans ?_
    rw [← same]
    rfl

/-- A renewed break-in has its notice at the tail of the queue: where the old one was withdrawn after `act`, whose notices
take no more room than the queue has, there is room for it (R164). -/
theorem getLast_leaving {s : State} {k : SlotNo} {q : Port} {act : State → State} {named : Handle} {queue : NoticeQueue}
    (member : s.queueOf k = some q) (pending : (s.breakin q).pending = some (s.handleOf k))
    (cleared : ∀ t : State, ((act t).breakin q).pending = (t.breakin q).pending)
    (told : (act (s.modBreakin q (fun b => { b with pending := none }))).noticeQueue q = queue)
    (length : queue.items.length ≤ 16)
    (withdrawn : ∃ n ∈ queue.items, n.kind = .breakIn ∧ n.handle = some (s.handleOf k))
    (renewed : ((s.leaving k act).breakin q).pending = some named) :
    ((s.leaving k act).noticeQueue q).items.getLast?.map (fun n => (n.kind, n.handle)) = some (.breakIn, some named) := by
  unfold State.leaving at renewed ⊢
  simp only [member, pending, if_true] at renewed ⊢
  obtain ⟨n, there, kind, handle⟩ := withdrawn
  have room : (((act (s.modBreakin q (fun b => { b with pending := none }))).withoutBreakIn q
      (s.handleOf k)).noticeQueue q).items.length < 16 := by
    rw [State.noticeQueue_withoutBreakIn_same, told]
    exact NoticeQueue.length_withdrawn length there kind handle
  split at renewed
  · next raised =>
    rw [if_pos raised]
    refine getLast_breakInCheck room ((cleared _).trans ?_) renewed
    rw [State.breakin_modBreakin_same]
  · rw [cleared, State.pending_withoutPending] at renewed
    cases renewed

/-! ### VOID -/

theorem Message.inTraffic_eq_false_iff (m : Message) :
    m.inTraffic = false ↔ m.custody.name = .filling ∨ m.custody.name = .disposed ∨ m.custody.name = .void := by
  unfold Message.inTraffic
  cases m.custody <;> simp [Custody.name]

/-- Settles O45: each state's way out of custody, then VOID; a renewed BREAK-IN finds the room that the old one left. -/
theorem voidWithdrawsTraffic : Obligations.VoidWithdrawsTraffic := by
  intro p h k s rq serving control names
  have acts {r : Reply × State} (act : (match s.record k with
      | none => refuse .wrongState s
      | some m =>
        if Message.inTraffic m = true then answer .ok (voidBytes (s.handleOf k) m) (voidMessage k p m s)
        else refuse .wrongState s) = r) : blockAct (.void p h) s = r := by
    rw [← act]
    change void p h s = _
    exact controlOnly_withHandle control names
  refine ⟨fun other => exec_of_refusal serving (acts ?wrongState), fun m record => ?voids⟩
  case wrongState =>
    cases record : s.record k with
    | none => rfl
    | some m =>
      have outside := m.inTraffic_eq_false_iff.mpr (other m record)
      exact if_neg (by simp [outside])
  case voids =>
    intro after withdrawn revoked
    have voids (traffic : m.inTraffic = true) :
        blockAct (.void p h) s = answer .ok (voidBytes (s.handleOf k) m) (voidMessage k p m s) := by
      refine acts ?_
      rw [record]
      exact if_pos traffic
    have becomes (t : State) (slots : t.slots = s.slots) (now : t.seconds = s.seconds) (retained : t.retained = s.retained) :
        becomeVoid k p t = withdrawn t := becomeVoid_eq record slots now retained p
    refine ⟨fun q queue => ?queued, fun r held => ?held, fun holder deadline mark handed => ?handed,
      fun holder remaining mark suspended => ?suspended⟩
    case queued =>
      obtain ⟨m', record', queued, -⟩ := State.queueOf_eq_some queue
      obtain rfl : m = m' := Option.some.inj (record.symm.trans record')
      have left : voidMessage k p m s = s.leaving k withdrawn := by
        simp only [voidMessage, queued, queue]
        exact (leaveQueue_eq _ queue).trans (State.leaving_congr becomes)
      have bytes : voidBytes (s.handleOf k) m = handleBytes (some (s.handleOf k)) ++ be1 2 ++ be1 255 ++ be1 0 := by
        simp only [voidBytes, queued]
        rfl
      have done := exec_of_reply serving ((voids (by simp [Message.inTraffic, queued])).trans (by rw [left, bytes]))
      refine ⟨done, fun t named ends pending form there renewed => ?_⟩
      cases ends.symm.trans done
      obtain ⟨n, member, kind, handle⟩ := there
      have joins : (withdrawn (s.modBreakin q (fun b => { b with pending := none }))).noticeQueue q
          = joinIf (m.watchers.get q) (stateChange s k after) (s.noticeQueue q) := State.noticeQueue_told ..
      refine getLast_leaving queue pending (fun t => rfl) joins ?_ ⟨n, ?_, kind, handle⟩ renewed
      · cases m.watchers.get q with
        | false => exact form.1
        | true => exact (NoticeQueue.join_inForm _ form).1
      · cases m.watchers.get q with
        | false => exact member
        | true =>
          refine NoticeQueue.mem_join_of_mem member fun same => ?_
          cases kind.symm.trans same.1.symm
    case held =>
      have message : voidMessage k p m s = withdrawn s := by
        simp only [voidMessage, held]
        exact becomes s rfl rfl rfl
      refine exec_of_reply serving ((voids (by simp [Message.inTraffic, held])).trans ?_)
      rw [message]
      simp only [voidBytes, held]
      rfl
    case handed =>
      have message : voidMessage k p m s
          = (withdrawn ((s.withoutActive holder).told (onlyPort holder) revoked)).fencesSettled s.outstanding := by
        simp only [voidMessage, handed, settleFences_eq, clearActive_eq, post_eq_told, State.withoutActive_seconds]
        refine congrArg (State.fencesSettled s.outstanding) (becomes _ ?_ ?_ ?_)
        · exact s.withoutActive_slots holder
        · exact s.withoutActive_seconds holder
        · change (s.withoutActive holder).retained = s.retained
          rw [← clearActive_eq, clearActive_frame]
      refine exec_of_reply serving ((voids (by simp [Message.inTraffic, handed])).trans ?_)
      rw [message]
      simp only [voidBytes, handed]
      rfl
    case suspended =>
      have message : voidMessage k p m s
          = (withdrawn ((s.modBreakin holder (fun b =>
              { b with stack := b.stack.map (fun r =>
                if r.handle = s.handleOf k then { r with revoked := true } else r) })).told
                  (onlyPort holder) revoked)).fencesSettled s.outstanding := by
        simp only [voidMessage, suspended, settleFences_eq, revokeRecord_eq, post_eq_told]
        exact congrArg (State.fencesSettled s.outstanding) (becomes _ rfl rfl rfl)
      refine exec_of_reply serving ((voids (by simp [Message.inTraffic, suspended])).trans ?_)
      rw [message]
      simp only [voidBytes, suspended]
      rfl

end Sys2Proof.Machine
end

section
/-! AMEND and ADD-NOTE (R152 to R155), and what the taking of a segment leaves (R58). -/

namespace Sys2Proof.Machine

/-! ### AMEND -/

/-- The clamped adjust in the statement's spelling (R152). -/
theorem clampAdjust_eq (x : Int) : clampAdjust x = if x < -4096 then -4096 else if 4095 < x then 4095 else x := rfl

/-- An AMEND with bad fields carries neither item, or a class that is none (R152). -/
abbrev badAmend (f : AmendFields) : Prop :=
  f.presence.getLsbD 0 = false ∧ f.presence.getLsbD 1 = false ∨ f.presence.getLsbD 0 = true ∧ 3 < f.klass.toNat

/-- AMEND with bad fields. -/
theorem amend_of_bad {p : Port} {f : AmendFields} {s : State} (control : (s.port p).control = true) (bad : badAmend f) :
    amend p f s = refuse .badField s := by
  refine (controlOnly_of_control control).trans (if_pos ?_)
  rw [readClass_eq_none_iff]
  exact bad

/-- AMEND with good fields and a current handle. -/
theorem amend_of_good {p : Port} {f : AmendFields} {k : SlotNo} {s : State} (control : (s.port p).control = true)
    (good : ¬ badAmend f) (names : Names f.handle k s) :
    amend p f s =
      match s.record k with
      | none => refuse .wrongState s
      | some m =>
        if Message.inTraffic m = false then refuse .wrongState s
        else if AmendFields.hasClass f = true ∧ Message.inHand m = true then refuse .inHand s
        else
          answer .ok
            (amendBytes (amendMessage k f m s) k
              (AmendFields.hasAdjust f && !decide (clampAdjust f.adjust.toInt = f.adjust.toInt)))
            (amendMessage k f m s) := by
  refine (controlOnly_of_control control).trans ((if_neg ?_).trans ?_)
  · rw [readClass_eq_none_iff]
    exact good
  · exact withHandle_of_names names

/-- What an AMEND reports of the record it leaves (R152). -/
theorem amendBytes_eq {s : State} {k : SlotNo} {m : Message} (record : s.record k = some m) (clamped : Bool) :
    amendBytes s k clamped =
      handleBytes (some (s.handleOf k)) ++ be1 m.custody.name.code ++ be1 m.klass.code ++ classByte m.pendingUpgrade
        ++ be2 (twos 16 m.adjust) ++ boolByte clamped := by
  simp only [amendBytes, record]
  rfl

/-- The class of the active handoff where a record is written: its own message's, as written. -/
theorem State.activeClass_withRecord {s : State} {k : SlotNo} {m n : Message} (record : s.record k = some m) (q : Port) :
    (s.withRecord k n).activeClass q = s.activeClass q
      ∨ s.activeClass q = some m.klass ∧ (s.withRecord k n).activeClass q = some n.klass := by
  cases active : (s.breakin q).active with
  | none =>
    have active' : ((s.withRecord k n).breakin q).active = none := active
    exact .inl (by simp only [State.activeClass, active, active'])
  | some a =>
    have active' : ((s.withRecord k n).breakin q).active = some a := active
    by_cases same : k = a.handle.slot
    · subst same
      exact .inr ⟨State.activeClass_eq active record, State.activeClass_eq active' (State.record_withRecord_same ..)⟩
    · refine .inl ?_
      simp only [State.activeClass, active, active', State.record_withRecord_other same]

/-- The part s after the message m of slot k has been left as `after`, of another class or without its upgrade: STATE-CHANGE
where either changed, then the check of its queue where it was raised, or where it fell out of a pending break-in (R153). -/
def State.reclassed (s : State) (k : SlotNo) (m after : Message) : State :=
  let told :=
    if after.klass ≠ m.klass ∨ m.pendingUpgrade ≠ none
      then (s.withRecord k after).told m.watchers (stateChange s k after) else s.withRecord k after
  match s.queueOf k with
  | none => told
  | some q =>
    if m.klass.code < after.klass.code then breakInCheck q told
    else if after.klass.code < m.klass.code ∧ (s.breakin q).pending = some (s.handleOf k)
        ∧ (match s.activeClass q with | some a => decide (after.klass.code ≤ a.code) | none => false) = true then
      breakInCheck q (told.withoutPending q)
    else told

@[simp] theorem slots_reclassed (s : State) (k : SlotNo) (m after : Message) :
    (s.reclassed k m after).slots = (s.withRecord k after).slots := by
  have told : (if after.klass ≠ m.klass ∨ m.pendingUpgrade ≠ none
      then (s.withRecord k after).told m.watchers (stateChange s k after) else s.withRecord k after).slots
        = (s.withRecord k after).slots := by
    split <;> rfl
  unfold State.reclassed
  simp only
  cases s.queueOf k with
  | none => exact told
  | some q =>
    simp only
    by_cases raised : m.klass.code < after.klass.code
    · rw [if_pos raised, slots_breakInCheck, told]
    · rw [if_neg raised, apply_ite State.slots, slots_breakInCheck, State.withoutPending_slots, told, ite_self]

/-- The class of a message is set in the statements' terms (R153); `written` is the record with the adjust set. -/
theorem amendClass_eq {s : State} {k : SlotNo} {m written after : Message} {c : Class} (record : s.record k = some m)
    (area : written.area = m.area) (custody : written.custody = m.custody) (watchers : written.watchers = m.watchers)
    (is : after = { written with klass := c, pendingUpgrade := none }) :
    amendClass k c m (s.withRecord k written) = s.reclassed k m after := by
  have klass : after.klass = c := by rw [is]
  have area : after.area = m.area := by rw [is]; exact area
  have custody : after.custody = m.custody := by rw [is]; exact custody
  have watchers : after.watchers = m.watchers := by rw [is]; exact watchers
  have queue : (s.withRecord k after).queueOf k = s.queueOf k := State.queueOf_withRecord record area (by rw [custody]) k
  unfold amendClass State.reclassed
  simp only [modRecord_eq_withRecord _ (State.record_withRecord_same s k written), State.withRecord_withRecord]
  rw [← is, notifyWatchers_withRecord, watchers, ← klass]
  clear is klass
  obtain ⟨told, isTold⟩ : ∃ told : State, told = if after.klass ≠ m.klass ∨ m.pendingUpgrade ≠ none
      then (s.withRecord k after).told m.watchers (stateChange s k after) else s.withRecord k after := ⟨_, rfl⟩
  have member : told.queueOf k = s.queueOf k := by
    rw [isTold]
    split <;> exact queue
  have handle : told.handleOf k = s.handleOf k := by
    rw [isTold]
    split <;> exact State.handleOf_withRecord ..
  have pending (q : Port) : (told.breakin q).pending = (s.breakin q).pending := by
    rw [isTold]
    split <;> rfl
  have class_eq (q : Port) : told.activeClass q = (s.withRecord k after).activeClass q := by
    rw [isTold]
    split <;> rfl
  rw [← isTold, member]
  cases s.queueOf k with
  | none => rfl
  | some q =>
    simp only [Class.higher, decide_eq_true_eq]
    by_cases raised : m.klass.code < after.klass.code
    · rw [if_pos raised, if_pos raised]
    · rw [if_neg raised, if_neg raised]
      by_cases lowered : after.klass.code < m.klass.code
      · rw [if_pos lowered, class_eq, handle, departed_eq, pending]
        simp only [lowered, true_and]
        obtain same | ⟨before, now⟩ := State.activeClass_withRecord (n := after) record q
        · rw [same]
          cases s.activeClass q with
          | none => simp
          | some a =>
            by_cases higher : a.code < after.klass.code
            · simp [higher, Nat.not_le.mpr higher]
            · simp [higher, Nat.not_lt.mp higher]
        · rw [before, now]
          simp [Nat.le_of_lt lowered]
      · simp [lowered]

/-- The record with the adjust of an AMEND set, where it carries one (R154). -/
def AmendFields.adjusted (f : Sys2Proof.AmendFields) (m : Message) : Message :=
  if f.presence.getLsbD 1 then { m with adjust := clampAdjust f.adjust.toInt } else m

/-- The adjust of an AMEND in the statements' terms (R154). -/
theorem withRecord_adjusted {s : State} {k : SlotNo} {m : Message} (record : s.record k = some m) (f : AmendFields) :
    (if AmendFields.hasAdjust f then s.modRecord k (fun m => { m with adjust := clampAdjust f.adjust.toInt }) else s)
      = s.withRecord k (AmendFields.adjusted f m) := by
  unfold AmendFields.hasAdjust AmendFields.adjusted
  split
  · exact modRecord_eq_withRecord _ record
  · exact (State.withRecord_self record).symm

theorem amendMessage_without_class {s : State} {k : SlotNo} {m : Message} {f : AmendFields} (record : s.record k = some m)
    (noClass : f.presence.getLsbD 0 = false) :
    amendMessage k f m s = s.withRecord k (AmendFields.adjusted f m) := by
  simp only [amendMessage, withRecord_adjusted record, AmendFields.hasClass, noClass]

theorem amendMessage_of_class {s : State} {k : SlotNo} {m : Message} {f : AmendFields} {c : Class}
    (record : s.record k = some m) (hasClass : f.presence.getLsbD 0 = true) (code : c.code = f.klass.toNat) :
    amendMessage k f m s = amendClass k c m (s.withRecord k (AmendFields.adjusted f m)) := by
  simp only [amendMessage, withRecord_adjusted record, AmendFields.hasClass, hasClass, readClass_eq_some_iff.mpr code]

/-- Settles O46: the adjust is set first, then the class. -/
theorem amendSetsClassAndAdjust : Obligations.AmendSetsClassAndAdjust := by
  refine ⟨fun p f s rq serving control => ?refused,
    fun p f k m s rq serving control names record traffic => ?taken⟩
  case refused =>
    intro bad
    refine ⟨fun isBad => exec_of_refusal serving ?_, fun good k names outside => exec_of_refusal serving ?_⟩
    · change amend p f s = _
      exact amend_of_bad control isBad
    · change amend p f s = _
      rw [amend_of_good control good names]
      cases record : s.record k with
      | none => rfl
      | some m => exact if_pos (outside m record)
  case taken =>
    intro given clamped adjusted mark
    have live : ¬ m.inTraffic = false := by simp [traffic]
    have mark_eq : boolByte (AmendFields.hasAdjust f && !decide (clampAdjust f.adjust.toInt = f.adjust.toInt)) = mark := by
      simp only [mark, ne_eq, decide_not]
      rfl
    have acts (good : ¬ badAmend f) (free : ¬ (AmendFields.hasClass f = true ∧ m.inHand = true)) :
        blockAct (.amend p f) s = answer .ok (amendBytes (amendMessage k f m s) k
          (AmendFields.hasAdjust f && !decide (clampAdjust f.adjust.toInt = f.adjust.toInt))) (amendMessage k f m s) := by
      change amend p f s = _
      rw [amend_of_good control good names, record]
      exact (if_neg live).trans (if_neg free)
    refine ⟨fun noClass hasAdjust => exec_of_reply serving ?adjust, fun hasClass c code =>
      ⟨fun inHand => exec_of_refusal serving ?inHand, fun waits => ?classed⟩⟩
    case adjust =>
      have good : ¬ badAmend f := by
        rintro (⟨-, none⟩ | ⟨present, -⟩)
        · exact Bool.false_ne_true (none.symm.trans hasAdjust)
        · exact Bool.false_ne_true (noClass.symm.trans present)
      have written : amendMessage k f m s = s.withRecord k adjusted := amendMessage_without_class record noClass
      rw [acts good (fun both => Bool.false_ne_true (noClass.symm.trans both.1)), written,
        amendBytes_eq (State.record_withRecord_same ..), mark_eq, State.handleOf_withRecord]
      have whole : adjusted = { m with adjust := clamped } := if_pos hasAdjust
      rw [whole]
      rfl
    case inHand =>
      change amend p f s = _
      have good : ¬ badAmend f := by
        rintro (⟨none, -⟩ | ⟨-, high⟩)
        · exact Bool.false_ne_true (none.symm.trans hasClass)
        · have small : c.code ≤ 3 := by cases c <;> decide
          omega
      rw [amend_of_good control good names, record]
      exact (if_neg live).trans (if_pos ⟨hasClass, (Message.inHand_iff m).mpr inHand⟩)
    case classed =>
      intro after set told u
      have good : ¬ badAmend f := by
        rintro (⟨none, -⟩ | ⟨-, high⟩)
        · exact Bool.false_ne_true (none.symm.trans hasClass)
        · have small : c.code ≤ 3 := by cases c <;> decide
          omega
      have free : ¬ (AmendFields.hasClass f = true ∧ m.inHand = true) := by
        rintro ⟨-, inHand⟩
        rw [Message.inHand_iff] at inHand
        obtain queued | held := waits
        · simp [queued] at inHand
        · simp [held] at inHand
      have area : adjusted.area = m.area := by
        simp only [adjusted]
        split <;> rfl
      have custody : adjusted.custody = m.custody := by
        simp only [adjusted]
        split <;> rfl
      have watchers : adjusted.watchers = m.watchers := by
        simp only [adjusted]
        split <;> rfl
      have message : amendMessage k f m s = u :=
        (amendMessage_of_class record hasClass code).trans (amendClass_eq record area custody watchers rfl)
      have slots : u.slots = (s.withRecord k after).slots := slots_reclassed s k m after
      refine exec_of_reply serving ?_
      rw [acts good free, message,
        amendBytes_eq ((State.record_congr slots k).trans (State.record_withRecord_same ..)), mark_eq,
        State.handleOf_congr slots, State.handleOf_withRecord, show after.custody = m.custody from custody]
      rfl

end Sys2Proof.Machine
end

section
/-! Freeing, reclamation and the taking of segments (R54, R55, R58), with ENTER-CANCEL, PURGE, ADD-NOTE and APPEND-TEXT. -/

namespace Sys2Proof.Machine

/-! ### A freed slot -/

/-- A slot after its freeing; an EMPTY one stands (R54). -/
def Slot.freed (x : Slot) : Slot := if x.record.isSome then { inc := x.inc + 1, record := none } else x

theorem Slot.freed_of_record {x : Slot} {m : Message} (record : x.record = some m) :
    x.freed = { inc := x.inc + 1, record := none } := by
  rw [Slot.freed, record]
  rfl

theorem State.slot_withoutRecord (s : State) (k j : SlotNo) (m : Message) :
    (s.withoutRecord k m).slot j = if k = j then { inc := (s.slot j).inc + 1, record := none } else s.slot j :=
  State.slot_modSlot _ _ _ _

/-- A reclamation frees its own slot alone (R55). -/
theorem slot_reclaim (s : State) (k j : SlotNo) :
    (reclaim k s).slot j = if k = j then (s.slot j).freed else s.slot j := by
  cases record : s.record k with
  | none =>
    have same : k = j → (s.slot j).freed = s.slot j := by
      rintro rfl
      have none : (s.slot k).record = none := record
      rw [Slot.freed, none]
      rfl
    have still : reclaim k s = s := by rw [reclaim, record]
    rw [still]
    by_cases eq : k = j
    · rw [if_pos eq, same eq]
    · rw [if_neg eq]
  | some m =>
    rw [reclaim_eq record, State.slot_withoutRecord]
    split
    · next eq =>
      subst eq
      exact (Slot.freed_of_record record).symm
    · rfl

/-- The reclamation of records changes the slots, the pool, the retained list and the notices alone (R55). -/
theorem reclaimForSegment_frame (hs : List Handle) (s : State) :
    reclaimForSegment hs s =
      { s with
        slots := (reclaimForSegment hs s).slots, freeSegments := (reclaimForSegment hs s).freeSegments
        retained := (reclaimForSegment hs s).retained, noticeQueues := (reclaimForSegment hs s).noticeQueues } := by
  induction hs generalizing s with
  | nil => rfl
  | cons h hs ih =>
    rw [reclaimForSegment]
    split
    · rfl
    · rw [ih, reclaim_frame]

/-- Nothing is reclaimed while the pool holds a segment (R58). -/
theorem reclaimForSegment_of_free {s : State} (free : 1 ≤ s.freeSegments) (hs : List Handle) :
    reclaimForSegment hs s = s := by
  cases hs with
  | nil => rfl
  | cons h hs => exact if_pos free

/-- Only the slots that the list names are freed (R58). -/
theorem slot_reclaimForSegment_other {hs : List Handle} {k : SlotNo} (other : ∀ h ∈ hs, h.slot ≠ k) (s : State) :
    (reclaimForSegment hs s).slot k = s.slot k := by
  induction hs generalizing s with
  | nil => rfl
  | cons h hs ih =>
    rw [reclaimForSegment]
    split
    · rfl
    · rw [ih fun x member => other x (List.mem_cons_of_mem h member), slot_reclaim,
        if_neg (other h List.mem_cons_self)]

/-! ### The taking of segments -/

theorem takeSegments_frame (n : Nat) (s : State) :
    takeSegments n s =
      { s with
        slots := (takeSegments n s).slots, freeSegments := (takeSegments n s).freeSegments
        retained := (takeSegments n s).retained, noticeQueues := (takeSegments n s).noticeQueues } := by
  unfold takeSegments
  split
  · rfl
  · simp only
    rw [reclaimForSegment_frame]

/-- Segments that the pool holds come from the pool alone (R58). -/
theorem takeSegments_of_free {s : State} {n : Nat} (few : n ≤ 1) (free : n ≤ s.freeSegments) :
    takeSegments n s = { s with freeSegments := s.freeSegments - n } := by
  unfold takeSegments
  split
  · next zero =>
    subst zero
    rfl
  · rw [reclaimForSegment_of_free (by omega)]

/-- A record that is not retained keeps its slot when segments are taken (R53, R58). -/
theorem slot_takeSegments {s : State} {n : Nat} {k : SlotNo} {m : Message} (listed : s.retainedListed)
    (record : s.record k = some m) (live : m.retainedRecord = false) : (takeSegments n s).slot k = s.slot k := by
  obtain ⟨-, named, exactly⟩ := listed
  have other : ∀ h ∈ s.retained, h.slot ≠ k := by
    rintro h member rfl
    have retained := (exactly h.slot).mp (by rw [named h member]; exact member)
    rw [record] at retained
    simp [live] at retained
  unfold takeSegments
  split
  · rfl
  · exact slot_reclaimForSegment_other other s

/-- A record that is not retained keeps its slot, whether the segments come from the pool or from the retained list. -/
theorem slot_takeSegments_of_either {s : State} {n : Nat} {k : SlotNo} {m : Message} (few : n ≤ 1)
    (supply : n ≤ s.freeSegments ∨ s.storeSound) (record : s.record k = some m) (live : m.retainedRecord = false) :
    (takeSegments n s).slot k = s.slot k := by
  obtain free | sound := supply
  · rw [takeSegments_of_free few free]
    rfl
  · exact slot_takeSegments sound.retained record live

/-! ### ADD-NOTE -/

/-- The substituted characters in the statements' spelling (R35). -/
theorem substitute_eq (c : Byte) : substitute c = if 0x20 ≤ c.toNat ∧ c.toNat ≤ 0x7E then c else 0x3F := by
  simp only [substitute, printable, decide_eq_true_eq]

theorem Message.retainedRecord_of_inTraffic {m : Message} (traffic : m.inTraffic = true) : m.retainedRecord = false := by
  revert traffic
  unfold Message.inTraffic Message.retainedRecord
  cases m.custody <;> simp

/-- Settles O47: the segment is taken from the pool or from retained records, none of which is the message noted. -/
theorem addNoteAddsAtTheEnd : Obligations.AddNoteAddsAtTheEnd := by
  have acts {p : Port} {h : HandleField} {chars : List Byte} {k : SlotNo} {s : State} {r : Reply × State}
      (control : (s.port p).control = true) (names : Names h k s)
      (act : (if chars.length = 0 ∨ 40 < chars.length then refuse .badField s
        else
          match s.record k with
          | none => refuse .wrongState s
          | some m =>
            if Message.inTraffic m = false then refuse .wrongState s
            else if Config.noteLimit ≤ m.notes.length then refuse .notesFull s
            else if s.freeSegments + s.retainedSegments < 1 then refuse .poolFull s
            else
              answer .ok
                (handleBytes (some ((notifyWatchers k ((takeSegments 1 s).modRecord k (noted chars))).handleOf k))
                  ++ be1 m.notes.length ++ be1 (m.notes.length + 1)
                  ++ boolByte (chars.any (fun c => !printable c)))
                (notifyWatchers k ((takeSegments 1 s).modRecord k (noted chars)))) = r) :
      blockAct (.addNote p h chars) s = r := by
    rw [← act]
    change addNote p h chars s = _
    exact controlOnly_withHandle control names
  refine ⟨fun p h chars k s rq serving control names => ⟨fun bad => exec_of_refusal serving (acts control names ?badField),
      fun low high outside => exec_of_refusal serving (acts control names ?wrongState)⟩,
    fun p h chars k m s rq serving control names record low high traffic =>
      ⟨fun full => exec_of_refusal serving (acts control names ?notesFull), fun room supply => ?noted⟩⟩
  case badField => exact if_pos bad
  case wrongState =>
    rw [if_neg (by omega)]
    cases record : s.record k with
    | none => rfl
    | some m => exact if_pos (outside m record)
  case notesFull =>
    rw [if_neg (by omega), record]
    exact (if_neg (by simp [traffic])).trans (if_pos full)
  case noted =>
    intro replaced after
    have slot : (takeSegments 1 s).slot k = s.slot k :=
      slot_takeSegments_of_either (Nat.le_refl 1) (supply.imp_right And.left) record
        (Message.retainedRecord_of_inTraffic traffic)
    have there : (takeSegments 1 s).record k = some m := (congrArg Slot.record slot).trans record
    have enough : ¬ s.freeSegments + s.retainedSegments < 1 := by
      obtain free | ⟨-, retained⟩ := supply <;> omega
    have stored : chars.map substitute = chars.map (fun c => if 0x20 ≤ c.toNat ∧ c.toNat ≤ 0x7E then c else 0x3F) :=
      List.map_congr_left fun c _ => substitute_eq c
    have noted_eq : noted chars m = after := by
      rw [noted, stored]
      rfl
    have handle : (takeSegments 1 s).handleOf k = s.handleOf k := by
      rw [State.handleOf, slot]
      rfl
    have change : stateChange (takeSegments 1 s) k after = stateChange s k after := by
      have now : (takeSegments 1 s).seconds = s.seconds := by rw [takeSegments_frame]
      rw [stateChange, now, handle]
      rfl
    refine exec_of_reply serving (acts control names ?_)
    rw [if_neg (by omega), record]
    refine (if_neg (by simp [traffic])).trans ((if_neg (Nat.not_le.mpr room)).trans ((if_neg enough).trans ?_))
    rw [modRecord_eq_withRecord _ there, noted_eq, notifyWatchers_withRecord, change]
    have told : ((State.withRecord (takeSegments 1 s) k after).told after.watchers (stateChange s k after)).handleOf k
        = s.handleOf k := (State.handleOf_withRecord ..).trans handle
    rw [told]
    rfl

end Sys2Proof.Machine
end

section
/-! APPEND-TEXT and ENTER-BEGIN: what they store, and the reserves that refuse them (R30 to R38, R56, R57). -/

namespace Sys2Proof.Machine

/-! ### The parts of an append -/

section
variable {m : Message} {chars : List Byte}

/-- The stored characters in the statement's terms (R34 to R36). -/
theorem storedChars_eq (m : Message) (chars : List Byte) :
    storedChars m chars = (chars.take (2560 - m.text.length)).map
      (fun c => if 0x20 ≤ c.toNat ∧ c.toNat ≤ 0x7E then c else 0x3F) :=
  List.map_congr_left fun c _ => substitute_eq c

theorem length_storedChars (m : Message) (chars : List Byte) :
    (storedChars m chars).length = min (2560 - m.text.length) chars.length := by
  rw [storedChars, List.length_map, List.length_take]

/-- Characters are discarded exactly where fewer are stored than were offered (R36). -/
theorem discardsChars_eq (m : Message) (chars : List Byte) :
    discardsChars m chars = decide ((storedChars m chars).length < chars.length) := by
  rw [discardsChars, length_storedChars]
  change decide (2560 - m.text.length < chars.length) = _
  refine decide_eq_decide.mpr ?_
  omega

/-- The segment need of an append is that of the text it makes (R37). -/
theorem segmentNeed_eq (m : Message) (chars : List Byte) :
    segmentNeed m chars = (m.text.length + (storedChars m chars).length + 39) / 40 - (m.text.length + 39) / 40 := rfl

/-- An append of at most 40 characters needs at most one segment (R37). -/
theorem segmentNeed_le (m : Message) (short : chars.length ≤ 40) : segmentNeed m chars ≤ 1 := by
  have stored := length_storedChars m chars
  rw [segmentNeed_eq]
  omega

end

/-! ### The segment reserve (R57) -/

/-- WELFARE and ROUTINE are the classes with the codes 0 and 1. -/
theorem Class.reserved_iff (c : Class) : Class.reserved c = true ↔ c.code ≤ 1 := by
  cases c <;> simp [Class.reserved, Class.code]

theorem segmentRefusal_of_allowed {c : Class} {n : Nat} {s : State}
    (allowed : n = 0 ∨ 2 ≤ c.code ∧ n ≤ s.freeSegments + s.retainedSegments
      ∨ 64 + n ≤ s.freeSegments + s.retainedSegments) : segmentRefusal c n s = none := by
  unfold segmentRefusal
  change (if n = 0 then none else if Class.reserved c then
    if s.freeSegments + s.retainedSegments < 64 + n then some Result.poolLow else none
    else if s.freeSegments + s.retainedSegments < n then some Result.poolFull else none) = none
  by_cases zero : n = 0
  · rw [if_pos zero]
  · rw [if_neg zero]
    by_cases reserved : c.code ≤ 1
    · rw [if_pos ((Class.reserved_iff c).mpr reserved), if_neg (by omega)]
    · rw [if_neg (mt (Class.reserved_iff c).mp reserved), if_neg (by omega)]

theorem segmentRefusal_of_low {c : Class} {n : Nat} {s : State} (needs : n ≠ 0) (reserved : c.code ≤ 1)
    (low : s.freeSegments + s.retainedSegments < 64 + n) : segmentRefusal c n s = some .poolLow := by
  rw [segmentRefusal, if_neg needs, if_pos ((Class.reserved_iff c).mpr reserved)]
  exact if_pos low

theorem segmentRefusal_of_full {c : Class} {n : Nat} {s : State} (needs : n ≠ 0) (free : 2 ≤ c.code)
    (full : s.freeSegments + s.retainedSegments < n) : segmentRefusal c n s = some .poolFull := by
  have notReserved : ¬ Class.reserved c = true := mt (Class.reserved_iff c).mp (by omega)
  rw [segmentRefusal, if_neg needs, if_neg notReserved]
  exact if_pos full

/-! ### APPEND-TEXT -/

section
variable {p q : Port} {h : HandleField} {k : SlotNo} {m : Message} {chars : List Byte} {s : State}

theorem appendText_of_bad (names : Names h k s) (bad : chars.length = 0 ∨ 40 < chars.length) :
    appendText p h chars s = refuse .badField s :=
  (withHandle_of_names names).trans (if_pos bad)

theorem appendText_of_not_filling (names : Names h k s) (low : 1 ≤ chars.length) (high : chars.length ≤ 40)
    (other : ∀ m, s.record k = some m → m.custody ≠ .filling) : appendText p h chars s = refuse .wrongState s := by
  refine (withHandle_of_names names).trans ((if_neg (by omega)).trans ?_)
  cases record : s.record k with
  | none => rfl
  | some m => exact if_pos (other m record)

theorem appendText_of_other (names : Names h k s) (low : 1 ≤ chars.length) (high : chars.length ≤ 40)
    (filling : FillingOn s k m q) (other : q ≠ p) : appendText p h chars s = refuse .notYours s := by
  obtain ⟨record, custody, rfl⟩ := filling
  refine (withHandle_of_names names).trans ((if_neg (by omega)).trans ?_)
  rw [record]
  exact (if_neg (not_not.mpr custody)).trans (if_pos other)

theorem appendText_of_refusal {r : Result} (names : Names h k s) (low : 1 ≤ chars.length) (high : chars.length ≤ 40)
    (own : FillingOn s k m p) (refusal : segmentRefusal m.klass (segmentNeed m chars) s = some r) :
    appendText p h chars s = refuse r s := by
  obtain ⟨record, custody, port⟩ := own
  refine (withHandle_of_names names).trans ((if_neg (by omega)).trans ?_)
  rw [record]
  refine (if_neg (not_not.mpr custody)).trans ((if_neg (not_not.mpr port)).trans ?_)
  rw [refusal]

theorem appendText_of_allowed (names : Names h k s) (low : 1 ≤ chars.length) (high : chars.length ≤ 40)
    (own : FillingOn s k m p) (allowed : segmentRefusal m.klass (segmentNeed m chars) s = none) :
    appendText p h chars s = appendAccepted p k m chars s := by
  obtain ⟨record, custody, port⟩ := own
  refine (withHandle_of_names names).trans ((if_neg (by omega)).trans ?_)
  rw [record]
  refine (if_neg (not_not.mpr custody)).trans ((if_neg (not_not.mpr port)).trans ?_)
  rw [allowed]

end

/-- Changes of an entry context that agree there are one. -/
theorem State.modEntry_congr {s : State} {p : Port} {f g : EntryContext → EntryContext}
    (same : f (s.entryOf p) = g (s.entryOf p)) : s.modEntry p f = s.modEntry p g := by
  have entries : vmod s.entries p f = vmod s.entries p g := by
    apply vector_ext
    intro q
    rw [get_vmod, get_vmod]
    split
    · next eq =>
      subst eq
      exact same
    · rfl
  rw [State.modEntry, State.modEntry, entries]

/-- Settles O19: the segment comes from the pool or from retained records, and the FILLING message keeps its slot. -/
theorem appendStoresText : Obligations.AppendStoresText := by
  intro p h k m chars s rq serving names own low high offered stored need counted allowed supply
  obtain ⟨record, custody, port⟩ := own
  have stored_eq : storedChars m chars = stored := storedChars_eq m chars
  have need_eq : segmentNeed m chars = need := by rw [segmentNeed_eq, stored_eq]
  have live : m.retainedRecord = false := by rw [Message.retainedRecord, custody]
  have slot : (takeSegments need s).slot k = s.slot k :=
    slot_takeSegments_of_either (need_eq ▸ segmentNeed_le m high) supply record live
  have there : (takeSegments need s).record k = some m := (congrArg Slot.record slot).trans record
  have now : (takeSegments need s).seconds = s.seconds := by rw [takeSegments_frame]
  refine exec_of_reply serving ((appendText_of_allowed names low high ⟨record, custody, port⟩
    (segmentRefusal_of_allowed (by rw [need_eq]; exact allowed))).trans ?_)
  have message : storeChars m chars (s.entryOf p).spaceCarry =
      { m with
        text := m.text ++ stored
        substituted := m.substituted || offered.any (fun c => !decide (0x20 ≤ c.toNat ∧ c.toNat ≤ 0x7E))
        truncated := m.truncated || decide (stored.length < chars.length)
        words := counted.1 } := by
    rw [storeChars, discardsChars_eq, stored_eq]
    rfl
  have entry : (takeSegments need s).entryOf p = s.entryOf p := by
    rw [takeSegments_frame]
    rfl
  simp only [appendAccepted, need_eq, modRecord_eq_withRecord _ there, message, stored_eq]
  refine Prod.ext (congrArg (Reply.mk .ok) ?_) (State.modEntry_congr ?_)
  · simp [counted]
  · change appendActivity (takeSegments need s).seconds m chars ((takeSegments need s).entryOf p) = _
    rw [entry, now, appendActivity, stored_eq]
    change _ = ({ filling := ((takeSegments need s).entryOf p).filling.map _, spaceCarry := _ } : EntryContext)
    rw [entry]

/-! ### The header of an ENTER-BEGIN (R30) -/

theorem optionalWithin_iff (lo hi : Nat) (h : Half) :
    optionalWithin lo hi (readOptional h) = true ↔ h.toNat = 65535 ∨ lo ≤ h.toNat ∧ h.toNat ≤ hi := by
  unfold readOptional
  by_cases absent : h.toNat = 65535
  · simp [optionalWithin, absent]
  · rw [if_neg absent]
    simp [optionalWithin, absent]

/-- The header of a good ENTER-BEGIN. -/
def EnterBeginFields.header (f : Sys2Proof.EnterBeginFields) (c : Class) (origin : List Byte) : Header :=
  { klass := c, origin := origin, serial := f.serial.toNat, day := f.day.toNat, hour := f.hour.toNat
    minute := f.minute.toNat, area := f.area.toNat, check := readOptional f.check, deadline := readOptional f.deadline }

/-- The fields are in range exactly where the header is read (R30, R192). -/
theorem readEnterBegin_of_inRange {f : EnterBeginFields} {origin : List Byte} {c : Class} (inRange : HeaderInRange f origin)
    (code : c.code = f.klass.toNat) : readEnterBegin f = some (EnterBeginFields.header f c origin) := by
  obtain ⟨-, station, serialLow, serialHigh, dayLow, dayHigh, hour, minute, area, check, deadline⟩ := inRange
  simp only [readEnterBegin, readClass_eq_some_iff.mpr code, station]
  refine if_pos ⟨decide_eq_true ⟨serialLow, serialHigh⟩, decide_eq_true ⟨dayLow, dayHigh⟩, hour, minute, area,
    (optionalWithin_iff ..).mpr ?_, (optionalWithin_iff ..).mpr deadline⟩
  omega

theorem readEnterBegin_of_outside {f : EnterBeginFields} (outside : ∀ origin, ¬ HeaderInRange f origin) :
    readEnterBegin f = none := by
  unfold readEnterBegin
  cases class_eq : readClass f.klass with
  | none => rfl
  | some c =>
    cases station : readStation f.station with
    | none => rfl
    | some origin =>
      refine if_neg fun inRange => outside origin ?_
      obtain ⟨serial, day, hour, minute, area, check, deadline⟩ := inRange
      have code := readClass_eq_some_iff.mp class_eq
      have small : c.code ≤ 3 := by cases c <;> decide
      obtain ⟨serialLow, serialHigh⟩ := of_decide_eq_true serial
      obtain ⟨dayLow, dayHigh⟩ := of_decide_eq_true day
      have check := (optionalWithin_iff ..).mp check
      exact ⟨by omega, station, serialLow, serialHigh, dayLow, dayHigh, hour, minute, area, by omega,
        (optionalWithin_iff ..).mp deadline⟩

/-- The record that a good header begins (R32). -/
theorem newMessage_header (p : Port) (f : EnterBeginFields) (c : Class) (origin : List Byte) :
    newMessage p (EnterBeginFields.header f c origin) = begun p c origin f := rfl

/-! ### The slot reserve (R56) -/

theorem slotRefusal_of_allowed {c : Class} {s : State}
    (allowed : 2 ≤ c.code ∧ ¬ (s.emptySlots = 0 ∧ s.retained = []) ∨ 8 < s.emptySlots + s.retainedRecords
      ∧ ¬ (s.emptySlots = 0 ∧ s.retained = [])) : slotRefusal c s = none := by
  unfold slotRefusal
  by_cases reserved : c.code ≤ 1
  · rw [if_pos ((Class.reserved_iff c).mpr reserved)]
    refine if_neg ?_
    change ¬ s.emptySlots + s.retainedRecords ≤ 8
    omega
  · rw [if_neg (mt (Class.reserved_iff c).mp reserved), if_neg (allowed.elim And.right And.right)]

theorem slotRefusal_of_low {c : Class} {s : State} (reserved : c.code ≤ 1) (low : s.emptySlots + s.retainedRecords ≤ 8) :
    slotRefusal c s = some .storeLow := by
  rw [slotRefusal, if_pos ((Class.reserved_iff c).mpr reserved)]
  exact if_pos low

theorem slotRefusal_of_full {c : Class} {s : State} (free : 2 ≤ c.code) (empty : s.emptySlots = 0)
    (none : s.retained = []) : slotRefusal c s = some .storeFull := by
  rw [slotRefusal, if_neg (mt (Class.reserved_iff c).mp (by omega)), if_pos ⟨empty, none⟩]

/-- The lowest EMPTY slot is EMPTY, and none below it is (R3). -/
theorem State.lowestEmpty_eq_some {s : State} {k : SlotNo} (empty : s.record k = none)
    (lower : ∀ j : SlotNo, j.val < k.val → s.record j ≠ none) : s.lowestEmpty = some k := by
  cases found : s.lowestEmpty with
  | none =>
    have none := List.find?_eq_none.mp found k (mem_allSlots k)
    simp [empty] at none
  | some j =>
    obtain ⟨isEmpty, before, after, slots, noneBefore⟩ := List.find?_eq_some_iff_append.mp found
    have isEmpty : s.record j = none := by simpa using isEmpty
    have sorted : allSlots.Pairwise (· < ·) := List.pairwise_lt_finRange 192
    rw [slots, List.pairwise_append, List.pairwise_cons] at sorted
    obtain ⟨-, ⟨later, -⟩, -⟩ := sorted
    have member : k ∈ before ++ j :: after := slots ▸ mem_allSlots k
    obtain early | rfl | late := by simpa using member
    · have full := noneBefore k early
      simp [empty] at full
    · rfl
    · exact absurd isEmpty (lower j (later k late))

theorem State.emptySlots_ne_zero {s : State} {k : SlotNo} (empty : s.record k = none) : s.emptySlots ≠ 0 := by
  rw [State.emptySlots, ne_eq, List.countP_eq_zero]
  intro none
  exact none k (mem_allSlots k) (by rw [empty]; rfl)

theorem State.lowestEmpty_eq_none {s : State} (full : ∀ k, s.record k ≠ none) : s.lowestEmpty = none := by
  refine List.find?_eq_none.mpr fun k _ => ?_
  simpa using full k

/-! ### ENTER-BEGIN -/

section
variable {p : Port} {f : EnterBeginFields} {s : State}

theorem enterBegin_of_open {o : OpenEntry} (open_ : (s.entryOf p).filling = some o) :
    enterBegin p f s = answer .entryOpen (handleBytes (some o.handle)) s := by
  simp only [enterBegin, open_]

theorem enterBegin_of_bad (closed : (s.entryOf p).filling = none) (bad : readEnterBegin f = none) :
    enterBegin p f s = refuse .badField s := by
  simp only [enterBegin, closed, bad]

theorem enterBegin_of_refusal {hd : Header} {r : Result} (closed : (s.entryOf p).filling = none)
    (header : readEnterBegin f = some hd) (refusal : slotRefusal hd.klass s = some r) :
    enterBegin p f s = refuse r s := by
  simp only [enterBegin, closed, header, refusal]

theorem enterBegin_of_allowed {hd : Header} {k : SlotNo} (closed : (s.entryOf p).filling = none)
    (header : readEnterBegin f = some hd) (allowed : slotRefusal hd.klass s = none)
    (empty : (makeRoom s).lowestEmpty = some k) :
    enterBegin p f s
      = answer .ok (handleBytes (some ((makeRoom s).handleOf k))) (openEntry p hd k (makeRoom s)) := by
  simp only [enterBegin, closed, header, allowed, empty]

end

/-- Settles O17: the lowest EMPTY slot is taken, or the slot that the reclamation of the oldest retained record frees. -/
theorem enterBeginOpensEntry : Obligations.EnterBeginOpensEntry := by
  intro p f origin c k s rq serving closed inRange code
  have header := readEnterBegin_of_inRange inRange code
  refine ⟨fun empty lower room => exec_of_reply serving ?empty,
    fun old rest full retained record room => ?reclaimed⟩
  case empty =>
    have lowest := State.lowestEmpty_eq_some empty lower
    have same : makeRoom s = s := by rw [makeRoom, lowest]
    have allowed : slotRefusal c s = none := by
      refine slotRefusal_of_allowed ?_
      have notFull : ¬ (s.emptySlots = 0 ∧ s.retained = []) := fun both => State.emptySlots_ne_zero empty both.1
      rw [code]
      exact room.imp (⟨·, notFull⟩) (⟨·, notFull⟩)
    refine (enterBegin_of_allowed closed header allowed (same.symm ▸ lowest)).trans ?_
    rw [same]
    rfl
  case reclaimed =>
    intro freed
    have made : makeRoom s = freed := by
      rw [makeRoom, State.lowestEmpty_eq_none full, retained]
      exact reclaim_eq record
    have lowest : freed.lowestEmpty = some k := by
      have slot (j : SlotNo) := State.slot_withoutRecord (s.told old.watchers
        { kind := .reclaimed, handle := some (s.handleOf k), detail := .nothing, time := s.seconds }) k j old
      refine State.lowestEmpty_eq_some ?_ fun j lower => ?_
      · rw [State.record_eq, slot k, if_pos rfl]
      · have other : k ≠ j := by
          rintro rfl
          omega
        rw [State.record_eq, slot j, if_neg other]
        exact full j
    have allowed : slotRefusal c s = none := by
      refine slotRefusal_of_allowed ?_
      have notFull : ¬ (s.emptySlots = 0 ∧ s.retained = []) := by
        rw [retained]
        simp
      rw [code]
      exact room.imp (⟨·, notFull⟩) (fun many => ⟨by omega, notFull⟩)
    refine exec_of_reply serving ((enterBegin_of_allowed closed header allowed (made.symm ▸ lowest)).trans ?_)
    rw [made]
    rfl

/-- Settles O18: each reserve at its count. -/
theorem reservesRefuse : Obligations.ReservesRefuse := by
  intro p s rq
  refine ⟨fun f serving => ⟨fun o open_ => exec_of_reply serving (enterBegin_of_open open_),
      fun closed outside => exec_of_refusal serving (enterBegin_of_bad closed (readEnterBegin_of_outside outside)),
      fun origin closed inRange => ?slots⟩,
    fun h k chars serving names => ⟨fun bad => exec_of_refusal serving (appendText_of_bad names bad),
      fun low high => ⟨fun other => exec_of_refusal serving (appendText_of_not_filling names low high other),
        fun q other m filling => exec_of_refusal serving (appendText_of_other names low high filling other)⟩⟩,
    fun h k m chars names record low high => ⟨fun serving own needs => ?segments,
      fun serving control traffic room empty => exec_of_refusal serving ?note⟩⟩
  case slots =>
    obtain ⟨c, class_eq⟩ : ∃ c, readClass f.klass = some c := by
      cases class_eq : readClass f.klass with
      | some c => exact ⟨c, rfl⟩
      | none => exact absurd inRange.1 (Nat.not_le.mpr (readClass_eq_none_iff.mp class_eq))
    have code := readClass_eq_some_iff.mp class_eq
    have header := readEnterBegin_of_inRange inRange code
    exact ⟨fun reserved few => exec_of_refusal serving
        (enterBegin_of_refusal closed header (slotRefusal_of_low (c := c) (by omega) few)),
      fun free empty none => exec_of_refusal serving
        (enterBegin_of_refusal closed header (slotRefusal_of_full (c := c) (by omega) empty none))⟩
  case segments =>
    have need : segmentNeed m chars = 1 := by
      have most := segmentNeed_le m high
      rw [segmentNeed_eq, storedChars, List.length_map] at most ⊢
      change (m.text.length + (chars.take (2560 - m.text.length)).length + 39) / 40 - _ ≤ 1 at most
      change (m.text.length + (chars.take (2560 - m.text.length)).length + 39) / 40 - _ = 1
      omega
    exact ⟨fun reserved few => exec_of_refusal serving (appendText_of_refusal names low high own
        (by rw [need]; exact segmentRefusal_of_low (by omega) reserved (by omega))),
      fun free empty => exec_of_refusal serving (appendText_of_refusal names low high own
        (by rw [need]; exact segmentRefusal_of_full (by omega) free (by omega)))⟩
  case note =>
    change addNote p h chars s = _
    refine (controlOnly_withHandle control names).trans ((if_neg (by omega)).trans ?_)
    rw [record]
    exact (if_neg (by simp [traffic])).trans ((if_neg (Nat.not_le.mpr room)).trans (if_pos (by omega)))

end Sys2Proof.Machine
end

section
/-! FIND (R23), ENTER-CANCEL and PURGE, the reclamation of records for a segment (R55, R58) and the idle entries (R47). -/

namespace Sys2Proof.Machine

/-! ### FIND -/

/-- Where one element of a list without repeats satisfies a test, it is the one found. -/
theorem find?_of_countP_one {α : Type} {test : α → Bool} {l : List α} {x : α} (one : l.countP test = 1)
    (member : x ∈ l) (holds : test x = true) : l.find? test = some x := by
  rw [List.countP_eq_length_filter] at one
  obtain ⟨y, only⟩ := List.length_eq_one_iff.mp one
  have isY {z : α} (member : z ∈ l) (holds : test z = true) : z = y := by
    have inside : z ∈ l.filter test := List.mem_filter.mpr ⟨member, holds⟩
    rw [only] at inside
    exact List.mem_singleton.mp inside
  cases found : l.find? test with
  | none => exact absurd holds (List.find?_eq_none.mp found x member)
  | some z =>
    rw [isY member holds, isY (List.mem_of_find?_eq_some found) (List.find?_some found)]

section
variable {s : State} {origin : List Byte} {serial day : Nat} {k : SlotNo} {m : Message}

/-- The number of holders of a key, in the statement's terms (R23). -/
theorem countP_keyHolder (s : State) (origin : List Byte) (serial day : Nat) :
    allSlots.countP (fun k => match s.record k with
      | some m => Message.holdsKey m && Message.hasKey m origin serial day
      | none => false)
      = s.counted (fun m => decide (m.origin = origin ∧ m.serial = serial ∧ m.day = day) && m.holdsKey) := by
  refine List.countP_congr fun k _ => ?_
  cases s.record k with
  | none => exact Iff.rfl
  | some m =>
    exact iff_of_eq (congrArg (· = true) (Bool.and_comm (Message.holdsKey m) (Message.hasKey m origin serial day)))

theorem keyHolder_of_one (record : s.record k = some m) (key : Message.hasKey m origin serial day = true)
    (holds : m.holdsKey = true)
    (one : s.counted (fun m => decide (m.origin = origin ∧ m.serial = serial ∧ m.day = day) && m.holdsKey) = 1) :
    s.keyHolder origin serial day = some k := by
  refine find?_of_countP_one ((countP_keyHolder ..).trans one) (mem_allSlots k) ?_
  simp only [record, holds, key, Bool.and_self]

theorem keyHolder_of_zero
    (zero : s.counted (fun m => decide (m.origin = origin ∧ m.serial = serial ∧ m.day = day) && m.holdsKey) = 0) :
    s.keyHolder origin serial day = none :=
  List.find?_eq_none.mpr fun k _ => List.countP_eq_zero.mp ((countP_keyHolder ..).trans zero) k (mem_allSlots k)

/-- The VOID records with a key, in the statement's terms (R23). -/
theorem voidWithKey_eq (s : State) (origin : List Byte) (serial day : Nat) (k : SlotNo) :
    s.voidWithKey origin serial day k = (s.record k).any (fun m =>
      decide (m.origin = origin ∧ m.serial = serial ∧ m.day = day) && decide (m.custody = .void)) := by
  unfold State.voidWithKey
  cases s.record k with
  | none => rfl
  | some m =>
    exact Bool.and_comm (decide (m.custody = .void)) (Message.hasKey m origin serial day)

theorem voidCount_eq (s : State) (origin : List Byte) (serial day : Nat) :
    s.voidCount origin serial day
      = s.counted (fun m => decide (m.origin = origin ∧ m.serial = serial ∧ m.day = day) && decide (m.custody = .void)) := by
  refine List.countP_congr fun k _ => ?_
  rw [voidWithKey_eq]
  cases s.record k <;> exact Iff.rfl

/-- The VOID record with a key that stands last in the retained list is the latest (R23). -/
theorem latestVoid_of_last {earlier later : List Handle} (retained : s.retained = earlier ++ s.handleOf k :: later)
    (holds : s.voidWithKey origin serial day k = true)
    (none : ∀ x ∈ later, s.voidWithKey origin serial day x.slot = false) : s.latestVoid origin serial day = some k := by
  have found : s.retained.reverse.find? (fun h => s.voidWithKey origin serial day h.slot) = some (s.handleOf k) := by
    have nothing : later.reverse.find? (fun h => s.voidWithKey origin serial day h.slot) = Option.none := by
      refine List.find?_eq_none.mpr fun x member => ?_
      simp [none x (List.mem_reverse.mp member)]
    rw [retained]
    simp only [List.reverse_append, List.reverse_cons, List.append_assoc, List.find?_append, nothing, Option.none_or]
    exact Option.or_of_isSome (by simp [show (s.handleOf k).slot = k from rfl, holds]) |>.trans (by
      simp [show (s.handleOf k).slot = k from rfl, holds])
  rw [State.latestVoid, found]
  rfl

end

/-- Settles O16. -/
theorem findLooksUpKeys : Obligations.FindLooksUpKeys := by
  refine ⟨fun p station serial day s rq serving bad => exec_of_refusal serving ?bad,
    fun p station serial day origin s rq serving reads serialLow serialHigh dayLow dayHigh => ?good⟩
  case bad =>
    simp only [blockAct, findMessage]
    cases reads : readStation station with
    | none => rfl
    | some origin =>
      refine if_neg fun both => ?_
      have serialGood := (serialOk_iff serial).mp both.1
      have dayGood := of_decide_eq_true both.2
      simp only [reads, reduceCtorEq, false_or] at bad
      omega
  case good =>
    intro hasKey voids holding
    have good : serialOk serial = true ∧ dayOk day = true :=
      ⟨(serialOk_iff serial).mpr ⟨serialLow, serialHigh⟩, decide_eq_true ⟨dayLow, dayHigh⟩⟩
    refine ⟨fun k m record key found => exec_of_reply serving ?found, fun noHolder noVoid =>
      exec_of_refusal serving ?notFound⟩
    case found =>
      have holder : s.findKey origin serial.toNat day.toNat = some k := by
        obtain ⟨holds, one⟩ | ⟨void, zero, earlier, later, retained, last⟩ := found
        · rw [State.findKey, keyHolder_of_one record key holds one]
        · have isVoid : s.voidWithKey origin serial.toNat day.toNat k = true := by
            rw [voidWithKey_eq, record]
            simp only [Option.any_some, void, decide_true, Bool.and_true]
            exact key
          rw [State.findKey, keyHolder_of_zero zero]
          exact latestVoid_of_last retained isVoid fun x member => (voidWithKey_eq ..).trans (last x member)
      simp only [blockAct, findMessage, reads, good, and_self, if_true, holder, record, findBytes, voidCount_eq]
      rfl
    case notFound =>
      have none : s.findKey origin serial.toNat day.toNat = none := by
        have noVoid : ∀ k, s.voidWithKey origin serial.toNat day.toNat k = false := fun k =>
          Bool.eq_false_iff.mpr (List.countP_eq_zero.mp ((voidCount_eq ..).trans noVoid) k (mem_allSlots k))
        rw [State.findKey, keyHolder_of_zero noHolder]
        refine Option.map_eq_none_iff.mpr (List.find?_eq_none.mpr fun x _ => ?_)
        simp [noVoid x.slot]
      simp only [blockAct, findMessage, reads, good, and_self, if_true, none]

end Sys2Proof.Machine
end

section
/-! ENTER-CANCEL and PURGE (R46, R60), the reclamation of records for a segment (R55, R58), and the idle entries (R47). -/

namespace Sys2Proof.Machine

/-! ### The own entry (R39, R46) -/

section
variable {p q : Port} {h : HandleField} {k : SlotNo} {s : State} {m : Message}
  {act : SlotNo → Message → State → Reply × State}

theorem onOwnEntry_of_own (names : Names h k s) (own : FillingOn s k m p) : onOwnEntry p h act s = act k m s := by
  obtain ⟨record, custody, port⟩ := own
  refine (withHandle_of_names names).trans ?_
  rw [record]
  exact (if_neg (not_not.mpr custody)).trans (if_neg (not_not.mpr port))

theorem onOwnEntry_of_not_filling (names : Names h k s) (other : ∀ e, s.record k = some e → e.custody ≠ .filling) :
    onOwnEntry p h act s = refuse .wrongState s := by
  refine (withHandle_of_names names).trans ?_
  cases record : s.record k with
  | none => rfl
  | some e => exact if_pos (other e record)

theorem onOwnEntry_of_other (names : Names h k s) (other : q ≠ p) (filling : FillingOn s k m q) :
    onOwnEntry p h act s = refuse .notYours s := by
  obtain ⟨record, custody, rfl⟩ := filling
  refine (withHandle_of_names names).trans ?_
  rw [record]
  exact (if_neg (not_not.mpr custody)).trans (if_pos other)

end

/-! ### Reclamation in retained-list order -/

/-- The reclamation of the records that a list names. -/
def reclaimAll (hs : List Handle) (s : State) : State := hs.foldl (fun t h => reclaim h.slot t) s

/-- The RECLAIMED notice of the record that a handle names, to its watchers as the part s has them (R55). -/
def tellReclaimedOne (s t : State) (x : Handle) : State :=
  match s.record x.slot with
  | some e => t.told e.watchers { kind := .reclaimed, handle := some x, detail := .nothing, time := s.seconds }
  | none => t

/-- The RECLAIMED notices of the records that a list names, in its order (R55). -/
def tellReclaimed (s : State) (hs : List Handle) (t : State) : State := hs.foldl (tellReclaimedOne s) t

theorem freeSegments_reclaim {s : State} {k : SlotNo} {m : Message} (record : s.record k = some m) :
    (reclaim k s).freeSegments = s.freeSegments + m.segments := by
  rw [reclaim_eq record]
  rfl

theorem retained_reclaim {s : State} {k : SlotNo} {m : Message} (record : s.record k = some m) :
    (reclaim k s).retained = s.retained.filter (fun h => !decide (h = s.handleOf k)) := by
  rw [reclaim_eq record]
  rfl

theorem seconds_reclaim (s : State) (k : SlotNo) : (reclaim k s).seconds = s.seconds := by rw [reclaim_frame]

theorem record_reclaim_other {s : State} {j k : SlotNo} (other : j ≠ k) : (reclaim j s).record k = s.record k := by
  rw [State.record_eq, slot_reclaim, if_neg other]
  rfl

theorem handleOf_reclaim_other {s : State} {j k : SlotNo} (other : j ≠ k) : (reclaim j s).handleOf k = s.handleOf k := by
  rw [State.handleOf, slot_reclaim, if_neg other]
  rfl

/-- Handles that are current name different slots where they differ. -/
theorem slots_nodup_of_current {s : State} {hs : List Handle} (nodup : hs.Nodup)
    (current : ∀ x ∈ hs, s.handleOf x.slot = x) : (hs.map (fun h => h.slot)).Nodup :=
  (List.nodup_map_iff_inj_on nodup).mpr fun x xMember y yMember same => by
    rw [← current x xMember, ← current y yMember, same]

/-- The reclamation of several records: the slots. -/
theorem slot_reclaimAll {hs : List Handle} (nodup : (hs.map (fun h => h.slot)).Nodup) (s : State) (k : SlotNo) :
    (reclaimAll hs s).slot k = if k ∈ hs.map (fun h => h.slot) then (s.slot k).freed else s.slot k := by
  have folded : reclaimAll hs s = (hs.map (fun h => h.slot)).foldl (fun t k => reclaim k t) s := by
    rw [List.foldl_map]
    rfl
  rw [folded]
  exact foldl_slot (env := fun _ => ()) (g := fun _ x => x.freed) (fun _ _ => rfl) (fun s k j => slot_reclaim s k j) nodup s k

/-- The reclamation of several records: the retained list and the notices. -/
theorem reclaimAll_lists {hs : List Handle} {s : State} (nodup : (hs.map (fun h => h.slot)).Nodup)
    (current : ∀ x ∈ hs, s.handleOf x.slot = x) (there : ∀ x ∈ hs, ∃ e, s.record x.slot = some e) :
    (reclaimAll hs s).retained = s.retained.filter (fun h => !decide (h ∈ hs))
      ∧ ∀ t : State, t.noticeQueues = s.noticeQueues →
        (reclaimAll hs s).noticeQueues = (tellReclaimed s hs t).noticeQueues := by
  induction hs generalizing s with
  | nil => exact ⟨by simp [reclaimAll], fun t same => same.symm⟩
  | cons h hs ih =>
    obtain ⟨fresh, rest⟩ := List.nodup_cons.mp nodup
    have other {x : Handle} (member : x ∈ hs) : h.slot ≠ x.slot := fun same =>
      fresh (List.mem_map.mpr ⟨x, member, same.symm⟩)
    obtain ⟨e, record⟩ := there h List.mem_cons_self
    obtain ⟨retained, notices⟩ := ih (s := reclaim h.slot s) rest
      (fun x member => (handleOf_reclaim_other (other member)).trans (current x (List.mem_cons_of_mem h member)))
      (fun x member => by
        rw [record_reclaim_other (other member)]
        exact there x (List.mem_cons_of_mem h member))
    refine ⟨?_, fun t same => ?_⟩
    · change (reclaimAll hs (reclaim h.slot s)).retained = _
      rw [retained, retained_reclaim record, current h List.mem_cons_self, List.filter_filter]
      refine List.filter_congr fun x _ => ?_
      by_cases isHead : x = h <;> simp [isHead]
    · change (reclaimAll hs (reclaim h.slot s)).noticeQueues = _
      have told : (reclaim h.slot s).noticeQueues = (s.told e.watchers
          { kind := .reclaimed, handle := some h, detail := .nothing, time := s.seconds }).noticeQueues := by
        rw [reclaim_eq record, current h List.mem_cons_self]
        rfl
      have step : (t.told e.watchers
          { kind := .reclaimed, handle := some h, detail := .nothing, time := s.seconds }).noticeQueues
            = (reclaim h.slot s).noticeQueues := by
        rw [told, State.told, State.told, same]
      rw [notices _ step]
      have later (u : State) : tellReclaimed (reclaim h.slot s) hs u = tellReclaimed s hs u :=
        List.foldl_ext _ _ u fun t x member => by
          rw [tellReclaimedOne, tellReclaimedOne, record_reclaim_other (other member), seconds_reclaim]
      have first : tellReclaimedOne s t h
          = t.told e.watchers { kind := .reclaimed, handle := some h, detail := .nothing, time := s.seconds } := by
        rw [tellReclaimedOne, record]
      rw [later, ← first]
      rfl

/-- Records without a segment are reclaimed up to the first that holds one, and that one is the last (R58). -/
theorem reclaimForSegment_eq {before after : List Handle} {h : Handle} {m : Message} {s : State}
    (nodup : ((before ++ [h]).map (fun h => h.slot)).Nodup) (empty : s.freeSegments = 0)
    (without : ∀ x ∈ before, ∃ e, s.record x.slot = some e ∧ e.segments = 0) (record : s.record h.slot = some m)
    (holds : 1 ≤ m.segments) :
    reclaimForSegment (before ++ h :: after) s = reclaimAll (before ++ [h]) s
      ∧ (reclaimAll (before ++ [h]) s).freeSegments = m.segments := by
  induction before generalizing s with
  | nil =>
    have free := freeSegments_reclaim record
    rw [empty, Nat.zero_add] at free
    refine ⟨?_, free⟩
    rw [List.nil_append, reclaimForSegment, if_neg (by omega), reclaimForSegment_of_free (by omega)]
    rfl
  | cons x before ih =>
    obtain ⟨fresh, rest⟩ := List.nodup_cons.mp nodup
    have other {y : Handle} (member : y ∈ before ++ [h]) : x.slot ≠ y.slot := fun same =>
      fresh (List.mem_map.mpr ⟨y, member, same.symm⟩)
    obtain ⟨e, there, none⟩ := without x List.mem_cons_self
    have free := freeSegments_reclaim there
    rw [empty, none] at free
    obtain ⟨eq, segments⟩ := ih (s := reclaim x.slot s) rest free
      (fun y member => by
        rw [record_reclaim_other (other (List.mem_append_left _ member))]
        exact without y (List.mem_cons_of_mem x member))
      (by
        rw [record_reclaim_other (other (List.mem_append_right _ List.mem_cons_self))]
        exact record)
    refine ⟨?_, segments⟩
    rw [List.cons_append, reclaimForSegment, if_neg (by omega), eq]
    rfl

/-- Settles O23: the two freeings with their refusals, and the reclamation of the records that a segment is waited for from. -/
theorem freeingAndReclamation : Obligations.FreeingAndReclamation := by
  refine ⟨fun p h k m s rq names => ⟨fun serving own => exec_of_reply serving ?cancel,
      fun serving control record retained => exec_of_reply serving ?purge,
      fun c which serving => ⟨fun other => exec_of_refusal serving ?notFilling,
        fun q other filling => exec_of_refusal serving ?notOwn⟩,
      fun serving control other => exec_of_refusal serving ?notRetained⟩,
    fun s n few free => takeSegments_of_free few free,
    fun s before after h m empty retained nodup current without record holds => ?reclaimed⟩
  case cancel =>
    change enterCancel p h s = _
    refine (onOwnEntry_of_own names own).trans ?_
    rw [freeSlot_eq_withoutRecord own.1]
    rfl
  case purge =>
    change purge p h s = _
    refine (controlOnly_withHandle control names).trans ?_
    rw [record]
    refine (if_pos ?_).trans ?_
    · rw [Message.retainedRecord_eq]
      exact decide_eq_true retained
    · rw [reclaim_eq record]
      rfl
  case notFilling =>
    obtain rfl | rfl := which
    · change enterEnd p h s = _
      exact onOwnEntry_of_not_filling names other
    · change enterCancel p h s = _
      exact onOwnEntry_of_not_filling names other
  case notOwn =>
    obtain rfl | rfl := which
    · change enterEnd p h s = _
      exact onOwnEntry_of_other names other filling
    · change enterCancel p h s = _
      exact onOwnEntry_of_other names other filling
  case notRetained =>
    change purge p h s = _
    refine (controlOnly_withHandle control names).trans ?_
    cases record : s.record k with
    | none => rfl
    | some e =>
      refine if_neg ?_
      rw [Message.retainedRecord_eq, decide_eq_true_eq]
      obtain ⟨notDisposed, notVoid⟩ := other e record
      exact fun either => either.elim notDisposed notVoid
  case reclaimed =>
    intro u
    have split : s.retained = (before ++ [h]) ++ after := by simp [retained]
    have inside {x : Handle} (member : x ∈ before ++ [h]) : x ∈ s.retained := split ▸ List.mem_append_left after member
    have handles : (before ++ [h]).Nodup := (List.nodup_append.mp (split ▸ nodup)).1
    have current' : ∀ x ∈ before ++ [h], s.handleOf x.slot = x := fun x member => current x (inside member)
    have slots := slots_nodup_of_current handles current'
    have there : ∀ x ∈ before ++ [h], ∃ e, s.record x.slot = some e := by
      intro x member
      obtain early | last := List.mem_append.mp member
      · obtain ⟨e, record, -⟩ := without x early
        exact ⟨e, record⟩
      · obtain rfl := List.mem_singleton.mp last
        exact ⟨m, record⟩
    obtain ⟨eq, segments⟩ := reclaimForSegment_eq (after := after) slots empty without record holds
    obtain ⟨list, notices⟩ := reclaimAll_lists slots current' there
    have taken : u = { reclaimAll (before ++ [h]) s with
        freeSegments := (reclaimAll (before ++ [h]) s).freeSegments - 1 } := by
      rw [← eq, ← retained]
      exact if_neg (by omega)
    have slot (k : SlotNo) : u.slot k = (reclaimAll (before ++ [h]) s).slot k := by rw [taken]; rfl
    refine ⟨?_, ?_, fun x member => ?_, fun k other => ?_, ?_, takeSegments_frame 1 s⟩
    · rw [taken]
      refine list.trans ?_
      rw [split, List.filter_append, List.filter_eq_nil_iff.mpr fun x member => by rw [decide_eq_true member]; simp, List.nil_append, List.filter_eq_self]
      intro x later
      have apart := (List.nodup_append.mp (split ▸ nodup)).2.2
      simp only [Bool.not_eq_true', decide_eq_false_iff_not]
      exact fun early => apart x early x later rfl
    · rw [taken, segments]
    · obtain ⟨e, record⟩ := there x member
      rw [slot, slot_reclaimAll slots, if_pos (List.mem_map.mpr ⟨x, member, rfl⟩)]
      exact Slot.freed_of_record record
    · rw [slot, slot_reclaimAll slots, if_neg]
      rintro named
      obtain ⟨x, member, same⟩ := List.mem_map.mp named
      exact other x member same
    · rw [taken]
      exact notices s rfl

end Sys2Proof.Machine
end

section
/-! What the freeing of a slot leaves of the pool (R52, R54), and the idle entries (R47). -/

namespace Sys2Proof.Machine

/-! ### The pool -/

/-- The segments that the record of a slot holds (R52). -/
def State.slotSegments (s : State) (k : SlotNo) : Nat :=
  match s.record k with
  | some m => m.segments
  | none => 0

/-- The law of the pool by what each slot holds (R52). -/
theorem State.segmentsKept_iff (s : State) :
    s.segmentsKept ↔ s.freeSegments + (allSlots.map s.slotSegments).sum = 1024 := Iff.rfl

theorem State.slotSegments_of_record {s : State} {k : SlotNo} {m : Message} (record : s.record k = some m) :
    s.slotSegments k = m.segments := by
  rw [State.slotSegments, record]

theorem State.slotSegments_of_empty {s : State} {k : SlotNo} (empty : s.record k = none) : s.slotSegments k = 0 := by
  rw [State.slotSegments, empty]

theorem State.slotSegments_congr {s t : State} {k : SlotNo} (same : t.record k = s.record k) :
    t.slotSegments k = s.slotSegments k := by
  rw [State.slotSegments, same]
  rfl

/-- Two sums over a list without repeats whose terms differ at one place alone. -/
theorem sum_map_of_one_changed {α : Type} {l : List α} {f g : α → Nat} {k : α} (nodup : l.Nodup) (member : k ∈ l)
    (same : ∀ j, j ≠ k → f j = g j) : (l.map f).sum + g k = (l.map g).sum + f k := by
  induction l with
  | nil => cases member
  | cons x l ih =>
    obtain ⟨fresh, rest⟩ := List.nodup_cons.mp nodup
    simp only [List.map_cons, List.sum_cons]
    obtain rfl | later := List.mem_cons.mp member
    · have tail : l.map f = l.map g := List.map_congr_left fun j inTail => same j fun eq => fresh (eq ▸ inTail)
      rw [tail]
      omega
    · have head : f x = g x := same x fun eq => fresh (eq ▸ later)
      have tail := ih rest later
      omega

/-- Where one record alone changes, the pool keeps its count if the free segments change by what that record lost. -/
theorem State.segmentsKept_of_one_changed {s t : State} {k : SlotNo} (kept : s.segmentsKept)
    (same : ∀ j, j ≠ k → t.record j = s.record j)
    (moved : t.freeSegments + t.slotSegments k = s.freeSegments + s.slotSegments k) : t.segmentsKept := by
  rw [State.segmentsKept_iff] at kept ⊢
  have sums := sum_map_of_one_changed (f := t.slotSegments) (g := s.slotSegments) nodup_allSlots (mem_allSlots k)
    fun j other => State.slotSegments_congr (same j other)
  omega

theorem State.segmentsKept_withoutRecord {s : State} {k : SlotNo} {m : Message} (record : s.record k = some m)
    (kept : s.segmentsKept) : (s.withoutRecord k m).segmentsKept := by
  refine State.segmentsKept_of_one_changed (k := k) kept (fun j other => ?_) ?_
  · rw [State.record_eq, State.slot_withoutRecord, if_neg (Ne.symm other)]
    rfl
  · have empty : (s.withoutRecord k m).record k = none := by
      rw [State.record_eq, State.slot_withoutRecord, if_pos rfl]
    rw [State.slotSegments_of_empty empty, State.slotSegments_of_record record]
    rfl

theorem segmentsKept_freeSlot {s : State} (k : SlotNo) (kept : s.segmentsKept) : (freeSlot k s).segmentsKept := by
  cases record : s.record k with
  | none =>
    rw [freeSlot, record]
    exact kept
  | some m =>
    rw [freeSlot_eq_withoutRecord record]
    exact State.segmentsKept_withoutRecord record kept

/-- The freeing of a slot, slot by slot. -/
theorem slot_freeSlot (s : State) (k j : SlotNo) :
    (freeSlot k s).slot j = if k = j then (s.slot j).freed else s.slot j := by
  cases record : s.record k with
  | none =>
    have same : k = j → (s.slot j).freed = s.slot j := by
      rintro rfl
      have none : (s.slot k).record = none := record
      rw [Slot.freed, none]
      rfl
    have still : freeSlot k s = s := by rw [freeSlot, record]
    rw [still]
    by_cases eq : k = j
    · rw [if_pos eq, same eq]
    · rw [if_neg eq]
  | some m =>
    rw [freeSlot_eq_withoutRecord record, State.slot_withoutRecord]
    split
    · next eq =>
      subst eq
      exact (Slot.freed_of_record record).symm
    · rfl

theorem Slot.freed_freed (x : Slot) : x.freed.freed = x.freed := by
  cases record : x.record with
  | none => simp [Slot.freed, record]
  | some m =>
    rw [Slot.freed_of_record record]
    rfl

/-! ### The idle entries -/

/-- The notice queue of p after the examination of its entry (R47). -/
def lapseTold (s : State) (p : Port) : NoticeQueue :=
  match idleEntry s p with
  | some h => NoticeQueue.join { kind := .entryLapsed, handle := some h, detail := .nothing, time := s.seconds }
      (s.noticeQueue p)
  | none => s.noticeQueue p

theorem timeOutEntry_of_active {s : State} {p : Port} (active : idleEntry s p = none) : timeOutEntry s p = s := by
  unfold idleEntry at active
  unfold timeOutEntry
  cases filling : (s.entryOf p).filling with
  | none => rfl
  | some o =>
    simp only [filling] at active ⊢
    refine if_neg fun idle => ?_
    rw [if_pos idle] at active
    cases active

theorem timeOutEntry_of_idle {s : State} {p : Port} {h : Handle} (idle : idleEntry s p = some h) :
    timeOutEntry s p = post p .entryLapsed (some h) .nothing (closeEntry p (freeSlot h.slot s)) := by
  unfold idleEntry at idle
  unfold timeOutEntry
  cases filling : (s.entryOf p).filling with
  | none => simp [filling] at idle
  | some o =>
    simp only [filling] at idle ⊢
    split at idle
    · next due =>
      cases idle
      exact if_pos due
    · cases idle

theorem seconds_timeOutEntry (s : State) (p : Port) : (timeOutEntry s p).seconds = s.seconds := by
  rw [timeOutEntry_frame]

/-- The examination of p's entry, entry by entry. -/
theorem entryOf_timeOutEntry (s : State) (p q : Port) :
    (timeOutEntry s p).entryOf q = if p = q ∧ (idleEntry s p).isSome then EntryContext.closed else s.entryOf q := by
  cases idle : idleEntry s p with
  | none => rw [timeOutEntry_of_active idle, if_neg (by simp)]
  | some h =>
    rw [timeOutEntry_of_idle idle]
    refine (State.entryOf_modEntry (freeSlot h.slot s) p q _).trans ?_
    have entry : (freeSlot h.slot s).entryOf q = s.entryOf q := by
      rw [freeSlot_frame]
      rfl
    simp [entry]

theorem slot_timeOutEntry (s : State) (p : Port) (k : SlotNo) :
    (timeOutEntry s p).slot k
      = if (idleEntry s p).map (fun h => h.slot) = some k then (s.slot k).freed else s.slot k := by
  cases idle : idleEntry s p with
  | none => rw [timeOutEntry_of_active idle, if_neg (by simp)]
  | some h =>
    rw [timeOutEntry_of_idle idle]
    refine (slot_freeSlot s h.slot k).trans ?_
    simp

theorem noticeQueue_timeOutEntry (s : State) (p q : Port) :
    (timeOutEntry s p).noticeQueue q = if p = q then lapseTold s q else s.noticeQueue q := by
  cases idle : idleEntry s p with
  | none =>
    rw [timeOutEntry_of_active idle]
    split
    · next same =>
      subst same
      rw [lapseTold, idle]
    · rfl
  | some h =>
    rw [timeOutEntry_of_idle idle, noticeQueue_post]
    have queue : (closeEntry p (freeSlot h.slot s)).noticeQueue q = s.noticeQueue q := by
      rw [freeSlot_frame]
      rfl
    have now : (closeEntry p (freeSlot h.slot s)).seconds = s.seconds := by
      rw [freeSlot_frame]
      rfl
    rw [queue, now]
    split
    · next same =>
      subst same
      rw [lapseTold, idle]
    · rfl

theorem segmentsKept_timeOutEntry {s : State} (p : Port) (kept : s.segmentsKept) : (timeOutEntry s p).segmentsKept := by
  cases idle : idleEntry s p with
  | none =>
    rw [timeOutEntry_of_active idle]
    exact kept
  | some h =>
    rw [timeOutEntry_of_idle idle]
    exact segmentsKept_freeSlot h.slot kept

theorem idleEntry_timeOutEntry {s : State} {p q : Port} (other : p ≠ q) :
    idleEntry (timeOutEntry s p) q = idleEntry s q := by
  rw [idleEntry, entryOf_timeOutEntry, if_neg (fun both => other both.1), seconds_timeOutEntry]
  rfl

/-- The examination of the entries of several ports. -/
theorem foldl_timeOutEntry {ps : List Port} (nodup : ps.Nodup) (s : State) :
    (∀ q, (ps.foldl timeOutEntry s).entryOf q
        = if q ∈ ps ∧ (idleEntry s q).isSome then EntryContext.closed else s.entryOf q)
      ∧ (∀ k, (ps.foldl timeOutEntry s).slot k
        = if ∃ p ∈ ps, (idleEntry s p).map (fun h => h.slot) = some k then (s.slot k).freed else s.slot k)
      ∧ (∀ q, (ps.foldl timeOutEntry s).noticeQueue q = if q ∈ ps then lapseTold s q else s.noticeQueue q)
      ∧ (s.segmentsKept → (ps.foldl timeOutEntry s).segmentsKept) := by
  induction ps generalizing s with
  | nil => simp
  | cons p ps ih =>
    obtain ⟨fresh, rest⟩ := List.nodup_cons.mp nodup
    have other {q : Port} (member : q ∈ ps) : p ≠ q := fun same => fresh (same ▸ member)
    obtain ⟨entries, slots, queues, kept⟩ := ih rest (timeOutEntry s p)
    rw [List.foldl_cons]
    refine ⟨fun q => ?_, fun k => ?_, fun q => ?_, fun before => kept (segmentsKept_timeOutEntry p before)⟩
    · rw [entries, entryOf_timeOutEntry]
      by_cases same : p = q
      · subst same
        simp [fresh]
      · have other' : q ≠ p := Ne.symm same
        simp [same, other', idleEntry_timeOutEntry same]
    · rw [slots, slot_timeOutEntry]
      have later : (∃ q ∈ ps, (idleEntry (timeOutEntry s p) q).map (fun h => h.slot) = some k)
          ↔ ∃ q ∈ ps, (idleEntry s q).map (fun h => h.slot) = some k := by
        refine exists_congr fun q => and_congr_right fun member => ?_
        rw [idleEntry_timeOutEntry (other member)]
      simp only [later, List.mem_cons, exists_eq_or_imp]
      by_cases first : (idleEntry s p).map (fun h => h.slot) = some k
      · simp [first, Slot.freed_freed]
      · simp [first]
    · rw [queues, noticeQueue_timeOutEntry]
      by_cases same : p = q
      · subst same
        simp [fresh]
      · have other' : q ≠ p := Ne.symm same
        have told : lapseTold (timeOutEntry s p) q = lapseTold s q := by
          rw [lapseTold, idleEntry_timeOutEntry same, noticeQueue_timeOutEntry, if_neg same, seconds_timeOutEntry]
          rfl
        simp [same, other', told]

theorem nodup_allPorts : allPorts.Nodup := by decide

theorem mem_allPorts (p : Port) : p ∈ allPorts := by
  revert p
  decide

/-- Settles O24: each port's examination ends its own entry alone; the slots it frees are freed once. -/
theorem idleEntriesTimeOut : Obligations.IdleEntriesTimeOut := by
  intro s supply
  have exec_eq : exec .entryIdleTimeout s = .next (takeEntryTick s) := whenPowered_of_supply supply takeEntryTick
  refine ⟨fun taken => ?still, fun tick => ⟨takeEntryTick s, exec_eq, ?times⟩⟩
  case still => rw [exec_eq, takeEntryTick, if_neg (by simp [taken])]
  case times =>
    have taken : takeEntryTick s = allPorts.foldl timeOutEntry { s with entryTick := false } := if_pos tick
    obtain ⟨entries, slots, queues, kept⟩ := foldl_timeOutEntry nodup_allPorts { s with entryTick := false }
    have idle (p : Port) : idleEntry { s with entryTick := false } p = idleEntry s p := rfl
    rw [taken]
    refine ⟨fun p => ?_, fun k => ?_, fun p => ?_, kept, ?_⟩
    · rw [entries, idle]
      simp only [mem_allPorts, true_and]
      rfl
    · rw [slots]
      simp only [idle, mem_allPorts, true_and]
      by_cases named : ∃ p, (idleEntry s p).map (fun h => h.slot) = some k
      · cases record : s.record k with
        | none =>
          have empty : (s.slot k).record = none := record
          rw [if_pos named, if_neg (by simp)]
          change (s.slot k).freed = s.slot k
          rw [Slot.freed, empty]
          rfl
        | some m =>
          rw [if_pos named, if_pos ⟨named, by simp⟩]
          exact Slot.freed_of_record record
      · rw [if_neg named, if_neg (fun both => named both.1)]
        rfl
    · rw [queues, if_pos (mem_allPorts p), lapseTold, idle]
      rfl
    · have frame := takeEntryTick_frame s
      rw [taken] at frame
      exact frame

end Sys2Proof.Machine
end

section
/-! ENTER-END: the acceptance of a new message (R43 to R45) and the crediting of a copy (R41, R42). -/

namespace Sys2Proof.Machine

/-! ### The entry number (R8) -/

/-- The counter passes over the numbers in use to the first that is free. -/
theorem assignNumber_eq {s : State} {tries passed start : Nat} (enough : passed ≤ tries)
    (inUse : ∀ i, i < passed → s.numberInUse (numberAfter i start) = true)
    (free : s.numberInUse (numberAfter passed start) = false) : assignNumber s tries start = numberAfter passed start := by
  induction passed generalizing tries start with
  | zero =>
    have start_free : s.numberInUse start = false := free
    cases tries with
    | zero => rfl
    | succ tries => exact if_neg (by simp [start_free])
  | succ passed ih =>
    obtain ⟨tries, rfl⟩ : ∃ n, tries = n + 1 := ⟨tries - 1, by omega⟩
    have first : s.numberInUse start = true := inUse 0 (by omega)
    refine (if_pos first).trans (ih (by omega) (fun i less => ?_) free)
    exact inUse (i + 1) (by omega)

/-! ### Acceptance -/

/-- What an acceptance reports of the record it leaves (R45). -/
theorem acceptedBytes_eq {s : State} {k : SlotNo} {m : Message} {e : Entry} (record : s.record k = some m)
    (entry : m.entry = some e) :
    acceptedBytes s k =
      handleBytes (some (s.handleOf k)) ++ be1 m.custody.name.code
        ++ portByte (if m.custody = .queued then s.resolve m.area else none) ++ reasonByte m.custody.reason
        ++ be4 e.number ++ be4 e.time ++ be2 m.words ++ be1 (CheckStatus.code (some e.check)) ++ be2 m.text.length
        ++ attributesByte m.truncated m.substituted := by
  simp only [acceptedBytes, record, placementBytes_eq record, entry, Message.number, Message.enteredAt, Option.map_some,
    List.append_assoc]

/-- A message that no port watches, held or queued where it was FILLING, in the statements' terms (R44). -/
theorem place_eq {s : State} {k : SlotNo} {m filling : Message} {p : Port} (record : s.record k = some filling)
    (same : m.area = filling.area) (was : filling.custody ≠ .queued) (is : m.custody ≠ .queued)
    (unwatched : m.watchers = Vector.replicate 4 false) (noUpgrade : m.pendingUpgrade = none) :
    place p k (s.withRecord k m) = s.leftAs k
      (if s.resolve m.area = none then Message.log s.seconds (some p) .held { m with custody := .held .unrouted }
        else if Message.deadlinePassed s.seconds m = true then
          Message.log s.seconds (some p) .held { m with custody := .held .deadlinePassed }
        else { m with custody := .queued }) := by
  have there : (s.withRecord k m).record k = some m := State.record_withRecord_same ..
  have holds (r : HoldReason) : reportHeld k (holdFor k r (some p) (s.withRecord k m))
      = s.leftAs k (Message.log s.seconds (some p) .held { m with custody := .held r }) := by
    have custody : (Message.log s.seconds (some p) .held { m with custody := .held r }).custody = .held r :=
      Message.log_custody ..
    have watchers : (Message.log s.seconds (some p) .held { m with custody := .held r }).watchers
        = Vector.replicate 4 false := (Message.log_watchers ..).trans unwatched
    rw [holdFor, modRecord_eq_withRecord _ there, State.withRecord_withRecord, seconds_withRecord,
      reportHeld_withRecord custody, State.leftAs_of_held custody, watchers, State.told_none]
  unfold place
  rw [there]
  cases resolves : s.resolve m.area with
  | none =>
    rw [if_pos rfl]
    simp only [State.resolve_withRecord, resolves]
    exact holds .unrouted
  | some q =>
    rw [if_neg (by simp)]
    simp only [State.resolve_withRecord, resolves, seconds_withRecord]
    by_cases passed : Message.deadlinePassed s.seconds m = true
    · rw [if_pos passed]
      exact (if_pos passed).trans (holds .deadlinePassed)
    · rw [if_neg passed]
      refine (if_neg passed).trans ?_
      rw [joinQueue_eq there ((State.resolve_withRecord ..).trans resolves),
        Message.applyUpgrade_of_none noUpgrade]
      exact State.leftAs_withRecord record same ⟨fun queued => absurd queued is, fun queued => absurd queued was⟩ _

/-- Settles O21: the number is assigned, the entry ends, and the record is placed. -/
theorem enterEndAccepts : Obligations.EnterEndAccepts := by
  intro p h k m s rq serving names own unwatched noUpgrade keyFree passed enough inUse free n status entered settled
  obtain ⟨record, custody, rfl⟩ := own
  have number : s.numberToGive = n := assignNumber_eq enough inUse free
  have accepted : acceptMessage s.seconds n m = entered := rfl
  have base : accept m.entryPort k s
      = ({ s.withoutEntry m.entryPort with
          nextEntryNumber := if 4294967295 ≤ n then 1 else n + 1 } : State).withRecord k entered := by
    rw [accept, number, modRecord_eq_withRecord _ record, accepted]
    rfl
  have enteredCustody : entered.custody = .filling := (Message.log_custody ..).trans custody
  have enteredArea : entered.area = m.area := Message.log_area ..
  have enteredWatchers : entered.watchers = Vector.replicate 4 false := (Message.log_watchers ..).trans unwatched
  have enteredUpgrade : entered.pendingUpgrade = none := (Message.log_pendingUpgrade ..).trans noUpgrade
  have places {t : State} (there : t.record k = some m) (now : t.seconds = s.seconds)
      (resolve : t.resolve m.area = s.resolve m.area) :
      place m.entryPort k (t.withRecord k entered) = t.leftAs k settled := by
    rw [place_eq (filling := m) there enteredArea (by simp [custody]) (by simp [enteredCustody]) enteredWatchers
      enteredUpgrade, now, show t.resolve entered.area = s.resolve m.area by rw [enteredArea, resolve]]
  have placed : place m.entryPort k (accept m.entryPort k s)
      = ({ s.withoutEntry m.entryPort with
          nextEntryNumber := if 4294967295 ≤ n then 1 else n + 1 } : State).leftAs k settled := by
    rw [base]
    exact places record rfl rfl
  have content : settled.content = entered.content := by
    simp only [settled]
    split
    · exact Message.content_log ..
    · split
      · exact Message.content_log ..
      · rfl
  obtain ⟨stamped, is⟩ : ∃ x : Message, x = { m with
      entry := some { time := s.seconds, number := n, check := status }
      deadline := m.deadline.map (fun minutes => min (s.seconds + minutes * 60) 4294967295) } := ⟨_, rfl⟩
  have logged : entered.content = stamped.content := by
    rw [is]
    exact Message.content_log ..
  have whole : settled.content = stamped.content := content.trans logged
  have entry : settled.entry = some { time := s.seconds, number := n, check := status } :=
    (Message.view_of_content Message.entry whole).trans (by rw [is])
  have area : settled.area = m.area := (Message.view_of_content Message.area whole).trans (by rw [is])
  have words : settled.words = m.words := (Message.view_of_content Message.words whole).trans (by rw [is])
  have text : settled.text = m.text := (Message.view_of_content Message.text whole).trans (by rw [is])
  have truncated : settled.truncated = m.truncated :=
    (Message.view_of_content Message.truncated whole).trans (by rw [is])
  have substituted : settled.substituted = m.substituted :=
    (Message.view_of_content Message.substituted whole).trans (by rw [is])
  refine exec_of_reply serving ?_
  change enterEnd m.entryPort h s = _
  refine (onOwnEntry_of_own names ⟨record, custody, rfl⟩).trans ?_
  rw [keyFree]
  simp only [placed]
  have slots := slots_leftAs ({ s.withoutEntry m.entryPort with
    nextEntryNumber := if 4294967295 ≤ n then 1 else n + 1 } : State) k settled
  rw [acceptedBytes_eq ((State.record_congr slots k).trans (State.record_withRecord_same ..)) entry, resolve_leftAs,
    State.handleOf_congr slots, State.handleOf_withRecord, area, words, text, truncated, substituted]
  rfl

/-! ### A copy -/

/-- A class of another code is another class. -/
theorem Class.ne_of_code_lt {c d : Class} (less : c.code < d.code) : d ≠ c := by
  rintro rfl
  omega

/-- A higher copy raises the class of the message that holds the key: it is QUEUED or HELD (R42). -/
def raises (c : Class) (e : Message) : Bool :=
  decide (e.klass.code < c.code) && (decide (e.custody.name = .queued) || decide (e.custody.name = .held))

/-- A higher copy is recorded as the pending upgrade: the message is HANDED or SUSPENDED (R42). -/
def records (c : Class) (e : Message) : Bool :=
  decide (e.klass.code < c.code) && (decide (e.custody.name = .handed) || decide (e.custody.name = .suspended))

/-- The credited message in the statement's terms (R42). -/
theorem creditCopy_eq (c : Class) (e : Message) :
    creditCopy c e =
      { e with
        copies := min (e.copies + 1) 15
        klass := if raises c e then c else e.klass
        pendingUpgrade :=
          if records c e then
            match e.pendingUpgrade with
            | some d => if d.code < c.code then some c else some d
            | none => some c
          else e.pendingUpgrade } := by
  by_cases higher : e.klass.code < c.code
  · have taken : creditCopy c e = match e.custody with
        | .queued => { e with copies := min (e.copies + 1) 15, klass := c }
        | .held _ => { e with copies := min (e.copies + 1) 15, klass := c }
        | .handed _ _ _ | .suspended _ _ _ =>
          { e with
            copies := min (e.copies + 1) 15
            pendingUpgrade := some (match e.pendingUpgrade with | none => c | some d => Class.highest d c) }
        | .disposed _ _ | .filling | .void => { e with copies := min (e.copies + 1) 15 } := if_pos (decide_eq_true higher)
    have upgrade : some (match e.pendingUpgrade with | none => c | some d => Class.highest d c)
        = match e.pendingUpgrade with
          | some d => if d.code < c.code then some c else some d
          | none => some c := by
      cases e.pendingUpgrade with
      | none => rfl
      | some d =>
        simp only [Class.highest, Class.higher, decide_eq_true_eq]
        split <;> rfl
    rw [taken]
    cases custody : e.custody <;> simp [raises, records, higher, custody, Custody.name, ← upgrade]
  · have notTaken : creditCopy c e = { e with copies := min (e.copies + 1) 15 } := if_neg (by simpa [Class.higher] using higher)
    rw [notTaken]
    simp [raises, records, higher]

/-- Settles O22: the message that holds the key is no FILLING one, so the crediting and the freeing write two slots. -/
theorem enterEndCreditsDuplicate : Obligations.EnterEndCreditsDuplicate := by
  intro p h k j m e s rq serving names own holder record higher raised recorded credited s₁ s₂ s₃
  obtain ⟨filling, custody, port⟩ := own
  have credit : creditCopy m.klass e = credited := creditCopy_eq m.klass e
  have other : j ≠ k := by
    rintro rfl
    have holds := List.find?_some holder
    rw [filling] at holds
    simp [Message.holdsKey, custody] at holds
  have klass : credited.klass ≠ e.klass ↔ raised = true := by
    cases is : raised with
    | false => simp [credited, is]
    | true =>
      have isHigher : e.klass.code < m.klass.code := by
        simp only [raised, higher, Bool.and_eq_true, decide_eq_true_eq] at is
        exact is.1
      simp [credited, is, Class.ne_of_code_lt isHigher]
  have acted : creditDuplicate j m.klass s = s₃ := by
    have queue : s₂.queueOf j = s.queueOf j := by
      have written : s₁.queueOf j = s.queueOf j :=
      State.queueOf_withRecord (n := credited) record rfl Iff.rfl j
      simp only [s₂]
      split <;> exact written
    have told : (if credited.klass ≠ e.klass ∨ credited.pendingUpgrade ≠ e.pendingUpgrade then notifyWatchers j s₁ else s₁)
        = s₂ := by
      rw [show notifyWatchers j s₁ = s₁.told e.watchers (stateChange s j credited) from notifyWatchers_withRecord ..]
      simp only [s₂, klass]
    unfold creditDuplicate
    rw [record]
    simp only [modRecord_eq_withRecord _ record, credit]
    change (if credited.klass ≠ e.klass then match State.queueOf (if _ then notifyWatchers j s₁ else s₁) j with
      | some q => breakInCheck q (if _ then notifyWatchers j s₁ else s₁)
      | none => if _ then notifyWatchers j s₁ else s₁
      else if _ then notifyWatchers j s₁ else s₁) = _
    rw [told, queue]
    simp only [klass, s₃]
    cases raised <;> cases s.queueOf j <;> rfl
  have slots : s₃.slots = s₁.slots := by
    have told : s₂.slots = s₁.slots := by
      simp only [s₂]
      split <;> rfl
    simp only [s₃]
    split
    · rw [slots_breakInCheck, told]
    · exact told
  have copy : s₃.record k = some m :=
    (State.record_congr slots k).trans ((State.record_withRecord_other other).trans filling)
  have ends : closeEntry p (freeSlot k s₃) = (s₃.withoutRecord k m).withoutEntry p := by
    rw [freeSlot_eq_withoutRecord copy]
    rfl
  have slot : ((s₃.withoutRecord k m).withoutEntry p).slot j = s₁.slot j := by
    refine (State.slot_withoutRecord s₃ k j m).trans ?_
    rw [if_neg (Ne.symm other), State.slot, slots]
    rfl
  have there : ((s₃.withoutRecord k m).withoutEntry p).record j = some credited :=
    (congrArg Slot.record slot).trans (State.record_withRecord_same ..)
  have handle : ((s₃.withoutRecord k m).withoutEntry p).handleOf j = s.handleOf j := by
    refine (congrArg (fun x : Slot => ({ slot := j, inc := x.inc } : Handle)) slot).trans ?_
    exact State.handleOf_withRecord ..
  refine exec_of_reply serving ?_
  change enterEnd p h s = _
  refine (onOwnEntry_of_own names ⟨filling, custody, port⟩).trans ?_
  rw [holder]
  simp only [acted, ends, duplicateBytes, there, handle]
  simp [answer, classByte, credited]

end Sys2Proof.Machine
end

section
/-! What a port is called to: the pending break-in that qualifies and the BREAK-IN notice that names it (R126, R164), and which
changes leave the call in order. -/

namespace Sys2Proof.Machine

/-- What a pending break-in of p named h needs (R126). -/
structure State.Qualifies (s : State) (p : Port) (h : Handle) : Prop where
  enable : (s.breakin p).enable = true
  current : s.handleOf h.slot = h
  queue : s.queueOf h.slot = some p
  higher : ∃ m c, s.record h.slot = some m ∧ s.activeClass p = some c ∧ c.code < m.klass.code

/-- The call of port p is in order, but for one handle that may be pending although it has ceased to qualify, and for one
handle that a BREAK-IN notice may name although it is not pending. -/
structure State.Called (s : State) (p : Port) (ceased named : Option Handle) : Prop where
  pending : ∀ h, (s.breakin p).pending = some h → ceased ≠ some h → s.Qualifies p h
  notices : ∀ n ∈ (s.noticeQueue p).items, n.kind = .breakIn →
    n.handle.isSome = true ∧ (n.handle = (s.breakin p).pending ∨ n.handle = named)

/-- From s to t every port's call stays in order. -/
def Heeds (s t : State) : Prop := ∀ p ceased named, s.Called p ceased named → t.Called p ceased named

section
variable {s t u : State} {p q : Port}

theorem Heeds.refl (s : State) : Heeds s s := fun _ _ _ called => called

theorem Heeds.trans (first : Heeds s t) (second : Heeds t u) : Heeds s u :=
  fun p ceased named called => second p ceased named (first p ceased named called)

/-- What the call of p reads of the records. -/
theorem State.Qualifies.congr {h : Handle} (qualifies : s.Qualifies p h) (enable : (t.breakin p).enable = (s.breakin p).enable)
    (current : t.handleOf h.slot = s.handleOf h.slot) (queue : t.queueOf h.slot = s.queueOf h.slot)
    (record : t.record h.slot = s.record h.slot) (active : t.activeClass p = s.activeClass p) : t.Qualifies p h := by
  obtain ⟨on, is, member, m, c, there, hand, higher⟩ := qualifies
  exact ⟨enable.trans on, current.trans is, queue.trans member, m, c, record.trans there, active.trans hand, higher⟩

/-- The call of p where its break-in state stands, no BREAK-IN joins, and what qualifies still does. -/
theorem State.Called.of_same {ceased named : Option Handle} (called : s.Called p ceased named)
    (pending : (t.breakin p).pending = (s.breakin p).pending)
    (notices : ∀ n ∈ (t.noticeQueue p).items, n.kind = .breakIn → n ∈ (s.noticeQueue p).items)
    (qualifies : ∀ h, (s.breakin p).pending = some h → ceased ≠ some h → s.Qualifies p h → t.Qualifies p h) :
    t.Called p ceased named := by
  refine ⟨fun h is other => ?_, fun n member kind => ?_⟩
  · rw [pending] at is
    exact qualifies h is other (called.pending h is other)
  · rw [pending]
    exact called.notices n (notices n member kind) kind

/-- The records and the break-in state stand, and no BREAK-IN joins. -/
theorem Heeds.of_slots (slots : t.slots = s.slots) (breakins : t.breakins = s.breakins)
    (routing : t.routes = s.routes ∧ t.defaultRoute = s.defaultRoute ∧ t.links = s.links)
    (notices : ∀ p, ∀ n ∈ (t.noticeQueue p).items, n.kind = .breakIn → n ∈ (s.noticeQueue p).items) : Heeds s t := by
  intro p ceased named called
  have breakin : t.breakin p = s.breakin p := by rw [State.breakin, breakins]; rfl
  obtain ⟨routes, default, links⟩ := routing
  refine called.of_same (by rw [breakin]) (notices p) fun h _ _ qualifies => qualifies.congr (by rw [breakin])
    (State.handleOf_congr slots _) (State.queueOf_congr slots routes default links _) (State.record_congr slots _) ?_
  rw [State.activeClass, breakin, State.activeClass]
  simp only [State.record_congr slots]

/-! ### Notices -/

theorem onlyPort_get_other (other : p ≠ q) : (onlyPort p).get q = false := by
  revert other
  revert p q
  decide

/-- Nothing stands in a queue but what stood there and what joined. -/
theorem NoticeQueue.eq_or_mem_of_mem_join {n x : Notice} {q : NoticeQueue} (member : x ∈ (NoticeQueue.join n q).items) :
    x = n ∨ x ∈ q.items := by
  unfold NoticeQueue.join at member
  split at member
  · obtain old | new := List.mem_append.mp member
    · exact .inr (List.mem_of_mem_eraseP old)
    · exact .inl (List.mem_singleton.mp new)
  · split at member
    · exact .inr member
    · obtain old | new := List.mem_append.mp member
      · exact .inr old
      · exact .inl (List.mem_singleton.mp new)

theorem mem_joinIf {addressed : Bool} {n x : Notice} {q : NoticeQueue} (member : x ∈ (joinIf addressed n q).items) :
    addressed = true ∧ x = n ∨ x ∈ q.items := by
  unfold joinIf at member
  split at member
  · next told => exact (NoticeQueue.eq_or_mem_of_mem_join member).imp_left fun same => ⟨told, same⟩
  · exact .inr member

theorem Heeds.told (s : State) (ports : PortSet) {n : Notice} (other : n.kind ≠ .breakIn) : Heeds s (s.told ports n) := by
  refine .of_slots rfl rfl ⟨rfl, rfl, rfl⟩ fun p x member kind => ?_
  rw [State.noticeQueue_told] at member
  obtain ⟨-, rfl⟩ | old := mem_joinIf member
  · exact absurd kind other
  · exact old

theorem Heeds.withdrawBreakIn (p : Port) (h : Handle) (s : State) : Heeds s (withdrawBreakIn p h s) := by
  refine .of_slots rfl rfl ⟨rfl, rfl, rfl⟩ fun q x member _ => ?_
  have queue : (Machine.withdrawBreakIn p h s).noticeQueue q = if p = q then _ else s.noticeQueue q := get_vmod ..
  rw [queue] at member
  split at member
  · exact List.mem_of_mem_filter member
  · exact member

/-- A withdrawal leaves no BREAK-IN that names h. -/
theorem State.Called.withdrawn {ceased : Option Handle} {h : Handle} (called : s.Called p ceased (some h)) :
    (withdrawBreakIn p h s).Called p ceased none := by
  obtain ⟨pending, notices⟩ := Heeds.withdrawBreakIn p h s p ceased (some h) called
  refine ⟨pending, fun n member kind => ?_⟩
  obtain ⟨some, named | stray⟩ := notices n member kind
  · exact ⟨some, .inl named⟩
  · have queue : ((Machine.withdrawBreakIn p h s).noticeQueue p).items = (s.noticeQueue p).items.filter
        (fun n => !decide (n.kind = .breakIn ∧ n.handle = Option.some h)) :=
      congrArg NoticeQueue.items ((get_vmod ..).trans (if_pos rfl))
    rw [queue] at member
    have kept := (List.mem_filter.mp member).2
    simp [kind, stray] at kept

/-! ### What is pending -/

/-- A break-in state in which only what is pending differs has the same active class. -/
theorem activeClass_modBreakin {f : BreakIn → BreakIn} (active : ∀ b, (f b).active = b.active) (s : State) (p q : Port) :
    (s.modBreakin p f).activeClass q = s.activeClass q := by
  have same : ((s.modBreakin p f).breakin q).active = (s.breakin q).active := by
    rw [State.breakin_modBreakin]
    split
    · exact active _
    · rfl
  rw [State.activeClass, same]
  rfl

/-- A change of p's break-in state alone leaves the calls of the other ports. -/
theorem State.Called.modBreakin_other {ceased named : Option Handle} (called : s.Called q ceased named) (other : p ≠ q)
    (f : BreakIn → BreakIn) : (s.modBreakin p f).Called q ceased named := by
  have breakin : (s.modBreakin p f).breakin q = s.breakin q := (State.breakin_modBreakin ..).trans (if_neg other)
  refine called.of_same (by rw [breakin]) (fun n member _ => member) fun h _ _ qualifies =>
    qualifies.congr (by rw [breakin]) rfl rfl rfl ?_
  rw [State.activeClass, breakin]
  rfl

/-- Where nothing is pending at p, no notice calls it, but for the handle that one may name. -/
theorem State.Called.of_idle {ceased ceased' named : Option Handle} (called : s.Called p ceased named)
    (idle : (s.breakin p).pending = none) : s.Called p ceased' named := by
  refine ⟨fun h is => ?_, called.notices⟩
  rw [idle] at is
  cases is

/-- The clearing of p's pending break-in leaves nothing called for there (R128). -/
theorem State.Called.withoutPending {ceased ceased' named : Option Handle} (called : s.Called p ceased named) :
    (s.withoutPending p).Called p ceased' named := by
  unfold State.withoutPending
  cases pending : (s.breakin p).pending with
  | none => exact called.of_idle pending
  | some h =>
    dsimp only
    have cleared : ((s.modBreakin p (fun b => { b with pending := none })).breakin p).pending = none := by
      rw [State.breakin_modBreakin_same]
    refine ⟨fun j is => ?_, fun n member kind => ?_⟩
    · rw [show ((s.modBreakin p (fun b => { b with pending := none })).withoutBreakIn p h).breakin p
        = (s.modBreakin p (fun b => { b with pending := none })).breakin p from rfl, cleared] at is
      cases is
    · have queue : (((s.modBreakin p (fun b => { b with pending := none })).withoutBreakIn p h).noticeQueue p).items
          = (s.noticeQueue p).items.filter (fun n => !decide (n.kind = .breakIn ∧ n.handle = Option.some h)) :=
        congrArg NoticeQueue.items ((get_vmod ..).trans (if_pos rfl))
      rw [queue] at member
      obtain ⟨old, kept⟩ := List.mem_filter.mp member
      obtain ⟨some, was | stray⟩ := called.notices n old kind
      · simp [kind, was, pending] at kept
      · exact ⟨some, .inr stray⟩

theorem Heeds.withoutPending (s : State) (p : Port) : Heeds s (s.withoutPending p) := by
  intro q ceased named called
  by_cases same : p = q
  · exact same ▸ (same ▸ called : s.Called p ceased named).withoutPending
  · unfold State.withoutPending
    split
    · exact called
    · next h _ =>
      have cleared := called.modBreakin_other same (fun b => { b with pending := none })
      exact Heeds.withdrawBreakIn p h _ q ceased named cleared

/-! ### The check (R126) -/

theorem Heeds.setStickyFlags (p : Port) (es : List Evaluation) (s : State) : Heeds s (setStickyFlags p es s) :=
  .of_slots rfl rfl ⟨rfl, rfl, rfl⟩ fun _ _ member _ => member

theorem Heeds.breakInCheck (p : Port) (s : State) : Heeds s (breakInCheck p s) := by
  intro q ceased named called
  obtain still | ⟨c, k, m, es, active, enable, idle, eligible, record, raised⟩ := breakInCheck_cases p s
  · rw [still]
    exact called
  · have flagged := Heeds.setStickyFlags p es s q ceased named called
    rw [raised]
    by_cases same : p = q
    · subst same
      obtain ⟨member, n, there, higher⟩ := State.mem_eligible.mp eligible
      have breakin : (((Machine.setStickyFlags p es s).modBreakin p (fun b => { b with pending := some (s.handleOf k) })).told
          (onlyPort p) { kind := .breakIn, handle := some (s.handleOf k), detail := .klass m.klass, time := s.seconds }).breakin p
          = { s.breakin p with pending := some (s.handleOf k) } := State.breakin_modBreakin_same ..
      refine ⟨fun h is _ => ?_, fun x there kind => ?_⟩
      · rw [breakin, Option.some.injEq] at is
        subst is
        refine ⟨by rw [breakin]; exact enable, rfl, member, n, c, there, ?_, higher⟩
        exact (activeClass_modBreakin (f := fun b => { b with pending := some (s.handleOf k) }) (fun _ => rfl)
          (Machine.setStickyFlags p es s) p p).trans active
      · rw [breakin]
        rw [State.noticeQueue_told] at there
        obtain ⟨-, rfl⟩ | old := mem_joinIf there
        · exact ⟨rfl, .inl rfl⟩
        · obtain ⟨some, was | stray⟩ := called.notices x old kind
          · rw [was, idle] at some
            cases some
          · exact ⟨some, .inr stray⟩
    · refine (flagged.modBreakin_other same _).of_same rfl (fun x there kind => ?_) fun h _ _ qualifies =>
        qualifies.congr rfl rfl rfl rfl rfl
      rw [State.noticeQueue_told] at there
      obtain ⟨addressed, -⟩ | old := mem_joinIf there
      · rw [onlyPort_get_other same] at addressed
        cases addressed
      · exact old

/-- A departure puts the call of its port in order (R99, R127). -/
theorem State.Called.departed {h : Handle} {named : Option Handle} (called : s.Called p (some h) named) :
    (departed p h s).Called p none named := by
  unfold Machine.departed
  split
  · rw [clearPendingBreakIn_eq]
    exact Heeds.breakInCheck p _ p none named called.withoutPending
  · next other =>
    refine ⟨fun j is _ => called.pending j is fun same => other ?_, called.notices⟩
    rw [is, same]

end

end Sys2Proof.Machine
end

section
/-! A change of the routing state: what it does to the records, to the membership of the queues and to the notices (R67, R72 to
R77), and the requests of the Route Unit. -/

namespace Sys2Proof.Machine

/-! ### What happens to one message -/

/-- A message whose pre-change mark is set (R74). -/
def Message.marked (m : Message) : Message := { m with custody := Custody.mark m.custody }

/-- A QUEUED message whose area does not resolve is held for it (R75). -/
def Message.unplaced (now : Nat) (p : Port) (resolves : Bool) (m : Message) : Message :=
  if m.custody = .queued ∧ resolves = false then
    Message.log now (some p) .held { m with custody := .held .unrouted }
  else m

/-- A HELD(UNROUTED) message whose area resolves is released, to be held again where its deadline has passed (R76). -/
def Message.replaced (now : Nat) (p : Port) (resolves : Bool) (m : Message) : Message :=
  if m.custody = .held .unrouted ∧ resolves = true then
    if Message.deadlinePassed now m = true then
      Message.log now (some p) .held
        { Message.log now (some p) .released (Message.applyUpgrade m) with custody := .held .deadlinePassed }
    else Message.log now (some p) .released { Message.applyUpgrade m with custody := .queued }
  else m

/-- The log does not read the custody. -/
theorem Message.log_withCustody (now : Nat) (p : Option Port) (e : HistoryEvent) (m : Message) (c : Custody) :
    Message.log now p e { m with custody := c } = { Message.log now p e m with custody := c } := by
  simp only [Message.log]
  split <;> rfl

/-- A release leaves the deadline, so it may be judged before or after. -/
theorem Message.deadlinePassed_released (now : Nat) (p : Option Port) (e : HistoryEvent) (m : Message) :
    Message.deadlinePassed now (Message.log now p e (Message.applyUpgrade m)) = Message.deadlinePassed now m := by
  rw [Message.deadlinePassed, Message.deadlinePassed, Message.log_deadline, Message.applyUpgrade_frame]

/-- The mark of a message in custody, the hold of one without a queue and the release of one that has a queue again are the
three things that a routing change does to a message. -/
theorem rerouted_eq (now : Nat) (p : Port) (resolves : Bool) (m : Message) :
    rerouted now p resolves m = ((m.marked.unplaced now p resolves).replaced now p resolves) := by
  have unmarked {c : Custody} (is : m.custody = c) (same : Custody.mark c = c) : m.marked = m := by
    rw [Message.marked, is, same, ← is]
  unfold rerouted
  cases custody : m.custody with
  | handed q d mark => simp [Message.marked, Message.unplaced, Message.replaced, custody, Custody.mark]
  | suspended q d mark => simp [Message.marked, Message.unplaced, Message.replaced, custody, Custody.mark]
  | queued =>
    rw [unmarked custody rfl]
    cases resolves <;> simp [Message.unplaced, Message.replaced, custody]
  | held r =>
    rw [unmarked custody rfl]
    cases r <;> cases resolves <;>
      simp [Message.unplaced, Message.replaced, custody, Message.deadlinePassed_released, Message.log_withCustody]
  | filling => rw [unmarked custody rfl]; simp [Message.unplaced, Message.replaced, custody]
  | disposed o t => rw [unmarked custody rfl]; simp [Message.unplaced, Message.replaced, custody]
  | void => rw [unmarked custody rfl]; simp [Message.unplaced, Message.replaced, custody]

/-- A hold for want of a queue leaves the area. -/
theorem Message.unplaced_area (now : Nat) (p : Port) (resolves : Bool) (m : Message) :
    (m.unplaced now p resolves).area = m.area := by
  rw [Message.unplaced]
  split
  · exact Message.log_area ..
  · rfl

/-! ### An operation on each slot that also sends notices -/

/-- The change of one slot at a time that a list of slots makes. -/
def changeSlots (h : Slot → Slot) (ks : List SlotNo) (v : Vector Slot 192) : Vector Slot 192 :=
  ks.foldl (fun v k => vmod v k h) v

/-- A change of each slot in turn is a change of all. -/
theorem changeSlots_allSlots (h : Slot → Slot) (v : Vector Slot 192) : changeSlots h allSlots v = vmap h v := by
  have each {ks : List SlotNo} (nodup : ks.Nodup) (v : Vector Slot 192) (j : SlotNo) :
      (changeSlots h ks v).get j = if j ∈ ks then h (v.get j) else v.get j := by
    induction ks generalizing v with
    | nil => rfl
    | cons k ks ih =>
      obtain ⟨fresh, rest⟩ := List.nodup_cons.mp nodup
      refine (ih rest (vmod v k h)).trans ?_
      rw [get_vmod]
      by_cases same : k = j
      · subst same
        simp [fresh]
      · simp [same, Ne.symm same]
  apply vector_ext
  intro j
  rw [each nodup_allSlots, if_pos (mem_allSlots j), get_vmap]

/-- An operation that neither reads nor writes the slots does neither on a list. -/
theorem foldl_withSlots {g : State → SlotNo → State} (commutes : ∀ t k v, g { t with slots := v } k = { g t k with slots := v })
    (ks : List SlotNo) (t : State) (v : Vector Slot 192) :
    ks.foldl g { t with slots := v } = { ks.foldl g t with slots := v } := by
  induction ks generalizing t with
  | nil => rfl
  | cons k ks ih => rw [List.foldl_cons, commutes, ih]; rfl

/-- An operation that changes one slot and for the rest does what g does, which does not read the slots, changes the slots of a
list and for the rest does what g does on the list. -/
theorem foldl_changeSlots {f g : State → SlotNo → State} {h : Slot → Slot} {x : SlotNo → Slot} {Inv : State → Prop}
    (step : ∀ t k, Inv t → t.slot k = x k → f t k = { g t k with slots := vmod t.slots k h })
    (commutes : ∀ t k v, g { t with slots := v } k = { g t k with slots := v })
    (keeps : ∀ t k, Inv t → t.slot k = x k → Inv (f t k)) {ks : List SlotNo} (nodup : ks.Nodup) {t : State} (inv : Inv t)
    (fresh : ∀ k ∈ ks, t.slot k = x k) :
    ks.foldl f t = { ks.foldl g t with slots := changeSlots h ks t.slots } := by
  induction ks generalizing t with
  | nil => rfl
  | cons k ks ih =>
    obtain ⟨new, rest⟩ := List.nodup_cons.mp nodup
    have first := step t k inv (fresh k (by simp))
    have others : ∀ j ∈ ks, (f t k).slot j = x j := by
      intro j member
      have apart : k ≠ j := fun same => new (same ▸ member)
      rw [first]
      exact (get_vmod ..).trans ((if_neg apart).trans (fresh j (by simp [member])))
    rw [List.foldl_cons, ih rest (keeps t k inv (fresh k (by simp))) others, first,
      foldl_withSlots commutes]
    rfl

/-! ### The notices of a routing change -/

section
variable (s s₁ : State) (p : Port)

/-- A message in the part s after the routing change to that of s₁. -/
def State.changed (m : Message) : Message := rerouted s.seconds p (s₁.resolve m.area).isSome m

/-- STATE-CHANGE and HELD of a message that the change holds (R75). -/
def State.tellHeld (t : State) (k : SlotNo) : State :=
  match s.record k with
  | some m =>
    if m.custody = .queued ∧ s₁.resolve m.area = none then
      (t.told m.watchers (stateChange s k (s.changed s₁ p m))).told (controlSet s) (heldNotice s k .unrouted)
    else t
  | none => t

/-- The notices of a message that the change releases (R76). -/
def State.tellReleased (t : State) (k : SlotNo) : State :=
  match s.record k with
  | some m =>
    if m.custody = .held .unrouted ∧ (s₁.resolve m.area).isSome = true then
      if Message.deadlinePassed s.seconds m = true then t.told (controlSet s) (heldNotice s k .deadlinePassed)
      else t.told m.watchers (stateChange s k (s.changed s₁ p m))
    else t
  | none => t

/-- QUEUE-READY where queue q was empty and, in the part `placed`, is not (R77). -/
def State.tellReady (placed t : State) (q : Port) : State :=
  if s.queue q = [] ∧ placed.queue q ≠ [] then t.told (onlyPort q) (bareNotice s .queueReady) else t

/-- A pending break-in whose message has left queue q is cleared, and the check made (R77). -/
def State.withdrawGone (placed t : State) (q : Port) : State :=
  match (s.breakin q).pending with
  | none => t
  | some h =>
    if placed.queueOf h.slot = some q ∧ s.handleOf h.slot = h then t else breakInCheck q (t.withoutPending q)

/-- The check is made where queue q gained a message (R77). -/
def State.checkGained (placed t : State) (q : Port) : State :=
  if (placed.queue q).any (fun k => decide (s.queueOf k ≠ some q)) then breakInCheck q t else t

/-- The hand-over of the membership of queue q, where `placed` is the part with the records as the change leaves them (R77). -/
def State.handOver (placed t : State) (q : Port) : State :=
  s.checkGained placed (s.withdrawGone placed (s.tellReady placed t q) q) q

/-- The part with the records as the change leaves them. -/
def State.replacedAll : State :=
  { s₁ with slots := vmap (fun x => { x with record := x.record.map (s.changed s₁ p) }) s.slots }

/-- A routing change in its three sweeps. -/
theorem State.rerouting_eq :
    s.rerouting p s₁ = allPorts.foldl (s.handOver (s.replacedAll s₁ p))
      (allSlots.foldl (s.tellReleased s₁ p) (allSlots.foldl (s.tellHeld s₁ p) (s.replacedAll s₁ p))) := rfl

end

/-! ### The sweeps over the slots -/

section
variable {s s₁ : State} {p : Port}

/-- The part t is on the way from s to the routing state of s₁: only records and notices have changed. -/
structure Rerouting (s s₁ t : State) : Prop where
  now : t.seconds = s.seconds
  control : controlSet t = controlSet s
  resolve : ∀ area, t.resolve area = s₁.resolve area
  handle : ∀ k, t.handleOf k = s.handleOf k

/-- A record written leaves a part on the way. -/
theorem Rerouting.changeSlot {t u : State} (inv : Rerouting s s₁ t) (k : SlotNo) (f : Option Message → Option Message)
    (notices : ∃ queues, u = { t with noticeQueues := queues }) :
    Rerouting s s₁ { u with slots := vmod t.slots k (fun x => { x with record := f x.record }) } := by
  obtain ⟨queues, rfl⟩ := notices
  refine ⟨inv.now, inv.control, inv.resolve, fun j => ?_⟩
  rw [← inv.handle j]
  simp only [State.handleOf, State.slot, get_vmod]
  split <;> rfl

theorem State.tellHeld_cases (t : State) (k : SlotNo) : ∃ queues, s.tellHeld s₁ p t k = { t with noticeQueues := queues } := by
  unfold State.tellHeld
  repeat' split
  all_goals exact ⟨_, rfl⟩

theorem State.tellReleased_cases (t : State) (k : SlotNo) :
    ∃ queues, s.tellReleased s₁ p t k = { t with noticeQueues := queues } := by
  unfold State.tellReleased
  repeat' split
  all_goals exact ⟨_, rfl⟩

theorem State.tellHeld_withSlots (t : State) (k : SlotNo) (v : Vector Slot 192) :
    s.tellHeld s₁ p { t with slots := v } k = { s.tellHeld s₁ p t k with slots := v } := by
  unfold State.tellHeld
  repeat' split
  all_goals rfl

theorem State.tellReleased_withSlots (t : State) (k : SlotNo) (v : Vector Slot 192) :
    s.tellReleased s₁ p { t with slots := v } k = { s.tellReleased s₁ p t k with slots := v } := by
  unfold State.tellReleased
  repeat' split
  all_goals rfl

/-- Message m before the change, with its mark. -/
theorem Message.marked_queued {m : Message} (queued : m.custody = .queued) : m.marked = m := by
  rw [Message.marked, queued, Custody.mark, ← queued]

theorem Custody.mark_eq_queued_iff (c : Custody) : Custody.mark c = .queued ↔ c = .queued := by
  cases c <;> simp [Custody.mark]

theorem Custody.mark_eq_held_iff (c : Custody) (r : HoldReason) : Custody.mark c = .held r ↔ c = .held r := by
  cases c <;> simp [Custody.mark]

/-- A message of s once its mark is set. -/
def markedSlot (s : State) (k : SlotNo) : Slot := { s.slot k with record := (s.record k).map Message.marked }

/-- A slot of s once what the change holds is held. -/
def unplacedSlot (s s₁ : State) (p : Port) (k : SlotNo) : Slot :=
  { s.slot k with
    record := (s.record k).map (fun m => m.marked.unplaced s.seconds p (s₁.resolve m.area).isSome) }

/-- The notices depend on the state and the class of the message, and on the handle and the time. -/
theorem stateChange_congr {s t : State} {k : SlotNo} {m n : Message} (handle : t.handleOf k = s.handleOf k)
    (now : t.seconds = s.seconds) (name : n.custody.name = m.custody.name) (klass : n.klass = m.klass) :
    stateChange t k n = stateChange s k m := by
  rw [stateChange, stateChange, handle, now, name, klass]

theorem heldNotice_congr {s t : State} {k : SlotNo} (handle : t.handleOf k = s.handleOf k) (now : t.seconds = s.seconds)
    (r : HoldReason) : heldNotice t k r = heldNotice s k r := by
  rw [heldNotice, heldNotice, handle, now]

/-- An operation that writes the record of a slot where there is one. -/
theorem State.withRecord_eq_slots {t : State} {k : SlotNo} {m n : Message} {f : Message → Message} (record : t.record k = some m)
    (becomes : f m = n) :
    t.withRecord k n = { t with slots := vmod t.slots k (fun x => { x with record := x.record.map f }) } := by
  rw [← becomes, ← modRecord_eq_withRecord f record]
  rfl

/-- A slot whose record an operation would leave. -/
theorem State.eq_withSlots {t : State} {k : SlotNo} {f : Message → Message} (fixed : ∀ m, t.record k = some m → f m = m) :
    t = { t with slots := vmod t.slots k (fun x => { x with record := x.record.map f }) } := by
  have same : vmod t.slots k (fun x => { x with record := x.record.map f }) = t.slots :=
    State.slots_modRecord_of_fixed fixed
  rw [same]

/-- The first sweep at one slot (R75). -/
theorem reresolveQueued_eq {t : State} {k : SlotNo} (inv : Rerouting s s₁ t) (slot : t.slot k = markedSlot s k) :
    reresolveQueued p t k = { s.tellHeld s₁ p t k with
      slots := vmod t.slots k (fun x => { x with
        record := x.record.map (fun m => m.unplaced s.seconds p (s₁.resolve m.area).isSome) }) } := by
  have there : t.record k = (s.record k).map Message.marked := congrArg Slot.record slot
  unfold reresolveQueued
  cases record : s.record k with
  | none =>
    have empty : t.record k = none := by rw [there, record]; rfl
    rw [empty]
    have tells : s.tellHeld s₁ p t k = t := by simp only [State.tellHeld, record]
    rw [tells]
    exact State.eq_withSlots fun m some => absurd (some.symm.trans empty) (by simp)
  | some m =>
    have full : t.record k = some m.marked := by rw [there, record]; rfl
    have only {n : Message} (some : t.record k = some n) : n = m.marked := Option.some.inj (some.symm.trans full)
    rw [full]
    by_cases queued : m.custody = .queued
    · rw [Message.marked_queued queued] at full only ⊢
      refine (if_pos queued).trans ?_
      rw [inv.resolve]
      cases resolves : s₁.resolve m.area with
      | some q =>
        have tells : s.tellHeld s₁ p t k = t := by simp [State.tellHeld, record, resolves]
        rw [tells]
        exact State.eq_withSlots fun n some => by rw [only some]; simp [Message.unplaced, resolves]
      | none =>
        have held : s.changed s₁ p m = Message.log s.seconds (some p) .held { m with custody := .held .unrouted } := by
          simp [State.changed, rerouted, queued, resolves]
        have becomes : m.unplaced s.seconds p (s₁.resolve m.area).isSome = s.changed s₁ p m := by
          rw [held]
          simp [Message.unplaced, queued, resolves]
        have custody : (s.changed s₁ p m).custody = .held .unrouted := by rw [held]; exact Message.log_custody ..
        have watchers : (s.changed s₁ p m).watchers = m.watchers := by rw [held]; exact Message.log_watchers ..
        have tells : s.tellHeld s₁ p t k
            = (t.told m.watchers (stateChange s k (s.changed s₁ p m))).told (controlSet s) (heldNotice s k .unrouted) := by
          simp only [State.tellHeld, record, queued, resolves, and_self, if_true]
        refine (holdAndTell_eq full).trans ?_
        rw [inv.now, ← held, State.leftAs_of_held custody, inv.control, watchers,
          stateChange_congr (inv.handle k) inv.now rfl rfl, heldNotice_congr (inv.handle k) inv.now, tells,
          State.withRecord_eq_slots (f := fun m => m.unplaced s.seconds p (s₁.resolve m.area).isSome) full becomes]
        rfl
    · have tells : s.tellHeld s₁ p t k = t := by simp [State.tellHeld, record, queued]
      have unqueued : m.marked.custody ≠ .queued := fun is => queued ((Custody.mark_eq_queued_iff _).mp is)
      refine (if_neg unqueued).trans ?_
      rw [tells]
      exact State.eq_withSlots fun n some => by rw [only some]; simp [Message.unplaced, unqueued]

/-- A message that is HELD(UNROUTED) where its area resolves was so before the change. -/
theorem Message.held_of_unplaced {m : Message} {now : Nat} {resolves : Bool}
    (held : (m.marked.unplaced now p resolves).custody = .held .unrouted) (is : resolves = true) :
    m.custody = .held .unrouted ∧ m.marked.unplaced now p resolves = m := by
  have still : m.marked.unplaced now p resolves = m.marked := by simp [Message.unplaced, is]
  rw [still] at held
  have custody : m.custody = .held .unrouted := (Custody.mark_eq_held_iff _ _).mp held
  refine ⟨custody, ?_⟩
  rw [still, Message.marked, custody, Custody.mark, ← custody]

/-- The second sweep at one slot (R76). -/
theorem releaseUnrouted_eq {t : State} {k : SlotNo} (inv : Rerouting s s₁ t) (slot : t.slot k = unplacedSlot s s₁ p k) :
    releaseUnrouted p t k = { s.tellReleased s₁ p t k with
      slots := vmod t.slots k (fun x => { x with
        record := x.record.map (fun m => m.replaced s.seconds p (s₁.resolve m.area).isSome) }) } := by
  have there : t.record k = (s.record k).map (fun m => m.marked.unplaced s.seconds p (s₁.resolve m.area).isSome) :=
    congrArg Slot.record slot
  unfold releaseUnrouted
  cases record : s.record k with
  | none =>
    have empty : t.record k = none := by rw [there, record]; rfl
    rw [empty]
    have tells : s.tellReleased s₁ p t k = t := by simp only [State.tellReleased, record]
    rw [tells]
    exact State.eq_withSlots fun m some => absurd (some.symm.trans empty) (by simp)
  | some m =>
    obtain ⟨n, is⟩ : ∃ n, n = m.marked.unplaced s.seconds p (s₁.resolve m.area).isSome := ⟨_, rfl⟩
    have full : t.record k = some n := by rw [there, record, is]; rfl
    have only {x : Message} (some : t.record k = some x) : x = n := Option.some.inj (some.symm.trans full)
    have area : n.area = m.area := by
      rw [is, Message.unplaced_area]
      rfl
    rw [full]
    by_cases releases : n.custody = .held .unrouted ∧ (s₁.resolve m.area).isSome = true
    · obtain ⟨held, resolves⟩ := releases
      obtain ⟨was, same⟩ := Message.held_of_unplaced (is ▸ held) resolves
      obtain rfl : n = m := is.trans same
      obtain ⟨q, queue⟩ := Option.isSome_iff_exists.mp resolves
      have becomes : n.replaced s.seconds p (s₁.resolve n.area).isSome = s.changed s₁ p n := by
        rw [State.changed, rerouted_eq, ← is]
      refine (if_pos held).trans ?_
      rw [inv.resolve, queue, inv.now]
      by_cases passed : Message.deadlinePassed s.seconds n = true
      · have after : s.changed s₁ p n = Message.log s.seconds (some p) .held
            { Message.log s.seconds (some p) .released (Message.applyUpgrade n) with custody := .held .deadlinePassed } := by
          rw [← becomes]
          simp [Message.replaced, held, resolves, passed]
        have custody : (s.changed s₁ p n).custody = .held .deadlinePassed := by rw [after]; exact Message.log_custody ..
        have tells : s.tellReleased s₁ p t k = t.told (controlSet s) (heldNotice s k .deadlinePassed) := by
          simp only [State.tellReleased, record, held, resolves, passed, and_self, if_true]
        refine (if_pos passed).trans ?_
        simp only [holdFor]
        rw [modRecord_eq_withRecord _ full, modRecord_eq_withRecord _ (State.record_withRecord_same ..),
          State.withRecord_withRecord, seconds_withRecord, inv.now, ← after, reportHeld_withRecord custody, inv.control,
          heldNotice_congr (inv.handle k) inv.now, tells,
          State.withRecord_eq_slots (f := fun m => m.replaced s.seconds p (s₁.resolve m.area).isSome) full becomes]
        rfl
      · have after : s.changed s₁ p n
            = Message.log s.seconds (some p) .released { Message.applyUpgrade n with custody := .queued } := by
          rw [← becomes]
          simp [Message.replaced, held, resolves, passed]
        have watchers : (s.changed s₁ p n).watchers = n.watchers := by
          rw [after, Message.log_watchers]
          exact Message.applyUpgrade_watchers n
        have tells : s.tellReleased s₁ p t k = t.told n.watchers (stateChange s k (s.changed s₁ p n)) := by
          simp [State.tellReleased, record, held, resolves, passed]
        refine (if_neg passed).trans ?_
        rw [modRecord_eq_withRecord _ full, ← after, notifyWatchers_withRecord, watchers,
          stateChange_congr (inv.handle k) inv.now rfl rfl, tells,
          State.withRecord_eq_slots (f := fun m => m.replaced s.seconds p (s₁.resolve m.area).isSome) full becomes]
        rfl
    · have tells : s.tellReleased s₁ p t k = t := by
        simp only [State.tellReleased, record]
        refine if_neg fun ⟨held, resolves⟩ => releases ⟨?_, resolves⟩
        rw [is]
        simp [Message.unplaced, Message.marked, held, Custody.mark]
      have fixed : n.replaced s.seconds p (s₁.resolve n.area).isSome = n := by
        rw [area]
        exact if_neg releases
      rw [tells]
      refine Eq.trans ?_ (State.eq_withSlots fun x some => by rw [only some]; exact fixed)
      refine ite_eq_right_iff.mpr fun held => ?_
      rw [inv.resolve, area]
      cases resolves : s₁.resolve m.area with
      | none => rfl
      | some q => exact absurd ⟨held, by simp [resolves]⟩ releases

end

/-! ### The whole change -/

/-- A request that gives the routing state of s₁ has changed nothing else (R68 to R71). -/
structure RoutingOnly (s s₁ : State) : Prop where
  only : s₁ = { s with routes := s₁.routes, defaultRoute := s₁.defaultRoute, links := s₁.links }

section
variable {s s₁ : State} {p : Port}

/-- The slots as the first sweep leaves them. -/
def State.unplacedAll (s s₁ : State) (p : Port) : Vector Slot 192 :=
  vmap (fun x => { x with
    record := x.record.map (fun m => m.marked.unplaced s.seconds p (s₁.resolve m.area).isSome) }) s.slots

/-- The slots after a map of the records and then another. -/
theorem vmap_records (f g : Message → Message) (v : Vector Slot 192) :
    vmap (fun x => { x with record := x.record.map g }) (vmap (fun x => { x with record := x.record.map f }) v)
      = vmap (fun x => { x with record := x.record.map (fun m => g (f m)) }) v := by
  apply vector_ext
  intro j
  simp only [get_vmap, Option.map_map]
  rfl

theorem Rerouting.ofSlots (only : RoutingOnly s s₁) (f : Message → Message) (queues : Vector NoticeQueue 4) :
    Rerouting s s₁ { s₁ with
      slots := vmap (fun x => { x with record := x.record.map f }) s.slots, noticeQueues := queues } := by
  obtain ⟨only⟩ := only
  refine ⟨by rw [only], by rw [only]; rfl, fun area => rfl, fun k => ?_⟩
  simp only [State.handleOf, State.slot, get_vmap]

/-- The first sweep (R74, R75). -/
theorem foldl_reresolveQueued (only : RoutingOnly s s₁) :
    allSlots.foldl (reresolveQueued p) (markHandoffs s₁)
      = { allSlots.foldl (s.tellHeld s₁ p) s₁ with slots := s.unplacedAll s₁ p } := by
  have slots : s₁.slots = s.slots := by rw [only.only]
  have marked : markHandoffs s₁ = { s₁ with
      slots := vmap (fun x => { x with record := x.record.map Message.marked }) s.slots, noticeQueues := s₁.noticeQueues } := by
    rw [← slots]
    rfl
  have start : Rerouting s s₁ (markHandoffs s₁) := marked ▸ Rerouting.ofSlots only Message.marked s₁.noticeQueues
  have fresh (k : SlotNo) : (markHandoffs s₁).slot k = markedSlot s k := by
    rw [marked]
    exact get_vmap ..
  rw [foldl_changeSlots (g := s.tellHeld s₁ p) (x := markedSlot s) (Inv := Rerouting s s₁)
    (fun t k inv slot => reresolveQueued_eq inv slot) (fun t k v => State.tellHeld_withSlots t k v)
    (fun t k inv slot => by
      rw [reresolveQueued_eq inv slot]
      exact inv.changeSlot k _ (State.tellHeld_cases t k)) nodup_allSlots start (fun k _ => fresh k),
    changeSlots_allSlots]
  have slots' : (markHandoffs s₁).slots = vmap (fun x => { x with record := x.record.map Message.marked }) s.slots := by
    rw [marked]
  rw [slots', vmap_records]
  rw [show markHandoffs s₁ = { s₁ with slots := (markHandoffs s₁).slots } from rfl, foldl_withSlots State.tellHeld_withSlots]
  rfl

/-- Notices alone are what the first sweep adds beside the records. -/
theorem foldl_tellHeld_cases (t : State) :
    ∃ queues, allSlots.foldl (s.tellHeld s₁ p) t = { t with noticeQueues := queues } := by
  generalize allSlots = ks
  induction ks generalizing t with
  | nil => exact ⟨_, rfl⟩
  | cons k ks ih =>
    obtain ⟨first, e⟩ := State.tellHeld_cases (s := s) (s₁ := s₁) (p := p) t k
    obtain ⟨rest, e'⟩ := ih (s.tellHeld s₁ p t k)
    exact ⟨rest, e'.trans (by rw [e])⟩

/-- Notices alone are what the second sweep adds beside the records. -/
theorem foldl_tellReleased_cases (t : State) :
    ∃ queues, allSlots.foldl (s.tellReleased s₁ p) t = { t with noticeQueues := queues } := by
  generalize allSlots = ks
  induction ks generalizing t with
  | nil => exact ⟨_, rfl⟩
  | cons k ks ih =>
    obtain ⟨first, e⟩ := State.tellReleased_cases (s := s) (s₁ := s₁) (p := p) t k
    obtain ⟨rest, e'⟩ := ih (s.tellReleased s₁ p t k)
    exact ⟨rest, e'.trans (by rw [e])⟩

/-- Both sweeps (R74 to R76). -/
theorem foldl_releaseUnrouted (only : RoutingOnly s s₁) :
    allSlots.foldl (releaseUnrouted p) (allSlots.foldl (reresolveQueued p) (markHandoffs s₁))
      = allSlots.foldl (s.tellReleased s₁ p) (allSlots.foldl (s.tellHeld s₁ p) (s.replacedAll s₁ p)) := by
  obtain ⟨queues, held⟩ := foldl_tellHeld_cases (s := s) (s₁ := s₁) (p := p) s₁
  have start : Rerouting s s₁ { allSlots.foldl (s.tellHeld s₁ p) s₁ with slots := s.unplacedAll s₁ p } := by
    rw [held]
    exact Rerouting.ofSlots only _ queues
  rw [foldl_reresolveQueued only]
  rw [foldl_changeSlots (g := s.tellReleased s₁ p) (x := unplacedSlot s s₁ p) (Inv := Rerouting s s₁)
    (fun t k inv slot => releaseUnrouted_eq inv slot) (fun t k v => State.tellReleased_withSlots t k v)
    (fun t k inv slot => by
      rw [releaseUnrouted_eq inv slot]
      exact inv.changeSlot k _ (State.tellReleased_cases t k)) nodup_allSlots start (fun k _ => get_vmap ..),
    changeSlots_allSlots]
  have areas : vmap (fun x => { x with
        record := x.record.map (fun m => m.replaced s.seconds p (s₁.resolve m.area).isSome) }) (s.unplacedAll s₁ p)
      = (s.replacedAll s₁ p).slots := by
    refine (vmap_records _ _ _).trans ?_
    have each (m : Message) :
        (m.marked.unplaced s.seconds p (s₁.resolve m.area).isSome).replaced s.seconds p
          (s₁.resolve (m.marked.unplaced s.seconds p (s₁.resolve m.area).isSome).area).isSome = s.changed s₁ p m := by
      rw [State.changed, rerouted_eq, Message.unplaced_area]
      rfl
    simp only [each]
    rfl
  have second (t : State) (v : Vector Slot 192) :
      allSlots.foldl (s.tellReleased s₁ p) { t with slots := v }
        = { allSlots.foldl (s.tellReleased s₁ p) t with slots := v } :=
    foldl_withSlots State.tellReleased_withSlots allSlots t v
  have first : allSlots.foldl (s.tellHeld s₁ p) (s.replacedAll s₁ p)
      = { allSlots.foldl (s.tellHeld s₁ p) s₁ with slots := (s.replacedAll s₁ p).slots } :=
    foldl_withSlots State.tellHeld_withSlots allSlots s₁ (s.replacedAll s₁ p).slots
  rw [areas, first]
  exact (congrArg (fun t : State => { t with slots := (s.replacedAll s₁ p).slots })
    (second (allSlots.foldl (s.tellHeld s₁ p) s₁) (s.unplacedAll s₁ p))).trans
    (second (allSlots.foldl (s.tellHeld s₁ p) s₁) (s.replacedAll s₁ p).slots).symm

end

/-! ### The hand-over of the membership -/

/-- From t to u only sticky flags, notices and what is pending have changed, and every port's call stays in order. -/
structure Aside (t u : State) : Prop where
  frame : u = { t with flags := u.flags, breakins := u.breakins, noticeQueues := u.noticeQueues }
  handling : ∀ q, u.handling q = t.handling q
  heeds : Heeds t u

theorem Aside.refl (t : State) : Aside t t := ⟨rfl, fun _ => rfl, .refl t⟩

theorem Aside.trans {t u v : State} (first : Aside t u) (second : Aside u v) : Aside t v := by
  refine ⟨second.frame.trans ?_, fun q => (second.handling q).trans (first.handling q), first.heeds.trans second.heeds⟩
  rw [first.frame]

/-- A notice that calls no port. -/
theorem Aside.told (t : State) (ports : PortSet) (n : Notice) (other : n.kind ≠ .breakIn := by exact nofun) :
    Aside t (t.told ports n) := ⟨rfl, fun _ => rfl, .told t ports other⟩

theorem Aside.breakInCheck (q : Port) (t : State) : Aside t (breakInCheck q t) :=
  ⟨breakInCheck_frame q t, fun r => handling_breakInCheck q r t, .breakInCheck q t⟩

theorem Aside.withoutPending (t : State) (q : Port) : Aside t (t.withoutPending q) := by
  refine ⟨?_, fun r => handling_withoutPending q r t, .withoutPending t q⟩
  rw [← clearPendingBreakIn_eq, clearPendingBreakIn_frame]

theorem withoutPending_otherPort {q r : Port} (other : r ≠ q) (t : State) : (t.withoutPending q).breakin r = t.breakin r := by
  unfold State.withoutPending
  split
  · rfl
  · exact (State.breakin_modBreakin ..).trans (if_neg (Ne.symm other))

section
variable {s s₁ placed t : State} {p q : Port}

theorem tellHeld_aside (k : SlotNo) : Aside t (s.tellHeld s₁ p t k) := by
  unfold State.tellHeld
  split
  · split
    · exact (Aside.told ..).trans (.told ..)
    · exact .refl t
  · exact .refl t

theorem tellReleased_aside (k : SlotNo) : Aside t (s.tellReleased s₁ p t k) := by
  unfold State.tellReleased
  split
  · split
    · split
      · exact .told ..
      · exact .told ..
    · exact .refl t
  · exact .refl t

theorem Aside.foldl {α : Type} {f : State → α → State} (each : ∀ t x, Aside t (f t x)) (xs : List α) (t : State) :
    Aside t (xs.foldl f t) := by
  induction xs generalizing t with
  | nil => exact .refl t
  | cons x xs ih => exact (each t x).trans (ih _)

theorem tellReady_aside : Aside t (s.tellReady placed t q) := by
  unfold State.tellReady
  split
  · exact .told ..
  · exact .refl t

theorem withdrawGone_aside : Aside t (s.withdrawGone placed t q) := by
  unfold State.withdrawGone
  split
  · exact .refl t
  · split
    · exact .refl t
    · exact (Aside.withoutPending t q).trans (.breakInCheck ..)

theorem checkGained_aside : Aside t (s.checkGained placed t q) := by
  unfold State.checkGained
  split
  · exact .breakInCheck ..
  · exact .refl t

/-- The hand-over writes sticky flags, notices and what is pending. -/
theorem handOver_aside : Aside t (s.handOver placed t q) :=
  tellReady_aside.trans (withdrawGone_aside.trans checkGained_aside)

/-- The hand-over at queue q leaves what is pending at the other ports. -/
theorem handOver_otherPort {r : Port} (other : r ≠ q) : (s.handOver placed t q).breakin r = t.breakin r := by
  have ready (t : State) : (s.tellReady placed t q).breakin r = t.breakin r := by
    unfold State.tellReady
    split <;> rfl
  have withdrawn (t : State) : (s.withdrawGone placed t q).breakin r = t.breakin r := by
    unfold State.withdrawGone
    split
    · rfl
    · split
      · rfl
      · exact (breakInCheck_otherPort (Ne.symm other) _).trans (withoutPending_otherPort other t)
  have checked (t : State) : (s.checkGained placed t q).breakin r = t.breakin r := by
    unfold State.checkGained
    split
    · exact breakInCheck_otherPort (Ne.symm other) t
    · rfl
  rw [State.handOver, checked, withdrawn, ready]

/-- The part t has the records and the routing of the part `placed`, and the handles and the time of s. -/
structure Placed (s placed t : State) : Prop where
  queueOf : ∀ k, t.queueOf k = placed.queueOf k
  handle : ∀ k, t.handleOf k = s.handleOf k
  now : t.seconds = s.seconds

theorem Placed.queue (there : Placed s placed t) (q : Port) : t.queue q = placed.queue q := by
  simp only [State.queue, there.queueOf]

theorem Placed.aside {u : State} (there : Placed s placed t) (aside : Aside t u) : Placed s placed u := by
  have slots : u.slots = t.slots := by rw [aside.frame]
  refine ⟨fun k => ?_, fun k => ?_, ?_⟩
  · rw [← there.queueOf k]
    exact State.queueOf_congr slots (by rw [aside.frame]) (by rw [aside.frame]) (by rw [aside.frame]) k
  · rw [← there.handle k]
    exact State.handleOf_congr slots k
  · rw [← there.now, aside.frame]

/-- The hand-over in the statement's terms (R77). -/
theorem handOverMembership_eq (there : Placed s placed t) (pending : (t.breakin q).pending = (s.breakin q).pending) :
    handOverMembership s t q = s.handOver placed t q := by
  have ready : (if (s.queue q).isEmpty ∧ !(t.queue q).isEmpty then reportQueueReady q t else t) = s.tellReady placed t q := by
    have notice : reportQueueReady q t = t.told (onlyPort q) (bareNotice s .queueReady) := by
      rw [reportQueueReady, post_eq_told, bareNotice, there.now]
    rw [notice, there.queue, State.tellReady]
    simp [List.isEmpty_iff]
  have still : Placed s placed (s.tellReady placed t q) := there.aside tellReady_aside
  have named : ((s.tellReady placed t q).breakin q).pending = (s.breakin q).pending := by
    rw [← pending, State.tellReady]
    split <;> rfl
  have gained : (t.queue q).any (fun k => !decide (s.queueOf k = some q))
      = (placed.queue q).any (fun k => decide (s.queueOf k ≠ some q)) := by
    rw [there.queue]
    simp only [ne_eq, decide_not]
  unfold handOverMembership
  simp only [ready, gained]
  unfold State.handOver State.checkGained State.withdrawGone
  cases is : (s.breakin q).pending with
  | none =>
    rw [is] at named
    simp only [named]
  | some h =>
    rw [is] at named
    simp only [named, still.queueOf, still.handle, clearPendingBreakIn_eq]

/-- The hand-over at every port in turn. -/
theorem foldl_handOverMembership {ps : List Port} (nodup : ps.Nodup) (there : Placed s placed t)
    (pending : ∀ q ∈ ps, (t.breakin q).pending = (s.breakin q).pending) :
    ps.foldl (handOverMembership s) t = ps.foldl (s.handOver placed) t := by
  induction ps generalizing t with
  | nil => rfl
  | cons q ps ih =>
    obtain ⟨new, rest⟩ := List.nodup_cons.mp nodup
    rw [List.foldl_cons, List.foldl_cons, handOverMembership_eq there (pending q (by simp))]
    refine ih rest (there.aside handOver_aside) fun r member => ?_
    have apart : r ≠ q := fun same => new (same ▸ member)
    rw [handOver_otherPort apart]
    exact pending r (by simp [member])

/-- The hand-over at every port writes sticky flags, notices and what is pending. -/
theorem foldl_handOver_aside (ps : List Port) : Aside t (ps.foldl (s.handOver placed) t) :=
  .foldl (fun _ _ => handOver_aside) ps t

end

/-! ### The account of a change -/

section
variable {s s₁ : State} {p : Port}

/-- The part between the sweeps and the hand-over has the records as the change leaves them. -/
theorem placed_sweeps (only : RoutingOnly s s₁) :
    Placed s (s.replacedAll s₁ p)
        (allSlots.foldl (s.tellReleased s₁ p) (allSlots.foldl (s.tellHeld s₁ p) (s.replacedAll s₁ p)))
      ∧ Aside (s.replacedAll s₁ p)
        (allSlots.foldl (s.tellReleased s₁ p) (allSlots.foldl (s.tellHeld s₁ p) (s.replacedAll s₁ p)))
      ∧ (allSlots.foldl (s.tellReleased s₁ p) (allSlots.foldl (s.tellHeld s₁ p) (s.replacedAll s₁ p))).breakins
        = s.breakins := by
  obtain ⟨first, held⟩ := foldl_tellHeld_cases (s := s) (s₁ := s₁) (p := p) (s.replacedAll s₁ p)
  obtain ⟨second, released⟩ := foldl_tellReleased_cases (s := s) (s₁ := s₁) (p := p)
    (allSlots.foldl (s.tellHeld s₁ p) (s.replacedAll s₁ p))
  have aside := (Aside.foldl (fun t k => tellHeld_aside (s := s) (s₁ := s₁) (p := p) k) allSlots (s.replacedAll s₁ p)).trans
    (.foldl (fun t k => tellReleased_aside (s := s) (s₁ := s₁) (p := p) k) allSlots _)
  rw [released, held] at aside ⊢
  have there : Rerouting s s₁ (s.replacedAll s₁ p) := Rerouting.ofSlots only (s.changed s₁ p) s₁.noticeQueues
  have breakins : s₁.breakins = s.breakins := by rw [only.only]
  exact ⟨⟨fun k => rfl, there.handle, there.now⟩, aside, breakins⟩

/-- The part after a routing change, in the statements' terms. -/
theorem routingEffects_eq (only : RoutingOnly s s₁) : (routingEffects p s s₁).1 = s.rerouting p s₁ := by
  obtain ⟨there, -, same⟩ := placed_sweeps (p := p) only
  have pending (q : Port) : ((allSlots.foldl (s.tellReleased s₁ p)
      (allSlots.foldl (s.tellHeld s₁ p) (s.replacedAll s₁ p))).breakin q).pending = (s.breakin q).pending := by
    rw [State.breakin, same]
    rfl
  rw [State.rerouting_eq, ← foldl_handOverMembership nodup_allPorts there (fun q _ => pending q),
    ← foldl_releaseUnrouted only]
  unfold routingEffects
  dsimp only

/-- What a routing change leaves beside the records (R72). -/
theorem rerouting_aside (only : RoutingOnly s s₁) : Aside (s.replacedAll s₁ p) (s.rerouting p s₁) := by
  obtain ⟨-, aside, -⟩ := placed_sweeps (p := p) only
  rw [State.rerouting_eq]
  exact aside.trans (foldl_handOver_aside allPorts)

/-- A message after the first sweep. -/
theorem record_unplaced (only : RoutingOnly s s₁) (k : SlotNo) :
    (allSlots.foldl (reresolveQueued p) (markHandoffs s₁)).record k
      = (s.record k).map (fun m => m.marked.unplaced s.seconds p (s₁.resolve m.area).isSome) := by
  rw [foldl_reresolveQueued only]
  exact congrArg Slot.record (get_vmap ..)

/-- A message after both sweeps. -/
theorem record_replaced (only : RoutingOnly s s₁) (k : SlotNo) :
    (allSlots.foldl (releaseUnrouted p) (allSlots.foldl (reresolveQueued p) (markHandoffs s₁))).record k
      = (s.record k).map (s.changed s₁ p) := by
  obtain ⟨-, aside, -⟩ := placed_sweeps (p := p) only
  rw [foldl_releaseUnrouted only, State.record, aside.frame]
  exact congrArg Slot.record (get_vmap ..)

/-- After the first sweep a message is QUEUED where it was and its area resolves (R75). -/
theorem Message.unplaced_queued_iff (now : Nat) (resolves : Bool) (m : Message) :
    (m.marked.unplaced now p resolves).custody = .queued ↔ m.custody = .queued ∧ resolves = true := by
  unfold Message.unplaced
  split
  · next both => simp [Message.log_custody, both.2]
  · next not =>
    have queued : m.marked.custody = .queued ↔ m.custody = .queued := Custody.mark_eq_queued_iff _
    rw [queued] at not ⊢
    cases resolves <;> simp_all

/-- After the first sweep a message is HELD(UNROUTED) where it was, or was QUEUED and its area does not resolve (R75). -/
theorem Message.unplaced_unrouted_iff (now : Nat) (resolves : Bool) (m : Message) :
    (m.marked.unplaced now p resolves).custody = .held .unrouted
      ↔ m.custody = .held .unrouted ∨ m.custody = .queued ∧ resolves = false := by
  unfold Message.unplaced
  have queued : m.marked.custody = .queued ↔ m.custody = .queued := Custody.mark_eq_queued_iff _
  have held : m.marked.custody = .held .unrouted ↔ m.custody = .held .unrouted := Custody.mark_eq_held_iff ..
  split
  · next both => simp [Message.log_custody, queued.mp both.1, both.2]
  · next not =>
    rw [queued] at not
    rw [held]
    exact ⟨.inl, fun either => either.resolve_right not⟩

/-- After the change a message is HELD(UNROUTED) where it was, or was QUEUED, and its area does not resolve (R75, R76). -/
theorem Message.changed_unrouted_iff (m : Message) :
    (s.changed s₁ p m).custody = .held .unrouted
      ↔ (m.custody = .held .unrouted ∨ m.custody = .queued) ∧ s₁.resolve m.area = none := by
  have area : (m.marked.unplaced s.seconds p (s₁.resolve m.area).isSome).area = m.area := Message.unplaced_area ..
  have before := Message.unplaced_unrouted_iff (p := p) s.seconds (s₁.resolve m.area).isSome m
  rw [State.changed, rerouted_eq, Message.replaced]
  cases resolves : s₁.resolve m.area with
  | none =>
    rw [resolves] at before
    simpa using before
  | some q =>
    rw [resolves] at before
    split
    · split <;> simp [Message.log_custody]
    · next not => simpa using not

/-- The moved messages (R67). -/
theorem moved_eq (only : RoutingOnly s s₁) :
    (routingEffects p s s₁).2.moved = allSlots.countP (fun k => match s.queueOf k, s₁.queueOf k with
      | some a, some b => decide (a ≠ b)
      | _, _ => false) := by
  have same (k : SlotNo) : (allSlots.foldl (reresolveQueued p) (markHandoffs s₁)).queueOf k = s₁.queueOf k := by
    have before : s₁.record k = s.record k := by rw [only.only]; rfl
    have resolve (area : Nat) :
        (allSlots.foldl (reresolveQueued p) (markHandoffs s₁)).resolve area = s₁.resolve area := by
      obtain ⟨queues, held⟩ := foldl_tellHeld_cases (s := s) (s₁ := s₁) (p := p) s₁
      rw [foldl_reresolveQueued only, held]
      rfl
    unfold State.queueOf
    rw [record_unplaced only, before]
    cases s.record k with
    | none => rfl
    | some m =>
      simp only [Option.map_some, Message.unplaced_queued_iff, resolve, Message.unplaced_area]
      change (if m.custody = .queued ∧ (s₁.resolve m.area).isSome = true then s₁.resolve m.area else none) = _
      cases s₁.resolve m.area <;> simp
  unfold routingEffects
  dsimp only
  refine List.countP_congr fun k _ => ?_
  have at_k := same k
  generalize (allSlots.foldl (reresolveQueued p) (markHandoffs s₁)).queueOf k = queue at at_k ⊢
  subst at_k
  exact Iff.rfl

/-- A count over the slots of a test of the record. -/
theorem State.counted_congr {test : Message → Bool} {f : SlotNo → Bool}
    (empty : ∀ k, s.record k = none → f k = false) (full : ∀ k m, s.record k = some m → f k = test m) :
    allSlots.countP f = s.counted test := by
  refine List.countP_congr fun k _ => ?_
  cases record : s.record k with
  | none => simp [empty k record]
  | some m => simp [full k m record]

/-- The messages that the change holds (R67). -/
theorem held_eq (only : RoutingOnly s s₁) :
    (routingEffects p s s₁).2.held
      = s.counted (fun m => decide (m.custody = .queued) && (s₁.resolve m.area).isNone) := by
  unfold routingEffects
  dsimp only
  refine State.counted_congr (fun k empty => ?_) fun k m record => ?_
  · simp only [record_unplaced only, empty, Option.map_none, Bool.and_false]
  · simp only [record_unplaced only, record, Option.map_some, Message.unplaced_unrouted_iff]
    by_cases queued : m.custody = .queued
    · cases s₁.resolve m.area <;> simp [queued]
    · by_cases held : m.custody = .held .unrouted <;> simp [queued, held]

/-- The messages that the change releases (R67). -/
theorem released_eq (only : RoutingOnly s s₁) :
    (routingEffects p s s₁).2.released
      = s.counted (fun m => decide (m.custody = .held .unrouted) && (s₁.resolve m.area).isSome) := by
  unfold routingEffects
  dsimp only
  refine State.counted_congr (fun k empty => ?_) fun k m record => ?_
  · simp only [record_unplaced only, empty, Option.map_none, Bool.false_and]
  · simp only [record_unplaced only, record_replaced only, record, Option.map_some, Message.unplaced_unrouted_iff,
      Message.changed_unrouted_iff]
    by_cases held : m.custody = .held .unrouted
    · cases s₁.resolve m.area <;> simp [held]
    · cases s₁.resolve m.area <;> simp [held]

/-- What a request of the Route Unit reports and leaves (R67, R72 to R77). -/
theorem changeRouting_done {changes : Bool} {update : State → State} (only : RoutingOnly s (update s)) :
    ∃ payload u, changeRouting p changes update s = answer .ok payload u
      ∧ RoutingDone p changes s (update s) u payload := by
  cases changes with
  | false => exact ⟨_, s, rfl, fun _ => ⟨rfl, rfl⟩, nofun, nofun, nofun, nofun, nofun, nofun⟩
  | true =>
    refine ⟨_, _, rfl, nofun, fun _ => ?_, fun _ k => ?_, fun _ q => ?_, fun _ => ?_, fun _ => ?_, fun _ => ?_⟩
    all_goals have aside := rerouting_aside (p := p) only
    all_goals rw [routingEffects_eq only]
    · rw [aside.frame]
      exact ⟨rfl, rfl, rfl⟩
    · rw [State.slot, aside.frame]
      exact get_vmap ..
    · refine (State.handling_eq_iff ..).mp ((aside.handling q).trans ?_)
      rw [only.only]
      rfl
    · rw [aside.frame]
      rfl
    · rw [moved_eq only, held_eq only, released_eq only]
      rfl

end

/-! ### The requests -/

/-- A request of the Route Unit that is served. -/
theorem exec_of_changeRouting {c : Instr} {p : Port} {rq : Request} {s : State} {changes changes' : Bool}
    {update : State → State} (serving : Serving s c p rq) (act : blockAct c s = changeRouting p changes update s)
    (same : changes = changes') (only : RoutingOnly s (update s)) :
    ∃ u payload, exec c s = .next (responded p rq .ok payload u) ∧ RoutingDone p changes' s (update s) u payload := by
  subst same
  obtain ⟨payload, u, reply, done⟩ := changeRouting_done (p := p) (changes := changes) only
  exact ⟨u, payload, exec_of_reply serving (act.trans reply), done⟩

/-- A route entry that a request makes invalid (R69). -/
theorem setRoute_cleared (s : State) (i : Fin 24) :
    setRoute i { s.route i with valid := false } s = { s with routes := vmod s.routes i (fun e => { e with valid := false }) } := by
  have routes : vmod s.routes i (fun _ => { s.route i with valid := false })
      = vmod s.routes i (fun e => { e with valid := false }) := by
    apply vector_ext
    intro j
    simp only [get_vmod]
    split
    · next same => subst same; rfl
    · rfl
  rw [setRoute, routes]

/-- An index of the route table (R68). -/
theorem readIndex_of_val {b : Byte} {i : Fin 24} (is : b.toNat = i.val) : readIndex b = some i := by
  simp [readIndex, is]

theorem readIndex_of_high {b : Byte} (high : 23 < b.toNat) : readIndex b = none := by
  simp [readIndex, show ¬ b.toNat < 24 by omega]

section
variable {p : Port} {s : State} {rq : Request}

theorem badField_routeSet {index : Byte} {first last : Half} {port : Byte}
    (control : (s.port p).control = true)
    (bad : 23 < index.toNat ∨ 4095 < first.toNat ∨ 4095 < last.toNat ∨ last.toNat < first.toNat ∨ 3 < port.toNat) :
    routeSet p index first last port s = refuse .badField s := by
  refine (controlOnly_of_control control).trans ?_
  by_cases index_high : 23 < index.toNat
  · rw [readIndex_of_high index_high]
  · by_cases port_high : 3 < port.toNat
    · rw [readPort_eq_none port_high]
      cases readIndex index <;> rfl
    · rw [readIndex_of_val (i := ⟨index.toNat, by omega⟩) rfl, readPort_eq_some (q := ⟨port.toNat, by omega⟩) rfl]
      exact if_neg (by omega)

theorem badField_linkState {port state : Byte} (bad : 3 < port.toNat ∨ 1 < state.toNat) :
    linkState p port state s = refuse .badField s := by
  unfold linkState
  by_cases port_high : 3 < port.toNat
  · rw [readPort_eq_none port_high]
  · rw [readFlag_eq_none (bad.resolve_left port_high)]
    cases readPort port <;> rfl

theorem routeSet_eq {index : Byte} {first last : Half} {port : Byte} {i : Fin 24} {q : Port}
    (control : (s.port p).control = true) (at_index : index.toNat = i.val) (to_port : port.toNat = q.val)
    (ordered : first.toNat ≤ last.toNat) (inRange : last.toNat ≤ 4095) :
    routeSet p index first last port s
      = changeRouting p
        (!decide (s.route i = { first := first.toNat, last := last.toNat, port := q, valid := true }))
        (setRoute i { first := first.toNat, last := last.toNat, port := q, valid := true }) s := by
  refine (controlOnly_of_control control).trans ?_
  rw [readIndex_of_val at_index, readPort_eq_some to_port]
  exact if_pos ⟨ordered.trans inRange, inRange, ordered⟩

theorem defaultRoute_eq {port : Byte} {d : Option Port} (control : (s.port p).control = true)
    (read : readDefaultRoute port = some d) :
    defaultRoute p port s
      = changeRouting p (!decide (s.defaultRoute = d)) (fun s => { s with defaultRoute := d }) s := by
  refine (controlOnly_of_control control).trans ?_
  rw [read]

theorem linkState_eq {port state : Byte} {q : Port} {up : Bool} (to_port : port.toNat = q.val)
    (flag : readFlag state = some up) (allowed : q = p ∨ (s.port p).control = true) :
    linkState p port state s = changeRouting p (!decide (s.linkUp q = up)) (setLink q up) s := by
  unfold linkState
  rw [readPort_eq_some to_port, flag]
  refine if_neg fun ⟨other, noControl⟩ => ?_
  obtain same | control := allowed
  · exact other same
  · exact Bool.noConfusion (control.symm.trans noControl)

/-- A route entry changes where one of its parts does (R68). -/
theorem route_changes (e : RouteEntry) (first last : Nat) (q : Port) :
    (!decide (e = { first := first, last := last, port := q, valid := true }))
      = (!e.valid || decide (e.first ≠ first) || decide (e.last ≠ last) || decide (e.port ≠ q)) := by
  obtain ⟨f, l, r, v⟩ := e
  rw [Bool.eq_iff_iff]
  cases v <;> simp [Classical.or_iff_not_imp_left]

end

/-- Settles O26: each request gives a routing state, and the change of routing is the three sweeps of the statement. -/
theorem routingRequestsChangeRouting : Obligations.RoutingRequestsChangeRouting := by
  intro p s rq
  refine ⟨fun index first last port serving control bad => exec_of_refusal serving (badField_routeSet control bad),
    fun index serving control high => exec_of_refusal serving ?clear,
    fun port serving control high notNone => exec_of_refusal serving ?default,
    fun port state serving bad => exec_of_refusal serving (badField_linkState bad),
    fun index first last port i q serving control at_index to_port ordered inRange =>
      exec_of_changeRouting serving (routeSet_eq control at_index to_port ordered inRange) (route_changes ..) ⟨rfl⟩,
    fun index i serving control at_index => ?cleared,
    fun port d serving control to_port => exec_of_changeRouting serving (defaultRoute_eq control ?read) ?changes ⟨rfl⟩,
    fun port state q up serving to_port flag allowed =>
      exec_of_changeRouting serving (linkState_eq to_port ?flag allowed) ?moves ⟨rfl⟩⟩
  case clear =>
    change routeClear p index s = _
    refine (controlOnly_of_control control).trans ?_
    rw [readIndex_of_high high]
  case default =>
    change defaultRoute p port s = _
    refine (controlOnly_of_control control).trans ?_
    rw [readDefaultRoute, if_neg notNone, readPort_eq_none high]
    rfl
  case cleared =>
    have act : routeClear p index s
        = changeRouting p (s.route i).valid (setRoute i { s.route i with valid := false }) s := by
      refine (controlOnly_of_control control).trans ?_
      rw [readIndex_of_val at_index]
    have done := exec_of_changeRouting serving act rfl ⟨rfl⟩
    rw [setRoute_cleared] at done
    exact done
  case read =>
    cases d with
    | none => exact if_pos to_port
    | some q =>
      have below : port.toNat ≠ 255 := by have := q.isLt; simp only [to_port]; omega
      rw [readDefaultRoute, if_neg below, readPort_eq_some to_port]
      rfl
  case changes => simp
  case flag => exact readFlag_eq_some (by cases up <;> exact flag)
  case moves =>
    rw [Bool.eq_iff_iff, Bool.not_eq_true', decide_eq_false_iff_not, decide_eq_true_eq]
    exact Iff.rfl

end Sys2Proof.Machine
end

section
/-! The laws of the store, spelled out for use: what an entry context, an active handoff and a stack record say of the records
(R27, R28, R122, R123). -/

namespace Sys2Proof.Machine

/-- The entry contexts and the FILLING messages name each other (R27, R28). -/
structure State.EntriesAgree (s : State) : Prop where
  named : ∀ p o, (s.entryOf p).filling = some o → ∃ m, s.handleOf o.handle.slot = o.handle
    ∧ s.record o.handle.slot = some m ∧ m.custody = .filling ∧ m.entryPort = p
  carry : ∀ p, (s.entryOf p).filling = none → (s.entryOf p).spaceCarry = true
  filling : ∀ k m, s.record k = some m → m.custody = .filling →
    ∃ o, (s.entryOf m.entryPort).filling = some o ∧ o.handle = s.handleOf k

theorem State.entriesNamed_iff (s : State) : s.entriesNamed ↔ s.EntriesAgree := by
  constructor
  · rintro ⟨named, carry, filling⟩
    refine ⟨fun p o entry => ?_, carry, fun k m record custody => ?_⟩
    · obtain ⟨handle, there⟩ := named p o entry
      obtain ⟨m, record, both⟩ := (Option.any_eq_true _ _).mp there
      obtain ⟨custody, port⟩ := of_decide_eq_true both
      exact ⟨m, handle, record, custody, port⟩
    · exact Option.map_eq_some_iff.mp (filling k m record custody)
  · rintro ⟨named, carry, filling⟩
    refine ⟨fun p o entry => ?_, carry, fun k m record custody => Option.map_eq_some_iff.mpr (filling k m record custody)⟩
    obtain ⟨m, handle, record, custody, port⟩ := named p o entry
    exact ⟨handle, (Option.any_eq_true _ _).mpr ⟨m, record, decide_eq_true ⟨custody, port⟩⟩⟩

/-- The active handoffs, the stack records that are not revoked and the messages in custody name each other (R122, R123). -/
structure State.HandoffsAgree (s : State) : Prop where
  active : ∀ p a, (s.breakin p).active = some a → ∃ m d mark, s.handleOf a.handle.slot = a.handle
    ∧ s.record a.handle.slot = some m ∧ m.token = a.token ∧ m.custody = .handed p d mark
  stacked : ∀ p, ∀ r ∈ s.openRecords p, ∃ m mark, s.handleOf r.handle.slot = r.handle
    ∧ s.record r.handle.slot = some m ∧ m.token = r.token ∧ m.klass = r.klass
    ∧ m.custody = .suspended p r.leaseRemaining mark
  nodup : ∀ p, ((s.openRecords p).map (fun r => r.handle)).Nodup
  handed : ∀ k m p d mark, s.record k = some m → m.custody = .handed p d mark →
    (s.breakin p).active = some { handle := s.handleOf k, token := m.token }
  suspended : ∀ k m p d mark, s.record k = some m → m.custody = .suspended p d mark →
    ∃ r ∈ s.openRecords p, r.handle = s.handleOf k

/-- A HANDED message by its name and its holder. -/
theorem Custody.handed_iff (c : Custody) (p : Port) :
    c.name = .handed ∧ c.holder = some p ↔ ∃ d mark, c = .handed p d mark := by
  cases c <;> simp [Custody.name, Custody.holder]

/-- A SUSPENDED message by its name and its holder. -/
theorem Custody.suspended_iff (c : Custody) (p : Port) :
    c.name = .suspended ∧ c.holder = some p ↔ ∃ d mark, c = .suspended p d mark := by
  cases c <;> simp [Custody.name, Custody.holder]

theorem State.custodyKept_iff (s : State) : s.custodyKept ↔ s.HandoffsAgree := by
  constructor
  · rintro ⟨active, stacked, nodup, held⟩
    refine ⟨fun p a is => ?_, fun p r member => ?_, nodup, fun k m p d mark record custody => ?_,
      fun k m p d mark record custody => ?_⟩
    · obtain ⟨handle, there⟩ := active p a is
      obtain ⟨m, record, all⟩ := (Option.any_eq_true _ _).mp there
      simp only [Bool.and_eq_true, decide_eq_true_eq] at all
      obtain ⟨⟨token, name⟩, holder⟩ := all
      obtain ⟨d, mark, custody⟩ := (Custody.handed_iff ..).mp ⟨name, holder⟩
      exact ⟨m, d, mark, handle, record, token, custody⟩
    · obtain ⟨handle, there⟩ := stacked p r member
      obtain ⟨m, record, all⟩ := (Option.any_eq_true _ _).mp there
      simp only [Bool.and_eq_true, Bool.or_eq_true, decide_eq_true_eq] at all
      obtain ⟨⟨token, klass⟩, marked | unmarked⟩ := all
      · exact ⟨m, true, handle, record, token, klass, marked⟩
      · exact ⟨m, false, handle, record, token, klass, unmarked⟩
    · obtain ⟨handed, -⟩ := held k m record p (by rw [custody]; rfl)
      exact handed (by rw [custody]; rfl)
    · obtain ⟨-, suspended⟩ := held k m record p (by rw [custody]; rfl)
      exact List.mem_map.mp (suspended (by rw [custody]; rfl))
  · rintro ⟨active, stacked, nodup, handed, suspended⟩
    refine ⟨fun p a is => ?_, fun p r member => ?_, nodup, fun k m record p holder => ⟨fun name => ?_, fun name => ?_⟩⟩
    · obtain ⟨m, d, mark, handle, record, token, custody⟩ := active p a is
      refine ⟨handle, (Option.any_eq_true _ _).mpr ⟨m, record, ?_⟩⟩
      simp [token, custody, Custody.name, Custody.holder]
    · obtain ⟨m, mark, handle, record, token, klass, custody⟩ := stacked p r member
      refine ⟨handle, (Option.any_eq_true _ _).mpr ⟨m, record, ?_⟩⟩
      cases mark <;> simp [token, klass, custody]
    · obtain ⟨d, mark, custody⟩ := (Custody.handed_iff ..).mp ⟨name, holder⟩
      exact handed k m p d mark record custody
    · obtain ⟨d, mark, custody⟩ := (Custody.suspended_iff ..).mp ⟨name, holder⟩
      exact List.mem_map.mpr (suspended k m p d mark record custody)

section
variable {s : State}

/-- Two current handles of one slot are one handle. -/
theorem State.handle_eq_of_slot {h : Handle} {k : SlotNo} (current : s.handleOf h.slot = h) (slot : h.slot = k) :
    h = s.handleOf k := by
  rw [← slot, current]

/-- The handoffs of a port stand in different slots, those of the messages that it holds (R122, R123). -/
theorem State.HandoffsAgree.slots_handoffsOf (agree : s.HandoffsAgree) (p : Port) :
    ((s.handoffsOf p).map Handle.slot).Nodup
      ∧ ∀ k, k ∈ (s.handoffsOf p).map Handle.slot ↔ ∃ m, s.record k = some m ∧ m.custody.holder = some p := by
  have stack : (s.openRecords p).map (fun r => r.handle)
      = ((s.breakin p).stack.filter (fun r => !r.revoked)).map (fun r => r.handle) := rfl
  have slots : (s.handoffsOf p).map Handle.slot
      = ((s.breakin p).active.map (fun a => a.handle.slot)).toList
        ++ ((s.openRecords p).map (fun r => r.handle)).map Handle.slot := by
    rw [stack, State.handoffsOf, List.map_append]
    cases (s.breakin p).active <;> rfl
  have inStack : (((s.openRecords p).map (fun r => r.handle)).map Handle.slot).Nodup := by
    refine List.Nodup.map_on ?_ (agree.nodup p)
    intro x memberX y memberY same
    obtain ⟨r, member, rfl⟩ := List.mem_map.mp memberX
    obtain ⟨r', member', rfl⟩ := List.mem_map.mp memberY
    obtain ⟨-, -, handle, -⟩ := agree.stacked p r member
    obtain ⟨-, -, handle', -⟩ := agree.stacked p r' member'
    exact (State.handle_eq_of_slot handle same).trans handle'
  rw [slots]
  constructor
  · refine List.nodup_append.mpr ⟨?_, inStack, ?_⟩
    · cases (s.breakin p).active <;> simp
    · rintro k inActive j memberJ rfl
      obtain ⟨a, is, rfl⟩ : ∃ a, (s.breakin p).active = some a ∧ a.handle.slot = k := by
        cases is : (s.breakin p).active with
        | none => simp [is] at inActive
        | some a => exact ⟨a, rfl, by simpa [is, eq_comm] using inActive⟩
      obtain ⟨h, memberH, same⟩ := List.mem_map.mp memberJ
      obtain ⟨r, member, rfl⟩ := List.mem_map.mp memberH
      obtain ⟨m, d, mark, -, record, -, custody⟩ := agree.active p a is
      obtain ⟨n, mark', -, record', -, -, custody'⟩ := agree.stacked p r member
      rw [same, record] at record'
      cases record'
      rw [custody] at custody'
      cases custody'
  · intro k
    constructor
    · intro member
      obtain inActive | below := List.mem_append.mp member
      · cases is : (s.breakin p).active with
        | none => simp [is] at inActive
        | some a =>
          obtain ⟨m, d, mark, -, record, -, custody⟩ := agree.active p a is
          have same : k = a.handle.slot := by simpa [is] using inActive
          exact ⟨m, same ▸ record, by rw [custody]; rfl⟩
      · obtain ⟨h, memberH, rfl⟩ := List.mem_map.mp below
        obtain ⟨r, stacked, rfl⟩ := List.mem_map.mp memberH
        obtain ⟨m, mark, -, record, -, -, custody⟩ := agree.stacked p r stacked
        exact ⟨m, record, by rw [custody]; rfl⟩
    · rintro ⟨m, record, holder⟩
      cases custody : m.custody with
      | handed q d mark =>
        obtain rfl : q = p := by simpa [custody, Custody.holder] using holder
        rw [agree.handed k m q d mark record custody]
        exact List.mem_append_left _ (by simp [State.handleOf])
      | suspended q d mark =>
        obtain rfl : q = p := by simpa [custody, Custody.holder] using holder
        obtain ⟨r, member, handle⟩ := agree.suspended k m q d mark record custody
        refine List.mem_append_right _ (List.mem_map.mpr ⟨r.handle, List.mem_map.mpr ⟨r, member, rfl⟩, ?_⟩)
        rw [handle]
        rfl
      | _ => simp [custody, Custody.holder] at holder

end

end Sys2Proof.Machine
end

section
/-! The port reset (R26, R48, R81, R119, R140, R158, R169, R181, R182) and the warm reset (R25, R49, R82, R120, R141, R188). -/

namespace Sys2Proof.Machine

/-! ### What is left when a message is left -/

/-- From t to u only records, sticky flags, notices and what is pending have changed. -/
structure RecordsOnly (t u : State) : Prop where
  frame : u = { t with slots := u.slots, flags := u.flags, breakins := u.breakins, noticeQueues := u.noticeQueues }
  handling : ∀ q, u.handling q = t.handling q

theorem RecordsOnly.refl (t : State) : RecordsOnly t t := ⟨rfl, fun _ => rfl⟩

theorem RecordsOnly.trans {t u v : State} (first : RecordsOnly t u) (second : RecordsOnly u v) : RecordsOnly t v := by
  refine ⟨second.frame.trans ?_, fun q => (second.handling q).trans (first.handling q)⟩
  rw [first.frame]

theorem Aside.recordsOnly {t u : State} (aside : Aside t u) : RecordsOnly t u := by
  refine ⟨aside.frame.trans ?_, aside.handling⟩
  have slots : u.slots = t.slots := by rw [aside.frame]
  rw [slots]

/-- A message is left by the writing of its record, by notices and by a check. -/
theorem leftAs_aside (s : State) (k : SlotNo) (m : Message) : Aside (s.withRecord k m) (s.leftAs k m) := by
  have told : Aside (s.withRecord k m) ((s.withRecord k m).told m.watchers (stateChange s k m)) := .told ..
  unfold State.leftAs
  dsimp only
  split
  · exact told.trans (.told ..)
  all_goals
    split
    · refine Aside.trans ?_ (.breakInCheck ..)
      split
      · exact told.trans (.told ..)
      · exact told
    · exact told

theorem leftAs_recordsOnly (s : State) (k : SlotNo) (m : Message) : RecordsOnly s (s.leftAs k m) :=
  RecordsOnly.trans (u := s.withRecord k m) ⟨rfl, fun _ => rfl⟩ (leftAs_aside s k m).recordsOnly

theorem RecordsOnly.resolution {t u : State} (only : RecordsOnly t u) : u.resolution = t.resolution :=
  State.resolution_congr (by rw [only.frame]) (by rw [only.frame]) (by rw [only.frame]) (by rw [only.frame])

/-! ### The return of a port's handoffs (R119) -/

/-- A message on its way back to the queues at the reset of its holder (R119). -/
def Message.givenBack (p : Port) (now : Nat × (Nat → Option Port)) (m : Message) : Message :=
  returned now.1 p (now.2 m.area).isSome (Message.log now.1 (some p) .requeued { m with token := m.token + 1 })

theorem handedBack_recordsOnly (p : Port) (s : State) (h : Handle) : RecordsOnly s (s.handedBack p h) := by
  unfold State.handedBack
  split
  · exact .refl s
  · exact leftAs_recordsOnly ..

/-- The return of one handoff in the statement's terms (R119). -/
theorem returnAtReset_eq (p : Port) (s : State) (h : Handle) : returnAtReset p s h = s.handedBack p h := by
  unfold returnAtReset State.handedBack
  cases record : s.record h.slot with
  | none =>
    have still (f : Message → Message) : s.modRecord h.slot f = s := by
      have slots := State.slots_modRecord_of_fixed (s := s) (k := h.slot) (f := f)
        fun m some => absurd (some.symm.trans record) (by simp)
      rw [show s.modRecord h.slot f = { s with slots := (s.modRecord h.slot f).slots } from rfl, slots]
    simp only [still, returnToQueue, record]
  | some m =>
    have custody : (requeued s.seconds p m).custody = m.custody := Message.log_custody ..
    have area : (requeued s.seconds p m).area = m.area := Message.log_area ..
    rw [modRecord_eq_withRecord _ record, returnToQueue_eq p (State.record_withRecord_same ..),
      State.leftAs_withRecord record area (by rw [custody]), seconds_withRecord, State.resolve_withRecord, area]
    rfl

/-- The return of one handoff writes its own record. -/
theorem slot_handedBack (p : Port) (s : State) (k j : SlotNo) (inc : BitVec 4) :
    (s.handedBack p { slot := k, inc := inc }).slot j
      = if k = j then { s.slot j with record := (s.slot j).record.map (Message.givenBack p s.resolution) }
        else s.slot j := by
  have slots : (s.handedBack p { slot := k, inc := inc }).slots
      = (s.modRecord k (Message.givenBack p s.resolution)).slots := by
    unfold State.handedBack
    cases record : s.record k with
    | none => exact (State.slots_modRecord_of_fixed fun m some => absurd (some.symm.trans record) (by simp)).symm
    | some m =>
      rw [modRecord_eq_withRecord _ record]
      exact slots_leftAs ..
  rw [State.slot, slots]
  exact State.slot_modSlot ..

/-- The return of several handoffs in different slots writes the records of those slots. -/
theorem slot_foldl_handedBack (p : Port) {hs : List Handle} (nodup : (hs.map Handle.slot).Nodup) (s : State) (j : SlotNo) :
    (hs.foldl (State.handedBack p) s).slot j
      = if j ∈ hs.map Handle.slot then
          { s.slot j with record := (s.slot j).record.map (Message.givenBack p s.resolution) }
        else s.slot j := by
  have each (s : State) (h : Handle) : s.handedBack p h = s.handedBack p { slot := h.slot, inc := 0 } := rfl
  have bySlot : hs.foldl (State.handedBack p) s
      = (hs.map Handle.slot).foldl (fun s k => s.handedBack p { slot := k, inc := 0 }) s := by
    rw [List.foldl_map]
    rfl
  rw [bySlot]
  exact foldl_slot (env := State.resolution)
    (g := fun now x => { x with record := x.record.map (Message.givenBack p now) })
    (fun s k => (handedBack_recordsOnly p s _).resolution) (fun s k j => slot_handedBack p s k j 0) nodup s j

theorem foldl_handedBack_recordsOnly (p : Port) (hs : List Handle) (s : State) :
    RecordsOnly s (hs.foldl (State.handedBack p) s) := by
  induction hs generalizing s with
  | nil => exact .refl s
  | cons h hs ih => exact (handedBack_recordsOnly p s h).trans (ih _)

theorem State.Quiet.handedBack {s : State} {q : Port} (quiet : s.Quiet q) (p : Port) (h : Handle) :
    (s.handedBack p h).Quiet q := by
  unfold State.handedBack
  split
  · exact quiet
  · exact quiet.leftAs ..

theorem State.Quiet.foldl_handedBack {s : State} {q : Port} (quiet : s.Quiet q) (p : Port) (hs : List Handle) :
    (hs.foldl (State.handedBack p) s).Quiet q := by
  induction hs generalizing s with
  | nil => exact quiet
  | cons h hs ih => exact ih (quiet.handedBack p h)

/-- The return of a port's handoffs in the statement's terms (R119). -/
theorem returnHandoffs_eq (p : Port) (s : State) :
    returnHandoffs p s = ((s.handoffsOf p).foldl (State.handedBack p)
      (s.modBreakin p (fun _ => BreakIn.cleared))).fencesSettled s.outstanding := by
  rw [← settleFences_eq, ← show returnAtReset p = State.handedBack p from funext₂ (returnAtReset_eq p)]
  rfl

/-! ### The end of a port's entry at a reset (R48, R49) -/

section
variable {s : State}

/-- The message in slot k is FILLING on port p. -/
def State.FillsOn (s : State) (p : Port) (k : SlotNo) : Prop :=
  ∃ m, s.record k = some m ∧ m.custody = .filling ∧ m.entryPort = p

/-- The end of p's entry, by what the entry context names. -/
theorem entryAbandoned_cases (agree : s.EntriesAgree) (p : Port) :
    (∃ k m, s.record k = some m ∧ m.custody = .filling ∧ m.entryPort = p
        ∧ s.entryAbandoned p = (s.withoutRecord k m).withoutEntry p)
      ∨ (∀ k, ¬ s.FillsOn p k) ∧ s.entryAbandoned p = s.withoutEntry p := by
  unfold State.entryAbandoned
  cases entry : (s.entryOf p).filling with
  | none =>
    refine .inr ⟨?_, rfl⟩
    rintro k ⟨m, record, custody, rfl⟩
    obtain ⟨o, open_, -⟩ := agree.filling k m record custody
    rw [entry] at open_
    cases open_
  | some o =>
    obtain ⟨m, -, record, custody, port⟩ := agree.named p o entry
    exact .inl ⟨o.handle.slot, m, record, custody, port, by simp only [record]⟩

/-- One message at the most is FILLING on a port (R27). -/
theorem State.EntriesAgree.fillsOn_unique (agree : s.EntriesAgree) {p : Port} {j k : SlotNo} (first : s.FillsOn p j)
    (second : s.FillsOn p k) : j = k := by
  obtain ⟨m, recordM, custodyM, portM⟩ := first
  obtain ⟨n, recordN, custodyN, portN⟩ := second
  obtain ⟨o, entry, handle⟩ := agree.filling j m recordM custodyM
  obtain ⟨o', entry', handle'⟩ := agree.filling k n recordN custodyN
  rw [portM] at entry
  rw [portN, entry, Option.some.injEq] at entry'
  subst entry'
  exact congrArg Handle.slot (handle.symm.trans handle')

theorem slot_entryAbandoned (agree : s.EntriesAgree) (p : Port) (k : SlotNo) :
    (s.FillsOn p k → (s.entryAbandoned p).slot k = { inc := (s.slot k).inc + 1, record := none })
      ∧ (¬ s.FillsOn p k → (s.entryAbandoned p).slot k = s.slot k) := by
  obtain ⟨j, m, record, custody, port, eq⟩ | ⟨none, eq⟩ := entryAbandoned_cases agree p
  · have slot : (s.entryAbandoned p).slot k
        = if j = k then { inc := (s.slot k).inc + 1, record := none } else s.slot k := by
      rw [eq]
      exact State.slot_withoutRecord s j k m
    have fills : s.FillsOn p j := ⟨m, record, custody, port⟩
    rw [slot]
    constructor
    · intro also
      rw [if_pos (agree.fillsOn_unique fills also)]
    · intro other
      exact if_neg fun (same : j = k) => other (same ▸ fills)
  · rw [eq]
    exact ⟨fun fills => absurd fills (none k), fun _ => rfl⟩

/-- A handle that is not in the list stays out of it. -/
theorem filter_of_not_mem {hs : List Handle} {h : Handle} (out : h ∉ hs) :
    hs.filter (fun x => !decide (x = h)) = hs := by
  refine List.filter_eq_self.mpr fun x member => ?_
  have other : x ≠ h := fun same => out (same ▸ member)
  simp [other]

/-- The handle of a record that is neither DISPOSED nor VOID is not on the retained list (R53). -/
theorem not_mem_retained {k : SlotNo} {m : Message} (listed : s.retainedListed) (record : s.record k = some m)
    (not : Message.retainedRecord m = false) : s.handleOf k ∉ s.retained := by
  obtain ⟨-, -, exactly⟩ := listed
  intro member
  have is := (exactly k).mp member
  rw [record, Option.any_some, not] at is
  cases is

theorem retained_entryAbandoned (agree : s.EntriesAgree) (listed : s.retainedListed) (p : Port) :
    (s.entryAbandoned p).retained = s.retained := by
  obtain ⟨j, m, record, custody, -, eq⟩ | ⟨-, eq⟩ := entryAbandoned_cases agree p
  · rw [eq]
    exact filter_of_not_mem (not_mem_retained listed record (by rw [Message.retainedRecord, custody]))
  · rw [eq]
    rfl

theorem segmentsKept_entryAbandoned (kept : s.segmentsKept) (p : Port) : (s.entryAbandoned p).segmentsKept := by
  rw [← abandonEntry_eq]
  unfold abandonEntry
  split
  · exact kept
  · exact segmentsKept_freeSlot _ kept

theorem entryAbandoned_frame (s : State) (p : Port) :
    s.entryAbandoned p = { s with
      slots := (s.entryAbandoned p).slots, freeSegments := (s.entryAbandoned p).freeSegments
      retained := (s.entryAbandoned p).retained, entries := vmod s.entries p (fun _ => EntryContext.closed) } := by
  unfold State.entryAbandoned
  split
  · rfl
  · split <;> rfl

end

/-- The pool keeps its count where no record's segments change. -/
theorem State.segmentsKept_of_same {s t : State} (kept : s.segmentsKept) (free : t.freeSegments = s.freeSegments)
    (same : ∀ k, t.slotSegments k = s.slotSegments k) : t.segmentsKept := by
  rw [State.segmentsKept_iff] at kept ⊢
  rw [free, show t.slotSegments = s.slotSegments from funext same]
  exact kept

/-! ### What a reset leaves of a message -/

theorem Message.content_unplaced (now : Nat) (p : Port) (resolves : Bool) (m : Message) :
    (m.unplaced now p resolves).content = m.content := by
  unfold Message.unplaced
  split
  · exact Message.content_log ..
  · rfl

theorem Message.content_replaced (now : Nat) (p : Port) (resolves : Bool) (m : Message) :
    (m.replaced now p resolves).content = m.content := by
  have upgraded : (Message.applyUpgrade m).content = m.content := Message.content_applyUpgrade m
  unfold Message.replaced
  split
  · split
    · exact (Message.content_log ..).trans ((Message.content_log ..).trans upgraded)
    · exact (Message.content_log ..).trans upgraded
  · rfl

@[simp] theorem content_rerouted (now : Nat) (p : Port) (resolves : Bool) (m : Message) :
    (rerouted now p resolves m).content = m.content := by
  rw [rerouted_eq, Message.content_replaced, Message.content_unplaced]
  rfl

/-- The segments of a message are part of its content. -/
theorem Message.segments_of_content {m n : Message} (same : n.content = m.content) : n.segments = m.segments :=
  Message.view_of_content Message.segments same

theorem afterPortReset_segments (now : Nat) (p : Port) (linkUp resolves : Bool) (m : Message) :
    (afterPortReset now p linkUp resolves m).segments = m.segments := by
  have before : (if linkUp then m else rerouted now p resolves m).segments = m.segments := by
    split
    · rfl
    · exact Message.segments_of_content (content_rerouted ..)
  unfold afterPortReset
  simp only
  generalize (if linkUp then m else rerouted now p resolves m) = n at before
  change Message.segments (if _ then _ else _) = _
  split
  · rw [Message.segments_of_content (content_returned ..), Message.segments_of_content (Message.content_log ..), ← before]
    rfl
  · exact before

/-! ### The port reset, step by step -/

section
variable (p : Port) (s : State)

/-- The part once p's exchange and p's entry are cleared (R48, R182). -/
def State.portSilenced : State :=
  (s.modPort p (fun x =>
    { x with
      exchangeState := .idle, lastDelivered := none, requestOverrun := false, exchange := none
      resetLine := true })).entryAbandoned p

/-- The part once p's enable is off, no break-in is pending there and its fence is cleared (R81, R140). -/
def State.portDisarmed : State :=
  { (s.portSilenced p).modBreakin p (fun b => { b with enable := false, pending := none }) with
    fences := vmod s.fences p (fun _ => false) }

/-- The part once p's link is UP (R81). -/
def State.portLinked : State :=
  if s.links.get p then s.portDisarmed p
  else (s.portDisarmed p).rerouting p { s.portDisarmed p with links := vmod s.links p (fun _ => true) }

/-- The part once p's handoffs are returned (R119). -/
def State.portReturned : State :=
  ((s.handoffsOf p).foldl (State.handedBack p) ((s.portLinked p).modBreakin p (fun _ => BreakIn.cleared))).fencesSettled
    (s.portLinked p).outstanding

/-- The part after the port reset (R182). -/
def State.portReset : State :=
  { s.portReturned p with
    slots := vmap (fun x => { x with record := x.record.map (fun m =>
      { m with watchers := m.watchers.set p.val false p.isLt }) }) (s.portReturned p).slots
    noticeQueues := vmod (s.portReturned p).noticeQueues p (fun _ => NoticeQueue.empty)
    flags := s.flags }

end

section
variable {p : Port} {s : State}

theorem portDisarmed_frame :
    s.portDisarmed p = { s with
      ports := vmod s.ports p (fun x =>
        { x with
          exchangeState := .idle, lastDelivered := none, requestOverrun := false, exchange := none, resetLine := true })
      entries := vmod s.entries p (fun _ => EntryContext.closed)
      breakins := vmod s.breakins p (fun b => { b with enable := false, pending := none })
      fences := vmod s.fences p (fun _ => false)
      slots := (s.portSilenced p).slots, freeSegments := (s.portSilenced p).freeSegments
      retained := (s.portSilenced p).retained } := by
  have frame : s.portSilenced p = _ := entryAbandoned_frame ..
  unfold State.portDisarmed State.modBreakin
  rw [frame]
  rfl

/-- Writing what stands changes nothing. -/
theorem vmod_same {α : Type} {n : Nat} {v : Vector α n} {i : Fin n} {a : α} (is : v.get i = a) :
    vmod v i (fun _ => a) = v := by
  apply vector_ext
  intro j
  rw [get_vmod]
  split
  · next same => subst same; exact is.symm
  · rfl

/-- The raising of p's link changes records, sticky flags, notices and what is pending. -/
theorem portLinked_recordsOnly :
    RecordsOnly { s.portDisarmed p with links := vmod s.links p (fun _ => true) } (s.portLinked p) := by
  have links : (s.portDisarmed p).links = s.links := by rw [portDisarmed_frame]
  unfold State.portLinked
  cases up : s.links.get p with
  | true =>
    rw [if_pos rfl, vmod_same up, ← links]
    exact RecordsOnly.refl _
  | false =>
    rw [if_neg (by simp)]
    refine RecordsOnly.trans ?_ (rerouting_aside ⟨rfl⟩).recordsOnly
    exact ⟨rfl, fun _ => rfl⟩

/-- What the return of p's handoffs leaves (R119). -/
theorem portReturned_frame :
    s.portReturned p = { s.portLinked p with
      slots := (s.portReturned p).slots, flags := (s.portReturned p).flags, breakins := (s.portReturned p).breakins
      fences := (s.portReturned p).fences, noticeQueues := (s.portReturned p).noticeQueues } := by
  obtain ⟨slots, flags, breakins, queues, returned⟩ : ∃ slots flags breakins queues,
      (s.handoffsOf p).foldl (State.handedBack p) ((s.portLinked p).modBreakin p (fun _ => BreakIn.cleared))
        = { s.portLinked p with slots := slots, flags := flags, breakins := breakins, noticeQueues := queues } :=
    ⟨_, _, _, _, (foldl_handedBack_recordsOnly p (s.handoffsOf p) _).frame⟩
  obtain ⟨fences, queues', settled⟩ : ∃ fences queues', s.portReturned p
      = { (s.handoffsOf p).foldl (State.handedBack p) ((s.portLinked p).modBreakin p (fun _ => BreakIn.cleared)) with
        fences := fences, noticeQueues := queues' } :=
    ⟨_, _, (settleFences_eq ..).symm.trans (settleFences_frame ..)⟩
  rw [settled, returned]

theorem raiseLink_eq : raiseLink p s
    = if s.links.get p then s else s.rerouting p { s with links := vmod s.links p (fun _ => true) } := by
  unfold raiseLink
  rw [← routingEffects_eq ⟨rfl⟩]
  rfl

/-- The port reset in the statement's terms. -/
theorem resetPort_eq : resetPort p s = s.portReset p := by
  have disarmed : (s.portDisarmed p).links = s.links := by rw [portDisarmed_frame]
  have linked : raiseLink p (s.portDisarmed p) = s.portLinked p := by
    rw [raiseLink_eq, disarmed]
    rfl
  have handoffs : (s.portLinked p).handoffsOf p = s.handoffsOf p := by
    have first : (s.portLinked p).handling p = (s.portDisarmed p).handling p := portLinked_recordsOnly.handling p
    have second : (s.portDisarmed p).breakin p = { s.breakin p with enable := false, pending := none } := by
      rw [portDisarmed_frame]
      exact (get_vmod ..).trans (if_pos rfl)
    have active : ((s.portLinked p).breakin p).active = (s.breakin p).active :=
      (congrArg BreakIn.active first).trans (by rw [State.handling, second])
    have stack : ((s.portLinked p).breakin p).stack = (s.breakin p).stack :=
      (congrArg BreakIn.stack first).trans (by rw [State.handling, second])
    rw [State.handoffsOf, active, stack]
    rfl
  have returned : returnHandoffs p (s.portLinked p) = s.portReturned p := by
    rw [returnHandoffs_eq, handoffs]
    rfl
  have silenced : abandonEntry p (s.modPort p (fun x => { resetStationPort x with resetLine := true })) = s.portSilenced p :=
    abandonEntry_eq ..
  have fences : (s.portSilenced p).fences = s.fences := by
    unfold State.portSilenced
    rw [entryAbandoned_frame]
    rfl
  have disarm : { (s.portSilenced p).modBreakin p (fun b => { b with enable := false, pending := none }) with
      fences := vmod (s.portSilenced p).fences p (fun _ => false) } = s.portDisarmed p := by
    rw [fences]
    rfl
  unfold resetPort
  dsimp only
  rw [silenced]
  refine Eq.trans (congrArg (fun t => { (unwatch p (returnHandoffs p (raiseLink p t))).modNoticeQueue p
    (fun _ => NoticeQueue.empty) with flags := s.flags }) disarm) ?_
  dsimp only
  rw [linked, returned]
  rfl

/-- What the port reset leaves but for the records, the pool and the retained list. -/
theorem portReset_frame :
    s.portReset p = { s with
      slots := (s.portReset p).slots, freeSegments := (s.portReset p).freeSegments
      retained := (s.portReset p).retained, breakins := (s.portReset p).breakins, fences := (s.portReset p).fences
      noticeQueues := (s.portReset p).noticeQueues
      ports := vmod s.ports p (fun x =>
        { x with
          exchangeState := .idle, lastDelivered := none, requestOverrun := false, exchange := none, resetLine := true })
      entries := vmod s.entries p (fun _ => { filling := none, spaceCarry := true })
      links := vmod s.links p (fun _ => true) } := by
  obtain ⟨v, f, b, q, linked⟩ : ∃ v f b q, s.portLinked p = { s.portDisarmed p with
      links := vmod s.links p (fun _ => true), slots := v, flags := f, breakins := b, noticeQueues := q } :=
    ⟨_, _, _, _, portLinked_recordsOnly.frame⟩
  obtain ⟨v', f', b', fe, q', returned⟩ : ∃ v f b fe q, s.portReturned p = { s.portLinked p with
      slots := v, flags := f, breakins := b, fences := fe, noticeQueues := q } := ⟨_, _, _, _, _, portReturned_frame⟩
  unfold State.portReset
  rw [returned, linked, portDisarmed_frame]
  rfl

/-- The pool and the retained list change with p's entry alone. -/
theorem portReset_pool : (s.portReset p).freeSegments = (s.portSilenced p).freeSegments
    ∧ (s.portReset p).retained = (s.portSilenced p).retained := by
  obtain ⟨v, f, b, q, linked⟩ : ∃ v f b q, s.portLinked p = { s.portDisarmed p with
      links := vmod s.links p (fun _ => true), slots := v, flags := f, breakins := b, noticeQueues := q } :=
    ⟨_, _, _, _, portLinked_recordsOnly.frame⟩
  obtain ⟨v', f', b', fe, q', returned⟩ : ∃ v f b fe q, s.portReturned p = { s.portLinked p with
      slots := v, flags := f, breakins := b, fences := fe, noticeQueues := q } := ⟨_, _, _, _, _, portReturned_frame⟩
  unfold State.portReset
  rw [returned, linked]
  exact ⟨rfl, rfl⟩

/-- p's break-in state is cleared, and every other port's stands but for what is pending (R140). -/
theorem portReset_breakin (q : Port) :
    (q = p → (s.portReset p).breakin q = BreakIn.cleared)
      ∧ (q ≠ p → (s.portReset p).handling q = s.handling q) := by
  have settled : (s.portReset p).breakin q = ((s.handoffsOf p).foldl (State.handedBack p)
      ((s.portLinked p).modBreakin p (fun _ => BreakIn.cleared))).breakin q := by
    change (State.fencesSettled _ _).breakin q = _
    rw [← settleFences_eq, settleFences_frame]
    rfl
  have returned := (foldl_handedBack_recordsOnly p (s.handoffsOf p)
    ((s.portLinked p).modBreakin p (fun _ => BreakIn.cleared))).handling q
  constructor
  · rintro rfl
    have cleared : ((s.portLinked q).modBreakin q (fun _ => BreakIn.cleared)).breakin q = BreakIn.cleared :=
      State.breakin_modBreakin_same ..
    have start : State.Quiet ((s.portLinked q).modBreakin q (fun _ => BreakIn.cleared)) q := by
      unfold State.Quiet
      rw [cleared]
      exact ⟨rfl, rfl⟩
    obtain ⟨-, pending⟩ := start.foldl_handedBack q (s.handoffsOf q)
    rw [State.handling_eq_iff, cleared, pending] at returned
    exact settled.trans returned
  · intro other
    have here : ((s.portLinked p).modBreakin p (fun _ => BreakIn.cleared)).breakin q = (s.portLinked p).breakin q :=
      (State.breakin_modBreakin ..).trans (if_neg (Ne.symm other))
    have linked := (portLinked_recordsOnly (p := p) (s := s)).handling q
    have disarmed : (s.portDisarmed p).breakin q = s.breakin q := by
      rw [portDisarmed_frame]
      exact (get_vmod ..).trans (if_neg (Ne.symm other))
    unfold State.handling at returned linked ⊢
    rw [settled, returned, here, linked, ← disarmed]
    rfl

/-- A record before the returns of the port reset: the routing change where there is one (R81). -/
theorem portLinked_slot (k : SlotNo) :
    (s.portLinked p).slot k = { (s.portSilenced p).slot k with
      record := ((s.portSilenced p).slot k).record.map (fun m =>
        if s.links.get p then m
        else rerouted s.seconds p
          (({ s with links := vmod s.links p (fun _ => true) } : State).resolve m.area).isSome m) } := by
  have links : (s.portDisarmed p).links = s.links := by rw [portDisarmed_frame]
  have slots : (s.portDisarmed p).slots = (s.portSilenced p).slots := rfl
  have same (x : Slot) : x = { x with record := x.record.map (fun m => m) } := by
    cases x with | mk inc record => cases record <;> rfl
  unfold State.portLinked
  cases up : s.links.get p with
  | true =>
    rw [if_pos rfl, State.slot, slots]
    exact same _
  | false =>
    rw [if_neg (by simp), State.slot, (rerouting_aside ⟨rfl⟩).frame]
    have resolve (area : Nat) : (setLink p true (s.portDisarmed p)).resolve area = (setLink p true s).resolve area := by
      apply State.resolve_congr
      · rw [setLink, portDisarmed_frame]
        rfl
      · rw [setLink, portDisarmed_frame]
        rfl
      · rw [setLink, links]
        rfl
    have now : (s.portDisarmed p).seconds = s.seconds := by rw [portDisarmed_frame]
    have raised : { s.portDisarmed p with links := vmod s.links p (fun _ => true) } = setLink p true (s.portDisarmed p) := by
      rw [setLink, links]
    rw [raised]
    have each (m : Message) : (s.portDisarmed p).changed (setLink p true (s.portDisarmed p)) p m
        = if false = true then m else rerouted s.seconds p ((setLink p true s).resolve m.area).isSome m := by
      rw [State.changed, resolve, now, if_neg (by simp)]
    refine (get_vmap ..).trans ?_
    exact congrArg (fun f : Message → Message =>
      { (s.portSilenced p).slot k with record := ((s.portSilenced p).slot k).record.map f }) (funext each)

/-- A routing change leaves the area and the holder of a message. -/
theorem rerouted_area (now : Nat) (p : Port) (resolves : Bool) (m : Message) :
    (rerouted now p resolves m).area = m.area := Message.view_of_content Message.area (content_rerouted ..)

/-- The message in slot k of s after the port reset of p, by whether the slot is among those that p's handoffs name. -/
def Message.throughPortReset (p : Port) (s : State) (k : SlotNo) (m : Message) : Message :=
  let resolves := ((setLink p true s).resolve m.area).isSome
  let m₁ := if s.links.get p then m else rerouted s.seconds p resolves m
  let m₂ := if k ∈ (s.handoffsOf p).map Handle.slot then m₁.givenBack p (setLink p true s).resolution else m₁
  { m₂ with watchers := m₂.watchers.set p.val false p.isLt }

/-- A record after the port reset, from what it was once p's entry had ended (R81, R119, R158). -/
theorem portReset_slot (agree : s.HandoffsAgree) (k : SlotNo) :
    (s.portReset p).slot k = { (s.portSilenced p).slot k with
      record := ((s.portSilenced p).slot k).record.map (Message.throughPortReset p s k) } := by
  obtain ⟨nodup, -⟩ := agree.slots_handoffsOf p
  have unwatched : (s.portReset p).slot k = { (s.portReturned p).slot k with
      record := ((s.portReturned p).slot k).record.map (fun m =>
        { m with watchers := m.watchers.set p.val false p.isLt }) } := get_vmap ..
  have settled : (s.portReturned p).slot k = ((s.handoffsOf p).foldl (State.handedBack p)
      ((s.portLinked p).modBreakin p (fun _ => BreakIn.cleared))).slot k := by
    unfold State.portReturned State.slot
    rw [slots_fencesSettled]
  have returned : (s.portReturned p).slot k
      = if k ∈ (s.handoffsOf p).map Handle.slot then
          { (s.portLinked p).slot k with
            record := ((s.portLinked p).slot k).record.map (Message.givenBack p (s.portLinked p).resolution) }
        else (s.portLinked p).slot k := by
    rw [settled, slot_foldl_handedBack p nodup]
    rfl
  have now : (s.portLinked p).resolution = (setLink p true s).resolution := by
    rw [portLinked_recordsOnly.resolution]
    apply State.resolution_congr <;> rw [portDisarmed_frame] <;> rfl
  rw [unwatched, returned, portLinked_slot, now]
  unfold Message.throughPortReset
  split
  · simp only [Option.map_map]
    rfl
  · simp only [Option.map_map]
    rfl

/-- A message that stands at the port reset is as the statement has it (R81, R119, R158). -/
theorem Message.throughPortReset_eq (agree : s.HandoffsAgree) {k : SlotNo} {m : Message} (record : s.record k = some m) :
    m.throughPortReset p s k = afterPortReset s.seconds p (s.links.get p) ((setLink p true s).resolve m.area).isSome m := by
  obtain ⟨-, member⟩ := agree.slots_handoffsOf p
  have held : k ∈ (s.handoffsOf p).map Handle.slot ↔ m.custody.holder = some p := by
    rw [member]
    exact ⟨fun ⟨n, there, holder⟩ => Option.some.inj (record.symm.trans there) ▸ holder, fun holder => ⟨m, record, holder⟩⟩
  have area : (if s.links.get p then m else rerouted s.seconds p ((setLink p true s).resolve m.area).isSome m).area
      = m.area := by
    split
    · rfl
    · exact rerouted_area ..
  unfold Message.throughPortReset Message.givenBack afterPortReset
  dsimp only
  rw [area]
  simp only [held]
  rfl

/-- The entries of a part with another port state. -/
theorem State.EntriesAgree.modPort (agree : s.EntriesAgree) (f : StationPort → StationPort) :
    (s.modPort p f).EntriesAgree := ⟨agree.named, agree.carry, agree.filling⟩

theorem portSilenced_retained (agree : s.EntriesAgree) (listed : s.retainedListed) :
    (s.portSilenced p).retained = s.retained :=
  retained_entryAbandoned (s := s.modPort p _) (agree.modPort _) listed p

/-- The slot of p's entry is freed, every other stands (R48). -/
theorem portSilenced_slot (agree : s.EntriesAgree) (k : SlotNo) :
    (s.FillsOn p k → (s.portSilenced p).slot k = { inc := (s.slot k).inc + 1, record := none })
      ∧ (¬ s.FillsOn p k → (s.portSilenced p).slot k = s.slot k) :=
  slot_entryAbandoned (s := s.modPort p _) (agree.modPort _) p k

theorem portReset_slot_of_filling (entries : s.EntriesAgree) (handoffs : s.HandoffsAgree) {k : SlotNo}
    (fills : s.FillsOn p k) : (s.portReset p).slot k = { inc := (s.slot k).inc + 1, record := none } := by
  rw [portReset_slot handoffs, (portSilenced_slot entries k).1 fills]
  rfl

theorem portReset_slot_of_empty (entries : s.EntriesAgree) (handoffs : s.HandoffsAgree) {k : SlotNo}
    (empty : s.record k = none) : (s.portReset p).slot k = s.slot k := by
  have not : ¬ s.FillsOn p k := fun ⟨m, record, _⟩ => absurd (record.symm.trans empty) (by simp)
  have slot : (s.slot k).record = none := empty
  rw [portReset_slot handoffs, (portSilenced_slot entries k).2 not, slot, Option.map_none, ← slot]

theorem portReset_slot_of_record (entries : s.EntriesAgree) (handoffs : s.HandoffsAgree) {k : SlotNo} {m : Message}
    (record : s.record k = some m) (stands : ¬ (m.custody = .filling ∧ m.entryPort = p)) :
    (s.portReset p).slot k = { s.slot k with
      record := some (afterPortReset s.seconds p (s.links.get p) ((setLink p true s).resolve m.area).isSome m) } := by
  have not : ¬ s.FillsOn p k := by
    rintro ⟨n, there, fills⟩
    obtain rfl : m = n := Option.some.inj (record.symm.trans there)
    exact stands fills
  have slot : (s.slot k).record = some m := record
  rw [portReset_slot handoffs, (portSilenced_slot entries k).2 not, slot, Option.map_some,
    Message.throughPortReset_eq handoffs record]

/-- The port reset keeps the count of the pool (R52, R54). -/
theorem portReset_segmentsKept (sound : s.storeSound) : (s.portReset p).segmentsKept := by
  have entries := (State.entriesNamed_iff s).mp sound.entries
  have handoffs := (State.custodyKept_iff s).mp sound.custody
  have silenced : (s.portSilenced p).segmentsKept := segmentsKept_entryAbandoned (s := s.modPort p _) sound.segments p
  refine State.segmentsKept_of_same silenced portReset_pool.1 fun k => ?_
  have after := congrArg Slot.record (portReset_slot (p := p) handoffs k)
  cases before : (s.portSilenced p).record k with
  | none =>
    have same : ((s.portSilenced p).slot k).record = none := before
    rw [same] at after
    rw [State.slotSegments_of_empty before, State.slotSegments_of_empty after]
  | some m =>
    have same : ((s.portSilenced p).slot k).record = some m := before
    rw [same] at after
    have stands : s.record k = some m := by
      by_cases fills : s.FillsOn p k
      · rw [(portSilenced_slot entries k).1 fills] at same
        cases same
      · rw [(portSilenced_slot entries k).2 fills] at same
        exact same
    rw [State.slotSegments_of_record before, State.slotSegments_of_record after,
      Message.throughPortReset_eq handoffs stands, afterPortReset_segments]

/-- p's fence is not pending after the port reset (R81). -/
theorem portReset_fence : (s.portReset p).fences.get p = false := by
  have cleared : ((s.handoffsOf p).foldl (State.handedBack p)
      ((s.portLinked p).modBreakin p (fun _ => BreakIn.cleared))).fences.get p = false := by
    rw [(foldl_handedBack_recordsOnly p (s.handoffsOf p) _).frame]
    change (s.portLinked p).fences.get p = false
    rw [portLinked_recordsOnly.frame]
    exact (get_vmod ..).trans (if_pos rfl)
  change (State.fencesSettled _ _).fences.get p = false
  unfold State.fencesSettled
  split
  · simp [Vector.get_eq_getElem]
  · exact cleared

/-- Settles O52: the reset is the sequence of the blocks' resets; in a sound store the entry's message and the handoffs of p are
the FILLING message on p and the messages in p's custody. -/
theorem portResetClearsThePort : Obligations.PortResetClearsThePort := by
  intro p s supply
  have exec_eq : exec (.portReset p) s = .next (assertPortReset p s) := whenPowered_of_supply supply (assertPortReset p)
  refine ⟨fun line => ?asserted, fun line taken => ?released⟩
  case asserted => rw [exec_eq, assertPortReset, if_pos line]
  case released =>
    intro s₁ s₂ s₃ handles s₄ u
    have whole : u = s.portReset p := rfl
    obtain ⟨entryTaken, leaseTaken, deadlineTaken⟩ := taken
    have ticks : takeTicks s = s := takeTicks_of_taken entryTaken leaseTaken deadlineTaken
    have frame := portReset_frame (p := p) (s := s)
    obtain ⟨pool, list⟩ := portReset_pool (p := p) (s := s)
    rw [whole]
    refine ⟨?_, ?_, ?_, (portReset_breakin p).1 rfl, ?_, ?fence, ?notices, fun q other => ?_, ?_, fun sound => ?store⟩
    · rw [exec_eq, assertPortReset, if_neg (by simp [line]), ticks, resetPort_eq]
    · rw [frame]
    · rw [frame]
    · rw [frame]
    case fence => exact portReset_fence
    case notices => exact (get_vmod ..).trans (if_pos rfl)
    · exact (State.handling_eq_iff ..).mp ((portReset_breakin q).2 other)
    · obtain ⟨v, n, r, b, f, q, o, e, l, at_once⟩ : ∃ v n r b f q o e l, s.portReset p = { s with
          slots := v, freeSegments := n, retained := r, breakins := b, fences := f, noticeQueues := q
          ports := o, entries := e, links := l } := ⟨_, _, _, _, _, _, _, _, _, frame⟩
      rw [at_once]
    case store =>
      have entries := (State.entriesNamed_iff s).mp sound.entries
      have handoffs := (State.custodyKept_iff s).mp sound.custody
      refine ⟨list.trans (portSilenced_retained entries sound.retained), portReset_segmentsKept sound, fun k => ?_⟩
      cases record : s.record k with
      | none => exact portReset_slot_of_empty entries handoffs record
      | some m =>
        by_cases fills : m.custody = .filling ∧ m.entryPort = p
        · exact (portReset_slot_of_filling entries handoffs ⟨m, record, fills⟩).trans (if_pos fills).symm
        · exact (portReset_slot_of_record entries handoffs record fills).trans (if_neg fills).symm

end

end Sys2Proof.Machine
end

section
/-! The laws of the store by what each slot shows: whose it is, whether it is retained, who fills it. A law of the store reads
the records through these views alone, so a change that leaves a view leaves its law, and each change of a view has one
lemma (R27, R28, R53, R122, R123). -/

namespace Sys2Proof.Machine

/-! ### The views -/

/-- In whose custody a message is: the holder and the token, and for a SUSPENDED one its class and the lease it has left. -/
def Message.grip (m : Message) : Option (Port × Byte × Option (Class × Nat)) :=
  match m.custody with
  | .handed p _ _ => some (p, m.token, none)
  | .suspended p r _ => some (p, m.token, some (m.klass, r))
  | .filling | .queued | .held _ | .disposed _ _ | .void => none

/-- The port on which a message is FILLING. -/
def Message.fills (m : Message) : Option Port := if m.custody = .filling then some m.entryPort else none

/-- The grip on the message of a slot. -/
def State.gripAt (s : State) (k : SlotNo) : Option (Port × Byte × Option (Class × Nat)) := (s.record k).bind Message.grip

/-- The record of a slot is DISPOSED or VOID. -/
def State.retainedAt (s : State) (k : SlotNo) : Bool := (s.record k).any Message.retainedRecord

/-- The port on which the message of a slot is FILLING. -/
def State.fillsAt (s : State) (k : SlotNo) : Option Port := (s.record k).bind Message.fills

theorem Message.grip_handed_iff {m : Message} {p : Port} {token : Byte} :
    m.grip = some (p, token, none) ↔ (∃ d mark, m.custody = .handed p d mark) ∧ m.token = token := by
  unfold Message.grip
  cases m.custody <;> simp

theorem Message.grip_suspended_iff {m : Message} {p : Port} {token : Byte} {c : Class} {r : Nat} :
    m.grip = some (p, token, some (c, r)) ↔ (∃ mark, m.custody = .suspended p r mark) ∧ m.token = token ∧ m.klass = c := by
  unfold Message.grip
  cases m.custody with
  | suspended q r' mark => simp only [Option.some.injEq, Prod.mk.injEq, Custody.suspended.injEq]; grind
  | _ => simp

theorem Message.fills_eq_some_iff {m : Message} {p : Port} : m.fills = some p ↔ m.custody = .filling ∧ m.entryPort = p := by
  unfold Message.fills
  split <;> simp [*]

section
variable {s t : State}

theorem State.gripAt_of_record {k : SlotNo} {m : Message} (record : s.record k = some m) : s.gripAt k = m.grip := by
  rw [State.gripAt, record, Option.bind_some]

theorem State.retainedAt_of_record {k : SlotNo} {m : Message} (record : s.record k = some m) :
    s.retainedAt k = m.retainedRecord := by
  rw [State.retainedAt, record, Option.any_some]

theorem State.fillsAt_of_record {k : SlotNo} {m : Message} (record : s.record k = some m) : s.fillsAt k = m.fills := by
  rw [State.fillsAt, record, Option.bind_some]

/-! ### The handoffs by their grips (R122, R123) -/

/-- The active handoffs, the open stack records and the grips on the messages name each other. -/
structure State.GripsAgree (s : State) : Prop where
  active : ∀ p a, (s.breakin p).active = some a →
    s.handleOf a.handle.slot = a.handle ∧ s.gripAt a.handle.slot = some (p, a.token, none)
  stacked : ∀ p, ∀ r ∈ s.openRecords p, s.handleOf r.handle.slot = r.handle
    ∧ s.gripAt r.handle.slot = some (p, r.token, some (r.klass, r.leaseRemaining))
  nodup : ∀ p, ((s.openRecords p).map (fun r => r.handle)).Nodup
  handed : ∀ k p token, s.gripAt k = some (p, token, none) →
    (s.breakin p).active = some { handle := s.handleOf k, token := token }
  suspended : ∀ k p token x, s.gripAt k = some (p, token, some x) → ∃ r ∈ s.openRecords p, r.handle = s.handleOf k

theorem State.gripAt_eq_some_iff {k : SlotNo} {g : Port × Byte × Option (Class × Nat)} :
    s.gripAt k = some g ↔ ∃ m, s.record k = some m ∧ m.grip = some g := Option.bind_eq_some_iff

theorem State.handoffsAgree_iff (s : State) : s.HandoffsAgree ↔ s.GripsAgree := by
  constructor
  · rintro ⟨active, stacked, nodup, handed, suspended⟩
    refine ⟨fun p a is => ?_, fun p r member => ?_, nodup, fun k p token grip => ?_, fun k p token x grip => ?_⟩
    · obtain ⟨m, d, mark, handle, record, token, custody⟩ := active p a is
      exact ⟨handle, State.gripAt_eq_some_iff.mpr ⟨m, record, Message.grip_handed_iff.mpr ⟨⟨d, mark, custody⟩, token⟩⟩⟩
    · obtain ⟨m, mark, handle, record, token, klass, custody⟩ := stacked p r member
      exact ⟨handle, State.gripAt_eq_some_iff.mpr
        ⟨m, record, Message.grip_suspended_iff.mpr ⟨⟨mark, custody⟩, token, klass⟩⟩⟩
    · obtain ⟨m, record, grip⟩ := State.gripAt_eq_some_iff.mp grip
      obtain ⟨⟨d, mark, custody⟩, rfl⟩ := Message.grip_handed_iff.mp grip
      exact handed k m p d mark record custody
    · obtain ⟨m, record, grip⟩ := State.gripAt_eq_some_iff.mp grip
      obtain ⟨⟨mark, custody⟩, -⟩ := Message.grip_suspended_iff.mp grip
      exact suspended k m p x.2 mark record custody
  · rintro ⟨active, stacked, nodup, handed, suspended⟩
    refine ⟨fun p a is => ?_, fun p r member => ?_, nodup, fun k m p d mark record custody => ?_,
      fun k m p d mark record custody => ?_⟩
    · obtain ⟨handle, grip⟩ := active p a is
      obtain ⟨m, record, grip⟩ := State.gripAt_eq_some_iff.mp grip
      obtain ⟨⟨d, mark, custody⟩, token⟩ := Message.grip_handed_iff.mp grip
      exact ⟨m, d, mark, handle, record, token, custody⟩
    · obtain ⟨handle, grip⟩ := stacked p r member
      obtain ⟨m, record, grip⟩ := State.gripAt_eq_some_iff.mp grip
      obtain ⟨⟨mark, custody⟩, token, klass⟩ := Message.grip_suspended_iff.mp grip
      exact ⟨m, mark, handle, record, token, klass, custody⟩
    · exact handed k p m.token (State.gripAt_eq_some_iff.mpr
        ⟨m, record, Message.grip_handed_iff.mpr ⟨⟨d, mark, custody⟩, rfl⟩⟩)
    · exact suspended k p m.token (m.klass, d) (State.gripAt_eq_some_iff.mpr
        ⟨m, record, Message.grip_suspended_iff.mpr ⟨⟨mark, custody⟩, rfl, rfl⟩⟩)

theorem State.custodyKept_iff_grips (s : State) : s.custodyKept ↔ s.GripsAgree :=
  (State.custodyKept_iff s).trans (State.handoffsAgree_iff s)

/-- Handoffs and grips that stand agree as before. -/
theorem State.GripsAgree.of_same (agree : s.GripsAgree) (grip : ∀ k, t.gripAt k = s.gripAt k)
    (handle : ∀ k, s.gripAt k ≠ none → t.handleOf k = s.handleOf k)
    (active : ∀ p, (t.breakin p).active = (s.breakin p).active) (stack : ∀ p, t.openRecords p = s.openRecords p) :
    t.GripsAgree := by
  refine ⟨fun p a is => ?_, fun p r member => ?_, fun p => ?_, fun k p token has => ?_, fun k p token x has => ?_⟩
  · rw [active] at is
    obtain ⟨named, has⟩ := agree.active p a is
    exact ⟨(handle _ (by simp [has])).trans named, (grip _).trans has⟩
  · rw [stack] at member
    obtain ⟨named, has⟩ := agree.stacked p r member
    exact ⟨(handle _ (by simp [has])).trans named, (grip _).trans has⟩
  · rw [stack]
    exact agree.nodup p
  · rw [grip] at has
    rw [active, handle k (by simp [has])]
    exact agree.handed k p token has
  · rw [grip] at has
    rw [stack, handle k (by simp [has])]
    exact agree.suspended k p token x has

/-- Of two slots in the custody of one port, one is no active handoff: its active handoff names one slot. -/
theorem State.GripsAgree.handed_unique (agree : s.GripsAgree) {j k : SlotNo} {p : Port} {a b : Byte}
    (first : s.gripAt j = some (p, a, none)) (second : s.gripAt k = some (p, b, none)) : j = k := by
  have both := (agree.handed j p a first).symm.trans (agree.handed k p b second)
  simp only [Option.some.injEq, Handoff.mk.injEq] at both
  exact congrArg Handle.slot both.1

/-- A handoff ends: its message leaves the custody of its holder (R108). -/
theorem State.GripsAgree.release (agree : s.GripsAgree) {k : SlotNo} {p : Port} {token : Byte}
    (held : s.gripAt k = some (p, token, none)) (freed : t.gripAt k = none)
    (grip : ∀ j, j ≠ k → t.gripAt j = s.gripAt j) (handle : ∀ j, j ≠ k → t.handleOf j = s.handleOf j)
    (ended : (t.breakin p).active = none) (active : ∀ q, q ≠ p → (t.breakin q).active = (s.breakin q).active)
    (stack : ∀ q, t.openRecords q = s.openRecords q) : t.GripsAgree := by
  have other {j : SlotNo} {g : Port × Byte × Option (Class × Nat)} (has : s.gripAt j = some g)
      (differs : g ≠ (p, token, none)) : j ≠ k := by
    rintro rfl
    rw [held] at has
    exact differs (Option.some.inj has).symm
  refine ⟨fun q a is => ?_, fun q r member => ?_, fun q => ?_, fun j q tok has => ?_, fun j q tok x has => ?_⟩
  · have apart : q ≠ p := by
      rintro rfl
      rw [ended] at is
      cases is
    rw [active q apart] at is
    obtain ⟨named, has⟩ := agree.active q a is
    have away := other has (by simp [apart])
    exact ⟨(handle _ away).trans named, (grip _ away).trans has⟩
  · rw [stack] at member
    obtain ⟨named, has⟩ := agree.stacked q r member
    have away := other has (by simp)
    exact ⟨(handle _ away).trans named, (grip _ away).trans has⟩
  · rw [stack]
    exact agree.nodup q
  · have away : j ≠ k := by
      rintro rfl
      rw [freed] at has
      cases has
    rw [grip j away] at has
    have apart : q ≠ p := by
      rintro rfl
      exact away (agree.handed_unique has held)
    rw [active q apart, handle j away]
    exact agree.handed j q tok has
  · have away : j ≠ k := by
      rintro rfl
      rw [freed] at has
      cases has
    rw [grip j away] at has
    rw [stack, handle j away]
    exact agree.suspended j q tok x has

/-- A handoff begins: a message comes into the custody of a port that has no active handoff (R103). -/
theorem State.GripsAgree.handOut (agree : s.GripsAgree) {k : SlotNo} {p : Port} {token : Byte}
    (loose : s.gripAt k = none) (held : t.gripAt k = some (p, token, none))
    (grip : ∀ j, j ≠ k → t.gripAt j = s.gripAt j) (handle : ∀ j, t.handleOf j = s.handleOf j)
    (idle : (s.breakin p).active = none) (begun : (t.breakin p).active = some { handle := s.handleOf k, token := token })
    (active : ∀ q, q ≠ p → (t.breakin q).active = (s.breakin q).active) (stack : ∀ q, t.openRecords q = s.openRecords q) :
    t.GripsAgree := by
  have other {j : SlotNo} {g : Port × Byte × Option (Class × Nat)} (has : s.gripAt j = some g) : j ≠ k := by
    rintro rfl
    rw [loose] at has
    cases has
  refine ⟨fun q a is => ?_, fun q r member => ?_, fun q => ?_, fun j q tok has => ?_, fun j q tok x has => ?_⟩
  · by_cases same : q = p
    · subst same
      rw [begun, Option.some.injEq] at is
      subst is
      exact ⟨handle k, held⟩
    · rw [active q same] at is
      obtain ⟨named, has⟩ := agree.active q a is
      exact ⟨(handle _).trans named, (grip _ (other has)).trans has⟩
  · rw [stack] at member
    obtain ⟨named, has⟩ := agree.stacked q r member
    exact ⟨(handle _).trans named, (grip _ (other has)).trans has⟩
  · rw [stack]
    exact agree.nodup q
  · by_cases same : j = k
    · subst same
      rw [held] at has
      cases has
      rw [begun, handle]
    · rw [grip j same] at has
      have apart : q ≠ p := by
        rintro rfl
        have is := agree.handed j q tok has
        rw [idle] at is
        cases is
      rw [active q apart, handle]
      exact agree.handed j q tok has
  · have away : j ≠ k := by
      rintro rfl
      rw [held] at has
      cases has
    rw [grip j away] at has
    rw [stack, handle]
    exact agree.suspended j q tok x has

/-- A handoff is suspended: the active handoff of p becomes the top record of its stack (R131). -/
theorem State.GripsAgree.suspend (agree : s.GripsAgree) {k : SlotNo} {p : Port} {token : Byte} {c : Class} {lease : Nat}
    {r : Suspension} (held : s.gripAt k = some (p, token, none)) (paused : t.gripAt k = some (p, token, some (c, lease)))
    (grip : ∀ j, j ≠ k → t.gripAt j = s.gripAt j) (handle : ∀ j, t.handleOf j = s.handleOf j)
    (ended : (t.breakin p).active = none) (active : ∀ q, q ≠ p → (t.breakin q).active = (s.breakin q).active)
    (names : r.handle = s.handleOf k ∧ r.token = token ∧ r.klass = c ∧ r.leaseRemaining = lease)
    (pushed : t.openRecords p = r :: s.openRecords p) (stack : ∀ q, q ≠ p → t.openRecords q = s.openRecords q) :
    t.GripsAgree := by
  obtain ⟨names, rfl, rfl, rfl⟩ := names
  have other {j : SlotNo} {g : Port × Byte × Option (Class × Nat)} (has : s.gripAt j = some g)
      (differs : g ≠ (p, r.token, none)) : j ≠ k := by
    rintro rfl
    rw [held] at has
    exact differs (Option.some.inj has).symm
  have standing {q : Port} {x : Suspension} (member : x ∈ s.openRecords q) :
      t.handleOf x.handle.slot = x.handle
        ∧ t.gripAt x.handle.slot = some (q, x.token, some (x.klass, x.leaseRemaining)) := by
    obtain ⟨named, has⟩ := agree.stacked q x member
    have away := other has (by simp)
    exact ⟨(handle _).trans named, (grip _ away).trans has⟩
  refine ⟨fun q a is => ?_, fun q x member => ?_, fun q => ?_, fun j q tok has => ?_, fun j q tok x has => ?_⟩
  · have apart : q ≠ p := by
      rintro rfl
      rw [ended] at is
      cases is
    rw [active q apart] at is
    obtain ⟨named, has⟩ := agree.active q a is
    have away := other has (by simp [apart])
    exact ⟨(handle _).trans named, (grip _ away).trans has⟩
  · by_cases same : q = p
    · subst same
      rw [pushed] at member
      obtain rfl | older := List.mem_cons.mp member
      · rw [names]
        exact ⟨handle k, paused⟩
      · exact standing older
    · rw [stack q same] at member
      exact standing member
  · by_cases same : q = p
    · subst same
      rw [pushed, List.map_cons, List.nodup_cons]
      refine ⟨fun member => ?_, agree.nodup q⟩
      obtain ⟨x, older, eq⟩ := List.mem_map.mp member
      obtain ⟨-, has⟩ := agree.stacked q x older
      rw [show x.handle.slot = k by rw [eq, names]; rfl, held] at has
      simp at has
    · rw [stack q same]
      exact agree.nodup q
  · have away : j ≠ k := by
      rintro rfl
      rw [paused] at has
      cases has
    rw [grip j away] at has
    have apart : q ≠ p := by
      rintro rfl
      exact away (agree.handed_unique has held)
    rw [active q apart, handle]
    exact agree.handed j q tok has
  · by_cases same : j = k
    · subst same
      rw [paused] at has
      simp only [Option.some.injEq, Prod.mk.injEq] at has
      obtain ⟨rfl, -, -⟩ := has
      exact ⟨r, by rw [pushed]; exact List.mem_cons_self, by rw [names, handle]⟩
    · rw [grip j same] at has
      obtain ⟨x, member, named⟩ := agree.suspended j q tok x has
      rw [handle]
      by_cases at_p : q = p
      · subst at_p
        exact ⟨x, by rw [pushed]; exact List.mem_cons_of_mem r member, named⟩
      · exact ⟨x, by rw [stack q at_p]; exact member, named⟩

/-- A stack record is taken off: by the return of its handoff to its holder, or by the end of that handoff (R134, R137). -/
theorem State.GripsAgree.unstack (agree : s.GripsAgree) {k : SlotNo} {p : Port} {r : Suspension} {before after : List Suspension}
    (old : s.openRecords p = before ++ r :: after) (new : t.openRecords p = before ++ after)
    (names : r.handle = s.handleOf k) (grip : ∀ j, j ≠ k → t.gripAt j = s.gripAt j)
    (handle : ∀ j, t.handleOf j = s.handleOf j) (stack : ∀ q, q ≠ p → t.openRecords q = s.openRecords q)
    (active : ∀ q, q ≠ p → (t.breakin q).active = (s.breakin q).active)
    (outcome : t.gripAt k = none ∧ (t.breakin p).active = (s.breakin p).active
      ∨ (s.breakin p).active = none ∧ ∃ token, t.gripAt k = some (p, token, none)
        ∧ (t.breakin p).active = some { handle := s.handleOf k, token := token }) : t.GripsAgree := by
  have top : r ∈ s.openRecords p := by rw [old]; simp
  have held : s.gripAt k = some (p, r.token, some (r.klass, r.leaseRemaining)) := by
    have has := (agree.stacked p r top).2
    rw [names] at has
    exact has
  have nodup := agree.nodup p
  rw [old, List.map_append, List.map_cons, List.nodup_middle] at nodup
  obtain ⟨fresh, rest⟩ := List.nodup_cons.mp nodup
  rw [← List.map_append] at fresh rest
  have other {j : SlotNo} {g : Port × Byte × Option (Class × Nat)} (has : s.gripAt j = some g)
      (differs : g ≠ (p, r.token, some (r.klass, r.leaseRemaining))) : j ≠ k := by
    rintro rfl
    rw [held] at has
    exact differs (Option.some.inj has).symm
  have noMore (j : SlotNo) (q : Port) (tok : Byte) (x : Class × Nat) (has : t.gripAt j = some (q, tok, some x)) : j ≠ k := by
    rintro rfl
    obtain ⟨loose, -⟩ | ⟨-, token, handed, -⟩ := outcome
    · rw [loose] at has
      cases has
    · rw [handed] at has
      cases has
  refine ⟨fun q a is => ?_, fun q x member => ?_, fun q => ?_, fun j q tok has => ?_, fun j q tok x has => ?_⟩
  · have standing (was : (s.breakin q).active = some a) :
        t.handleOf a.handle.slot = a.handle ∧ t.gripAt a.handle.slot = some (q, a.token, none) := by
      obtain ⟨named, has⟩ := agree.active q a was
      exact ⟨(handle _).trans named, (grip _ (other has (by simp))).trans has⟩
    by_cases same : q = p
    · subst same
      obtain ⟨-, still⟩ | ⟨-, token, handed, begun⟩ := outcome
      · exact standing (still ▸ is)
      · rw [begun, Option.some.injEq] at is
        subst is
        exact ⟨handle k, handed⟩
    · exact standing (active q same ▸ is)
  · have was : x ∈ s.openRecords q ∧ x.handle.slot ≠ k := by
      by_cases same : q = p
      · subst same
        rw [new] at member
        have older : x ∈ s.openRecords q := by
          rw [old]
          simp only [List.mem_append, List.mem_cons] at member ⊢
          tauto
        refine ⟨older, fun at_k => fresh (List.mem_map.mpr ⟨x, member, ?_⟩)⟩
        rw [names, ← at_k]
        exact (agree.stacked q x older).1.symm
      · rw [stack q same] at member
        exact ⟨member, other (agree.stacked q x member).2 (by simp [same])⟩
    obtain ⟨older, away⟩ := was
    obtain ⟨named, has⟩ := agree.stacked q x older
    exact ⟨(handle _).trans named, (grip _ away).trans has⟩
  · by_cases same : q = p
    · subst same
      rw [new]
      exact rest
    · rw [stack q same]
      exact agree.nodup q
  · by_cases at_k : j = k
    · subst at_k
      obtain ⟨loose, -⟩ | ⟨-, token, handed, begun⟩ := outcome
      · rw [loose] at has
        cases has
      · rw [handed] at has
        cases has
        rw [begun, handle]
    · rw [grip j at_k] at has
      rw [handle]
      have was := agree.handed j q tok has
      by_cases same : q = p
      · subst same
        obtain ⟨-, still⟩ | ⟨idle, -⟩ := outcome
        · exact still.trans was
        · rw [idle] at was
          cases was
      · exact (active q same).trans was
  · have away := noMore j q tok x has
    rw [grip j away] at has
    obtain ⟨y, member, named⟩ := agree.suspended j q tok x has
    rw [handle]
    by_cases same : q = p
    · subst same
      refine ⟨y, ?_, named⟩
      rw [new]
      rw [old] at member
      have not : y ≠ r := by
        rintro rfl
        rw [names] at named
        exact away (congrArg Handle.slot named).symm
      simp only [List.mem_append, List.mem_cons] at member ⊢
      tauto
    · exact ⟨y, by rw [stack q same]; exact member, named⟩

/-- All handoffs of some ports end (R119, R120). -/
theorem State.GripsAgree.releaseAll (agree : s.GripsAgree) {ended : Port → Prop}
    (grip : ∀ k g, t.gripAt k = some g ↔ s.gripAt k = some g ∧ ¬ ended g.1)
    (handle : ∀ k, s.gripAt k ≠ none → t.handleOf k = s.handleOf k)
    (cleared : ∀ p, ended p → (t.breakin p).active = none ∧ t.openRecords p = [])
    (still : ∀ p, ¬ ended p → (t.breakin p).active = (s.breakin p).active ∧ t.openRecords p = s.openRecords p) :
    t.GripsAgree := by
  refine ⟨fun p a is => ?_, fun p r member => ?_, fun p => ?_, fun k p token has => ?_, fun k p token x has => ?_⟩
  · by_cases gone : ended p
    · rw [(cleared p gone).1] at is
      cases is
    · rw [(still p gone).1] at is
      obtain ⟨named, has⟩ := agree.active p a is
      exact ⟨(handle _ (by simp [has])).trans named, (grip _ _).mpr ⟨has, gone⟩⟩
  · by_cases gone : ended p
    · rw [(cleared p gone).2] at member
      cases member
    · rw [(still p gone).2] at member
      obtain ⟨named, has⟩ := agree.stacked p r member
      exact ⟨(handle _ (by simp [has])).trans named, (grip _ _).mpr ⟨has, gone⟩⟩
  · by_cases gone : ended p
    · rw [(cleared p gone).2]
      exact List.nodup_nil
    · rw [(still p gone).2]
      exact agree.nodup p
  · obtain ⟨has, stays⟩ := (grip _ _).mp has
    rw [(still p stays).1, handle k (by simp [has])]
    exact agree.handed k p token has
  · obtain ⟨has, stays⟩ := (grip _ _).mp has
    rw [(still p stays).2, handle k (by simp [has])]
    exact agree.suspended k p token x has

end

end Sys2Proof.Machine
end

section
/-! The entry contexts and the retained list by what each slot shows (R27, R28, R53), the records' own limits, and the store's
laws put together from these parts. -/

namespace Sys2Proof.Machine

section
variable {s t : State}

/-! ### The entries by the slots that they fill (R27, R28) -/

/-- The entry contexts and the FILLING messages name each other. -/
structure State.FillsAgree (s : State) : Prop where
  named : ∀ p o, (s.entryOf p).filling = some o → s.handleOf o.handle.slot = o.handle ∧ s.fillsAt o.handle.slot = some p
  carry : ∀ p, (s.entryOf p).filling = none → (s.entryOf p).spaceCarry = true
  filling : ∀ k p, s.fillsAt k = some p → ∃ o, (s.entryOf p).filling = some o ∧ o.handle = s.handleOf k

theorem State.fillsAt_eq_some_iff {k : SlotNo} {p : Port} :
    s.fillsAt k = some p ↔ ∃ m, s.record k = some m ∧ m.custody = .filling ∧ m.entryPort = p := by
  rw [State.fillsAt, Option.bind_eq_some_iff]
  simp only [Message.fills_eq_some_iff]

theorem State.entriesAgree_iff (s : State) : s.EntriesAgree ↔ s.FillsAgree := by
  constructor
  · rintro ⟨named, carry, filling⟩
    refine ⟨fun p o entry => ?_, carry, fun k p fills => ?_⟩
    · obtain ⟨m, handle, record, custody, port⟩ := named p o entry
      exact ⟨handle, State.fillsAt_eq_some_iff.mpr ⟨m, record, custody, port⟩⟩
    · obtain ⟨m, record, custody, rfl⟩ := State.fillsAt_eq_some_iff.mp fills
      exact filling k m record custody
  · rintro ⟨named, carry, filling⟩
    refine ⟨fun p o entry => ?_, carry, fun k m record custody => ?_⟩
    · obtain ⟨handle, fills⟩ := named p o entry
      obtain ⟨m, record, custody, port⟩ := State.fillsAt_eq_some_iff.mp fills
      exact ⟨m, handle, record, custody, port⟩
    · exact filling k m.entryPort (State.fillsAt_eq_some_iff.mpr ⟨m, record, custody, rfl⟩)

/-- Entries that name what they named agree as before. -/
theorem State.FillsAgree.of_same (agree : s.FillsAgree) (fills : ∀ k, t.fillsAt k = s.fillsAt k)
    (handle : ∀ k, s.fillsAt k ≠ none → t.handleOf k = s.handleOf k)
    (entry : ∀ p, (t.entryOf p).filling.map (fun o => o.handle) = (s.entryOf p).filling.map (fun o => o.handle))
    (carry : ∀ p, (t.entryOf p).filling = none → (t.entryOf p).spaceCarry = true) : t.FillsAgree := by
  refine ⟨fun p o is => ?_, carry, fun k p has => ?_⟩
  · obtain ⟨o', was, same⟩ : ∃ o', (s.entryOf p).filling = some o' ∧ o'.handle = o.handle := by
      rw [← Option.map_eq_some_iff, ← entry, is]
      rfl
    obtain ⟨named, has⟩ := agree.named p o' was
    rw [same] at named has
    exact ⟨(handle _ (by simp [has])).trans named, (fills _).trans has⟩
  · rw [fills] at has
    obtain ⟨o, is, named⟩ := agree.filling k p has
    rw [handle k (by simp [has])]
    exact Option.map_eq_some_iff.mp ((entry p).trans (Option.map_eq_some_iff.mpr ⟨o, is, named⟩))

/-- An entry ends, and its message is no longer FILLING (R28). -/
theorem State.FillsAgree.close (agree : s.FillsAgree) {k : SlotNo} {p : Port} (was : s.fillsAt k = some p)
    (gone : t.fillsAt k = none) (fills : ∀ j, j ≠ k → t.fillsAt j = s.fillsAt j)
    (handle : ∀ j, j ≠ k → t.handleOf j = s.handleOf j) (closed : t.entryOf p = EntryContext.closed)
    (entry : ∀ q, q ≠ p → t.entryOf q = s.entryOf q) : t.FillsAgree := by
  have unique {j : SlotNo} (also : s.fillsAt j = some p) : j = k := by
    obtain ⟨o, is, named⟩ := agree.filling j p also
    obtain ⟨o', is', named'⟩ := agree.filling k p was
    rw [is, Option.some.injEq] at is'
    subst is'
    exact congrArg Handle.slot (named.symm.trans named')
  refine ⟨fun q o is => ?_, fun q none => ?_, fun j q has => ?_⟩
  · have apart : q ≠ p := by
      rintro rfl
      rw [closed] at is
      cases is
    rw [entry q apart] at is
    obtain ⟨named, has⟩ := agree.named q o is
    have away : o.handle.slot ≠ k := by
      intro at_k
      rw [at_k, was] at has
      exact apart (Option.some.inj has).symm
    exact ⟨(handle _ away).trans named, (fills _ away).trans has⟩
  · by_cases same : q = p
    · rw [same, closed]
      rfl
    · rw [entry q same] at none ⊢
      exact agree.carry q none
  · have away : j ≠ k := by
      rintro rfl
      rw [gone] at has
      cases has
    rw [fills j away] at has
    have apart : q ≠ p := by
      rintro rfl
      exact away (unique has)
    rw [entry q apart, handle j away]
    exact agree.filling j q has

/-- An entry begins on a port that has none open (R32). -/
theorem State.FillsAgree.begin (agree : s.FillsAgree) {k : SlotNo} {p : Port} {o : OpenEntry} (was : s.fillsAt k = none)
    (now : t.fillsAt k = some p) (fills : ∀ j, j ≠ k → t.fillsAt j = s.fillsAt j) (handle : ∀ j, t.handleOf j = s.handleOf j)
    (idle : (s.entryOf p).filling = none) (opened : (t.entryOf p).filling = some o) (names : o.handle = s.handleOf k)
    (entry : ∀ q, q ≠ p → t.entryOf q = s.entryOf q) : t.FillsAgree := by
  refine ⟨fun q x is => ?_, fun q none => ?_, fun j q has => ?_⟩
  · by_cases same : q = p
    · subst same
      rw [opened, Option.some.injEq] at is
      subst is
      rw [names]
      exact ⟨handle k, now⟩
    · rw [entry q same] at is
      obtain ⟨named, has⟩ := agree.named q x is
      have away : x.handle.slot ≠ k := by
        intro at_k
        rw [at_k, was] at has
        cases has
      exact ⟨(handle _).trans named, (fills _ away).trans has⟩
  · by_cases same : q = p
    · rw [same, opened] at none
      cases none
    · rw [entry q same] at none ⊢
      exact agree.carry q none
  · by_cases at_k : j = k
    · subst at_k
      rw [now, Option.some.injEq] at has
      subst has
      exact ⟨o, opened, names.trans (handle j).symm⟩
    · rw [fills j at_k] at has
      have apart : q ≠ p := by
        rintro rfl
        obtain ⟨x, is, -⟩ := agree.filling j q has
        rw [idle] at is
        cases is
      rw [entry q apart, handle]
      exact agree.filling j q has

/-! ### The retained list by the slots that it names (R53) -/

theorem State.retainedListed_iff (s : State) :
    s.retainedListed ↔ s.retained.Nodup ∧ (∀ h, h ∈ s.retained → s.handleOf h.slot = h)
      ∧ ∀ k, s.handleOf k ∈ s.retained ↔ s.retainedAt k = true := Iff.rfl

/-- Records that stand are listed as before; the handle of a slot may change where its record is not retained. -/
theorem State.retainedListed_of_same (listed : s.retainedListed) (list : t.retained = s.retained)
    (shows : ∀ k, t.retainedAt k = s.retainedAt k) (handle : ∀ k, s.retainedAt k = true → t.handleOf k = s.handleOf k) :
    t.retainedListed := by
  rw [State.retainedListed_iff] at listed ⊢
  obtain ⟨nodup, current, exactly⟩ := listed
  have stands {h : Handle} (member : h ∈ s.retained) : s.retainedAt h.slot = true := by
    rw [← exactly, current h member]
    exact member
  rw [list]
  refine ⟨nodup, fun h member => (handle _ (stands member)).trans (current h member), fun k => ?_⟩
  rw [shows, ← exactly]
  constructor
  · intro member
    have at_k : s.retainedAt k = true := stands member
    rw [handle k at_k] at member
    exact member
  · intro member
    rw [handle k ((exactly k).mp member)]
    exact member

/-- A record comes to the tail of the list when it becomes DISPOSED or VOID (R53). -/
theorem State.retainedListed_append (listed : s.retainedListed) {k : SlotNo} (was : s.retainedAt k = false)
    (now : t.retainedAt k = true) (shows : ∀ j, j ≠ k → t.retainedAt j = s.retainedAt j)
    (handle : ∀ j, t.handleOf j = s.handleOf j) (list : t.retained = s.retained ++ [s.handleOf k]) : t.retainedListed := by
  rw [State.retainedListed_iff] at listed ⊢
  obtain ⟨nodup, current, exactly⟩ := listed
  have fresh : s.handleOf k ∉ s.retained := by
    rw [exactly, was]
    simp
  rw [list]
  refine ⟨?_, fun h member => ?_, fun j => ?_⟩
  · rw [List.nodup_append]
    refine ⟨nodup, List.nodup_singleton _, fun a memberA b memberB => ?_⟩
    rw [List.mem_singleton] at memberB
    rintro rfl
    exact fresh (memberB ▸ memberA)
  · rw [handle]
    obtain older | new := List.mem_append.mp member
    · exact current h older
    · rw [List.mem_singleton.mp new]
      rfl
  · rw [handle, List.mem_append, List.mem_singleton, exactly]
    by_cases at_k : j = k
    · subst at_k
      simp [now]
    · have other : s.handleOf j ≠ s.handleOf k := fun same => at_k (congrArg Handle.slot same)
      rw [shows j at_k]
      simp [other]

/-- A slot that is freed leaves the list (R54). -/
theorem State.retainedListed_free (listed : s.retainedListed) {k : SlotNo} (now : t.retainedAt k = false)
    (shows : ∀ j, j ≠ k → t.retainedAt j = s.retainedAt j) (handle : ∀ j, j ≠ k → t.handleOf j = s.handleOf j)
    (list : t.retained = s.retained.filter (fun h => !decide (h = s.handleOf k))) : t.retainedListed := by
  rw [State.retainedListed_iff] at listed ⊢
  obtain ⟨nodup, current, exactly⟩ := listed
  have member_iff (h : Handle) : h ∈ t.retained ↔ h ∈ s.retained ∧ h ≠ s.handleOf k := by
    rw [list, List.mem_filter]
    simp
  have away {h : Handle} (member : h ∈ t.retained) : h.slot ≠ k := by
    intro at_k
    obtain ⟨older, other⟩ := (member_iff h).mp member
    exact other (State.handle_eq_of_slot (current h older) at_k)
  refine ⟨?_, fun h member => ?_, fun j => ?_⟩
  · rw [list]
    exact nodup.filter _
  · rw [handle _ (away member)]
    exact current h ((member_iff h).mp member).1
  · by_cases at_k : j = k
    · subst at_k
      rw [now]
      exact ⟨fun member => absurd rfl (away member), nofun⟩
    · have other : s.handleOf j ≠ s.handleOf k := fun same => at_k (congrArg Handle.slot same)
      rw [handle j at_k, shows j at_k, member_iff, ← exactly]
      exact ⟨fun both => both.1, fun member => ⟨member, other⟩⟩

/-! ### The store's laws together -/

/-- A record within its limits that has been entered rightly (R9 to R16, R32). -/
def Message.Sound (m : Message) : Prop := m.withinLimits ∧ m.enteredRightly

/-- The laws of the store by their parts. -/
structure State.StoreLaws (s : State) : Prop where
  records : ∀ k m, s.record k = some m → m.Sound
  retained : s.retainedListed
  segments : s.segmentsKept
  fills : s.FillsAgree
  grips : s.GripsAgree

theorem State.storeSound_iff (s : State) : s.storeSound ↔ s.StoreLaws := by
  constructor
  · intro sound
    exact ⟨fun k m record => ⟨sound.limits k m record, sound.entered k m record⟩, sound.retained, sound.segments,
      (State.entriesAgree_iff s).mp ((State.entriesNamed_iff s).mp sound.entries),
      (State.custodyKept_iff_grips s).mp sound.custody⟩
  · intro laws
    exact ⟨fun k m record => (laws.records k m record).1, fun k m record => (laws.records k m record).2, laws.retained,
      laws.segments, (State.entriesNamed_iff s).mpr ((State.entriesAgree_iff s).mpr laws.fills),
      (State.custodyKept_iff_grips s).mpr laws.grips⟩

/-- What the laws of the store read. -/
structure Ledger where
  slots : Vector Slot 192
  freeSegments : Nat
  retained : List Handle
  entries : Vector EntryContext 4
  active : Port → Option Handoff
  stack : Port → List Suspension

/-- What the laws of the store read of a part. -/
def State.ledger (s : State) : Ledger :=
  { slots := s.slots, freeSegments := s.freeSegments, retained := s.retained, entries := s.entries
    active := fun p => (s.breakin p).active, stack := fun p => (s.breakin p).stack }

/-- The laws of the store read the ledger alone. -/
theorem State.StoreLaws.of_ledger (laws : s.StoreLaws) (same : t.ledger = s.ledger) : t.StoreLaws := by
  have slots : t.slots = s.slots := congrArg Ledger.slots same
  have entries : t.entries = s.entries := congrArg Ledger.entries same
  have record (k : SlotNo) : t.record k = s.record k := State.record_congr slots k
  have handle (k : SlotNo) : t.handleOf k = s.handleOf k := State.handleOf_congr slots k
  have entry (p : Port) : t.entryOf p = s.entryOf p := by rw [State.entryOf, entries]; rfl
  have fills (k : SlotNo) : t.fillsAt k = s.fillsAt k := by rw [State.fillsAt, record]; rfl
  have grip (k : SlotNo) : t.gripAt k = s.gripAt k := by rw [State.gripAt, record]; rfl
  refine ⟨fun k m has => laws.records k m ((record k).symm.trans has), ?_, ?_, ?_, ?_⟩
  · exact State.retainedListed_of_same laws.retained (congrArg Ledger.retained same)
      (fun k => by rw [State.retainedAt, record]; rfl) (fun k _ => handle k)
  · exact State.segmentsKept_of_same laws.segments (congrArg Ledger.freeSegments same)
      (fun k => State.slotSegments_congr (record k))
  · exact laws.fills.of_same fills (fun k _ => handle k) (fun p => by rw [entry])
      (fun p none => by rw [entry] at none ⊢; exact laws.fills.carry p none)
  · exact laws.grips.of_same grip (fun k _ => handle k) (fun p => congrFun (congrArg Ledger.active same) p)
      (fun p => by rw [State.openRecords, show (t.breakin p).stack = (s.breakin p).stack from
        congrFun (congrArg Ledger.stack same) p]; rfl)

theorem active_of_handling {p : Port} (same : t.handling p = s.handling p) :
    (t.breakin p).active = (s.breakin p).active := by
  have both := congrArg BreakIn.active same
  exact both

theorem stack_of_handling {p : Port} (same : t.handling p = s.handling p) :
    (t.breakin p).stack = (s.breakin p).stack := by
  have both := congrArg BreakIn.stack same
  exact both

theorem Aside.ledger (aside : Aside s t) : t.ledger = s.ledger := by
  have active (p : Port) : (t.breakin p).active = (s.breakin p).active :=
    active_of_handling (aside.handling p)
  have stack (p : Port) : (t.breakin p).stack = (s.breakin p).stack :=
    stack_of_handling (aside.handling p)
  have slots : t.slots = s.slots := by rw [aside.frame]
  have free : t.freeSegments = s.freeSegments := by rw [aside.frame]
  have list : t.retained = s.retained := by rw [aside.frame]
  have entries : t.entries = s.entries := by rw [aside.frame]
  simp only [State.ledger, active, stack, slots, free, list, entries]

end

end Sys2Proof.Machine
end

section
/-! The store's laws under the changes that the requests are made of: a record written, a slot freed, segments taken. -/

namespace Sys2Proof.Machine

/-! ### A record written -/

/-- Two messages that the laws of the store tell apart only by their own limits: in the same custody, retained or not, FILLING
or not, and of the same segments. -/
structure Message.Alike (m n : Message) : Prop where
  grip : n.grip = m.grip
  fills : n.fills = m.fills
  retained : n.retainedRecord = m.retainedRecord
  segments : n.segments = m.segments

theorem Message.Alike.trans {m n u : Message} (first : m.Alike n) (second : n.Alike u) : m.Alike u :=
  ⟨second.grip.trans first.grip, second.fills.trans first.fills, second.retained.trans first.retained,
    second.segments.trans first.segments⟩

section
variable {s t : State} {k : SlotNo} {m n : Message}

/-- The part t has the slots of s with message n written into slot k. -/
structure Wrote (s : State) (k : SlotNo) (n : Message) (t : State) : Prop where
  slots : t.slots = (s.withRecord k n).slots

section
variable (wrote : Wrote s k n t)
include wrote

theorem Wrote.handle (j : SlotNo) : t.handleOf j = s.handleOf j :=
  (State.handleOf_congr wrote.slots j).trans (State.handleOf_withRecord ..)

theorem Wrote.record_same : t.record k = some n :=
  (State.record_congr wrote.slots k).trans (State.record_withRecord_same ..)

theorem Wrote.record_other {j : SlotNo} (other : j ≠ k) : t.record j = s.record j :=
  (State.record_congr wrote.slots j).trans (State.record_withRecord_other (Ne.symm other))

theorem Wrote.grip_same : t.gripAt k = n.grip := State.gripAt_of_record wrote.record_same

theorem Wrote.grip_other (j : SlotNo) (other : j ≠ k) : t.gripAt j = s.gripAt j := by
  rw [State.gripAt, wrote.record_other other]
  rfl

theorem Wrote.fills_same : t.fillsAt k = n.fills := State.fillsAt_of_record wrote.record_same

theorem Wrote.fills_other (j : SlotNo) (other : j ≠ k) : t.fillsAt j = s.fillsAt j := by
  rw [State.fillsAt, wrote.record_other other]
  rfl

theorem Wrote.retained_same : t.retainedAt k = n.retainedRecord := State.retainedAt_of_record wrote.record_same

theorem Wrote.retained_other (j : SlotNo) (other : j ≠ k) : t.retainedAt j = s.retainedAt j := by
  rw [State.retainedAt, wrote.record_other other]
  rfl

/-- The grips stand where the written message has the grip of the one before. -/
theorem Wrote.grip (record : s.record k = some m) (same : n.grip = m.grip) (j : SlotNo) : t.gripAt j = s.gripAt j := by
  by_cases at_k : j = k
  · rw [at_k, wrote.grip_same, same, State.gripAt_of_record record]
  · exact wrote.grip_other j at_k

theorem Wrote.fills (record : s.record k = some m) (same : n.fills = m.fills) (j : SlotNo) : t.fillsAt j = s.fillsAt j := by
  by_cases at_k : j = k
  · rw [at_k, wrote.fills_same, same, State.fillsAt_of_record record]
  · exact wrote.fills_other j at_k

theorem Wrote.retained (record : s.record k = some m) (same : n.retainedRecord = m.retainedRecord) (j : SlotNo) :
    t.retainedAt j = s.retainedAt j := by
  by_cases at_k : j = k
  · rw [at_k, wrote.retained_same, same, State.retainedAt_of_record record]
  · exact wrote.retained_other j at_k

/-- Each record is within its limits where the written one is. -/
theorem Wrote.records (sound : n.Sound) (before : ∀ j m, s.record j = some m → m.Sound) (j : SlotNo) (u : Message)
    (record : t.record j = some u) : u.Sound := by
  by_cases at_k : j = k
  · rw [at_k, wrote.record_same, Option.some.injEq] at record
    exact record ▸ sound
  · rw [wrote.record_other at_k] at record
    exact before j u record

/-- The pool keeps its count where it gives what the record takes. -/
theorem Wrote.segmentsKept (kept : s.segmentsKept) (record : s.record k = some m)
    (moved : t.freeSegments + n.segments = s.freeSegments + m.segments) : t.segmentsKept := by
  refine State.segmentsKept_of_one_changed (k := k) kept (fun j other => wrote.record_other other) ?_
  rw [State.slotSegments_of_record wrote.record_same, State.slotSegments_of_record record]
  exact moved

/-- A FILLING message stays FILLING on its port, any other stays entered; the open entries name what they named. -/
theorem Wrote.fillsAgree (agree : s.FillsAgree) (record : s.record k = some m) (same : n.fills = m.fills)
    (entries : t.entries = s.entries) : t.FillsAgree := by
  have entry (p : Port) : t.entryOf p = s.entryOf p := by rw [State.entryOf, entries]; rfl
  exact agree.of_same (wrote.fills record same) (fun j _ => wrote.handle j) (fun p => by rw [entry])
    (fun p none => by rw [entry] at none ⊢; exact agree.carry p none)

theorem Wrote.retainedListed (listed : s.retainedListed) (record : s.record k = some m)
    (same : n.retainedRecord = m.retainedRecord) (list : t.retained = s.retained) : t.retainedListed :=
  State.retainedListed_of_same listed list (wrote.retained record same) (fun j _ => wrote.handle j)

/-- A record that becomes DISPOSED or VOID comes to the tail of the list (R53). -/
theorem Wrote.retainedListed_append (listed : s.retainedListed) (record : s.record k = some m)
    (was : m.retainedRecord = false) (now : n.retainedRecord = true) (list : t.retained = s.retained ++ [s.handleOf k]) :
    t.retainedListed :=
  State.retainedListed_append listed ((State.retainedAt_of_record record).trans was) (wrote.retained_same.trans now)
    wrote.retained_other wrote.handle list

end

/-- A record written, FILLING or not as before, with the pool giving what it takes; one that is retained now comes to the tail of
the list. What the change does to the handoffs is given. -/
theorem State.StoreLaws.put (laws : s.StoreLaws) (record : s.record k = some m) (wrote : Wrote s k n t) (sound : n.Sound)
    (moved : t.freeSegments + n.segments = s.freeSegments + m.segments) (fills : n.fills = m.fills)
    (entries : t.entries = s.entries)
    (retained : n.retainedRecord = m.retainedRecord ∧ t.retained = s.retained
      ∨ m.retainedRecord = false ∧ n.retainedRecord = true ∧ t.retained = s.retained ++ [s.handleOf k])
    (grips : t.GripsAgree) : t.StoreLaws := by
  refine ⟨wrote.records sound laws.records, ?_, wrote.segmentsKept laws.segments record moved,
    wrote.fillsAgree laws.fills record fills entries, grips⟩
  obtain ⟨same, list⟩ | ⟨was, now, list⟩ := retained
  · exact wrote.retainedListed laws.retained record same list
  · exact wrote.retainedListed_append laws.retained record was now list

/-- A record written with a message alike. -/
theorem State.StoreLaws.write (laws : s.StoreLaws) (record : s.record k = some m) (alike : m.Alike n) (sound : n.Sound)
    (rest : t.ledger = (s.withRecord k n).ledger) : t.StoreLaws := by
  have wrote : Wrote s k n t := ⟨congrArg Ledger.slots rest⟩
  have free : t.freeSegments = s.freeSegments := congrArg Ledger.freeSegments rest
  refine laws.put record wrote sound (by rw [free, alike.segments]) alike.fills
    (congrArg Ledger.entries rest) (.inl ⟨alike.retained, congrArg Ledger.retained rest⟩) ?_
  exact laws.grips.of_same (wrote.grip record alike.grip) (fun j _ => wrote.handle j)
    (fun p => congrFun (congrArg Ledger.active rest) p)
    (fun p => by rw [State.openRecords, show (t.breakin p).stack = (s.breakin p).stack from
      congrFun (congrArg Ledger.stack rest) p]; rfl)

/-- Every record written with a message of the same segments, FILLING or retained as before. What the change does to the
handoffs is given. -/
theorem State.StoreLaws.putAll {f : SlotNo → Message → Message} (laws : s.StoreLaws)
    (slot : ∀ k, t.slot k = { s.slot k with record := (s.record k).map (f k) })
    (each : ∀ k m, s.record k = some m → (f k m).Sound ∧ (f k m).segments = m.segments ∧ (f k m).fills = m.fills
      ∧ (f k m).retainedRecord = m.retainedRecord)
    (free : t.freeSegments = s.freeSegments) (entries : t.entries = s.entries) (list : t.retained = s.retained)
    (grips : t.GripsAgree) : t.StoreLaws := by
  have record (k : SlotNo) : t.record k = (s.record k).map (f k) := congrArg Slot.record (slot k)
  have handle (k : SlotNo) : t.handleOf k = s.handleOf k := by rw [State.handleOf, slot]; rfl
  have fills (k : SlotNo) : t.fillsAt k = s.fillsAt k := by
    rw [State.fillsAt, record, State.fillsAt]
    cases is : s.record k with
    | none => rfl
    | some m => exact (each k m is).2.2.1
  have retained (k : SlotNo) : t.retainedAt k = s.retainedAt k := by
    rw [State.retainedAt, record, State.retainedAt]
    cases is : s.record k with
    | none => rfl
    | some m => exact (each k m is).2.2.2
  have segments (k : SlotNo) : t.slotSegments k = s.slotSegments k := by
    cases is : s.record k with
    | none => rw [State.slotSegments_of_empty is, State.slotSegments_of_empty (by rw [record, is]; rfl)]
    | some m =>
      rw [State.slotSegments_of_record is, State.slotSegments_of_record (m := f k m) (by rw [record, is]; rfl)]
      exact (each k m is).2.1
  have entry (p : Port) : t.entryOf p = s.entryOf p := by
    rw [State.entryOf, entries]
    rfl
  refine ⟨fun k u is => ?_, State.retainedListed_of_same laws.retained list retained (fun k _ => handle k),
    State.segmentsKept_of_same laws.segments free segments, ?_, grips⟩
  · obtain ⟨m, was, rfl⟩ := Option.map_eq_some_iff.mp ((record k).symm.trans is)
    exact (each k m was).1
  · exact laws.fills.of_same fills (fun k _ => handle k) (fun p => by rw [entry])
      (fun p none => by rw [entry] at none ⊢; exact laws.fills.carry p none)

/-- Every record written with a message alike. -/
theorem State.StoreLaws.map {f : SlotNo → Message → Message} (laws : s.StoreLaws)
    (slot : ∀ k, t.slot k = { s.slot k with record := (s.record k).map (f k) })
    (each : ∀ k m, s.record k = some m → m.Alike (f k m) ∧ (f k m).Sound)
    (rest : t.ledger = { s.ledger with slots := t.slots }) : t.StoreLaws := by
  refine laws.putAll slot (fun k m is => ?_) (congrArg Ledger.freeSegments rest) (congrArg Ledger.entries rest)
    (congrArg Ledger.retained rest) ?_
  · obtain ⟨alike, sound⟩ := each k m is
    exact ⟨sound, alike.segments, alike.fills, alike.retained⟩
  · refine laws.grips.of_same (fun k => ?_) (fun j _ => by rw [State.handleOf, slot]; rfl)
      (fun p => congrFun (congrArg Ledger.active rest) p)
      (fun p => by rw [State.openRecords, show (t.breakin p).stack = (s.breakin p).stack from
        congrFun (congrArg Ledger.stack rest) p]; rfl)
    rw [State.gripAt, State.record_eq, slot, State.gripAt]
    cases is : s.record k with
    | none => rfl
    | some m => exact (each k m is).1.grip

/-! ### A slot freed -/

/-- The part t has the slots of s with slot k freed. -/
structure Freed (s : State) (k : SlotNo) (m : Message) (t : State) : Prop where
  record : s.record k = some m
  slots : t.slots = (s.withoutRecord k m).slots
  free : t.freeSegments = (s.withoutRecord k m).freeSegments
  retained : t.retained = (s.withoutRecord k m).retained

section
variable (freed : Freed s k m t)
include freed

theorem Freed.slot (j : SlotNo) :
    t.slot j = if k = j then { inc := (s.slot j).inc + 1, record := none } else s.slot j := by
  rw [State.slot, freed.slots]
  exact State.slot_withoutRecord s k j m

theorem Freed.record_same : t.record k = none := by
  rw [State.record_eq, freed.slot, if_pos rfl]

theorem Freed.record_other {j : SlotNo} (other : j ≠ k) : t.record j = s.record j := by
  rw [State.record_eq, freed.slot, if_neg (Ne.symm other)]
  rfl

theorem Freed.handle_other (j : SlotNo) (other : j ≠ k) : t.handleOf j = s.handleOf j := by
  rw [State.handleOf, freed.slot, if_neg (Ne.symm other)]
  rfl

theorem Freed.records (before : ∀ j m, s.record j = some m → m.Sound) (j : SlotNo) (u : Message)
    (record : t.record j = some u) : u.Sound := by
  by_cases at_k : j = k
  · rw [at_k, freed.record_same] at record
    cases record
  · rw [freed.record_other at_k] at record
    exact before j u record

theorem Freed.retainedListed (listed : s.retainedListed) : t.retainedListed := by
  refine State.retainedListed_free listed (k := k) ?_ (fun j other => ?_) freed.handle_other freed.retained
  · rw [State.retainedAt, freed.record_same]
    rfl
  · rw [State.retainedAt, freed.record_other other]
    rfl

theorem Freed.segmentsKept (kept : s.segmentsKept) : t.segmentsKept := by
  refine State.segmentsKept_of_same (State.segmentsKept_withoutRecord freed.record kept) freed.free fun j => ?_
  exact State.slotSegments_congr (State.record_congr freed.slots j)

/-- A message that no port has in custody leaves the grips (R122). -/
theorem Freed.gripsAgree (agree : s.GripsAgree) (loose : m.grip = none)
    (active : ∀ p, (t.breakin p).active = (s.breakin p).active) (stack : ∀ p, (t.breakin p).stack = (s.breakin p).stack) :
    t.GripsAgree := by
  have was : s.gripAt k = none := (State.gripAt_of_record freed.record).trans loose
  refine agree.of_same (fun j => ?_) (fun j has => ?_) active (fun p => by rw [State.openRecords, stack]; rfl)
  · by_cases at_k : j = k
    · rw [at_k, was, State.gripAt, freed.record_same]
      rfl
    · rw [State.gripAt, freed.record_other at_k]
      rfl
  · exact freed.handle_other j fun at_k => has (at_k ▸ was)

end

/-- A record that is not FILLING and in no custody is freed (R55, R60). -/
theorem State.StoreLaws.free (laws : s.StoreLaws) (freed : Freed s k m t) (loose : m.grip = none) (entered : m.fills = none)
    (entries : t.entries = s.entries) (active : ∀ p, (t.breakin p).active = (s.breakin p).active)
    (stack : ∀ p, (t.breakin p).stack = (s.breakin p).stack) : t.StoreLaws := by
  have was : s.fillsAt k = none := (State.fillsAt_of_record freed.record).trans entered
  have entry (p : Port) : t.entryOf p = s.entryOf p := by rw [State.entryOf, entries]; rfl
  refine ⟨freed.records laws.records, freed.retainedListed laws.retained, freed.segmentsKept laws.segments, ?_,
    freed.gripsAgree laws.grips loose active stack⟩
  refine laws.fills.of_same (fun j => ?_) (fun j has => ?_) (fun p => by rw [entry])
    (fun p none => by rw [entry] at none ⊢; exact laws.fills.carry p none)
  · by_cases at_k : j = k
    · rw [at_k, was, State.fillsAt, freed.record_same]
      rfl
    · rw [State.fillsAt, freed.record_other at_k]
      rfl
  · exact freed.handle_other j fun at_k => has (at_k ▸ was)

/-- A FILLING message is freed with the end of its entry (R46, R47). -/
theorem State.StoreLaws.cancel {p : Port} (laws : s.StoreLaws) (record : s.record k = some m)
    (filling : m.fills = some p) : ((s.withoutRecord k m).withoutEntry p).StoreLaws := by
  have freed : Freed s k m ((s.withoutRecord k m).withoutEntry p) := ⟨record, rfl, rfl, rfl⟩
  have loose : m.grip = none := by
    obtain ⟨custody, -⟩ := Message.fills_eq_some_iff.mp filling
    rw [Message.grip, custody]
  refine ⟨freed.records laws.records, freed.retainedListed laws.retained, freed.segmentsKept laws.segments, ?_,
    freed.gripsAgree laws.grips loose (fun _ => rfl) (fun _ => rfl)⟩
  refine laws.fills.close (k := k) (p := p) ((State.fillsAt_of_record record).trans filling) ?_ (fun j other => ?_)
    freed.handle_other ?_ (fun q other => ?_)
  · rw [State.fillsAt, freed.record_same]
    rfl
  · rw [State.fillsAt, freed.record_other other]
    rfl
  · exact (State.entryOf_modEntry ..).trans (if_pos rfl)
  · exact (State.entryOf_modEntry ..).trans (if_neg (Ne.symm other))

end

end Sys2Proof.Machine
end

section
/-! The warm reset (R25, R49, R82, R89, R120, R141, R169, R183, R186, R188). -/

namespace Sys2Proof.Machine

/-! ### Every entry ends (R49) -/

section
variable {s : State}

/-- An entry context that stands closed is closed already (R28). -/
theorem State.FillsAgree.withoutEntry (agree : s.FillsAgree) {p : Port} (idle : (s.entryOf p).filling = none) :
    s.withoutEntry p = s := by
  have closed : s.entryOf p = EntryContext.closed := by
    have carry := agree.carry p idle
    cases is : s.entryOf p with
    | mk filling spaceCarry =>
      rw [is] at idle carry
      rw [show filling = none from idle, show spaceCarry = true from carry]
      rfl
  have entries : vmod s.entries p (fun _ => EntryContext.closed) = s.entries := vmod_same closed
  change { s with entries := vmod s.entries p (fun _ => EntryContext.closed) } = s
  rw [entries]

theorem State.StoreLaws.entriesAgree (laws : s.StoreLaws) : s.EntriesAgree := (State.entriesAgree_iff s).mpr laws.fills

theorem State.StoreLaws.handoffsAgree (laws : s.StoreLaws) : s.HandoffsAgree := (State.handoffsAgree_iff s).mpr laws.grips

/-- The end of p's entry at a reset keeps the store's laws (R48). -/
theorem State.StoreLaws.entryAbandoned (laws : s.StoreLaws) (p : Port) : (s.entryAbandoned p).StoreLaws := by
  obtain ⟨k, m, record, custody, port, eq⟩ | ⟨noneFills, eq⟩ := entryAbandoned_cases laws.entriesAgree p
  · rw [eq]
    exact laws.cancel record (Message.fills_eq_some_iff.mpr ⟨custody, port⟩)
  · have idle : (s.entryOf p).filling = none := by
      cases entry : (s.entryOf p).filling with
      | none => rfl
      | some o =>
        obtain ⟨m, -, record, custody, port⟩ := laws.entriesAgree.named p o entry
        exact absurd ⟨m, record, custody, port⟩ (noneFills o.handle.slot)
    rw [eq, laws.fills.withoutEntry idle]
    exact laws

/-- The end of p's entry leaves what the other ports fill. -/
theorem fillsOn_entryAbandoned (laws : s.StoreLaws) {p q : Port} (other : p ≠ q) (k : SlotNo) :
    (s.entryAbandoned p).FillsOn q k ↔ s.FillsOn q k := by
  obtain ⟨freed, still⟩ := slot_entryAbandoned laws.entriesAgree p k
  by_cases fills : s.FillsOn p k
  · have gone : (s.entryAbandoned p).record k = none := congrArg Slot.record (freed fills)
    obtain ⟨m, record, custody, port⟩ := fills
    constructor
    · rintro ⟨n, there, -⟩
      rw [gone] at there
      cases there
    · rintro ⟨n, there, -, port'⟩
      rw [record, Option.some.injEq] at there
      subst there
      exact absurd (port.symm.trans port') other
  · have same : (s.entryAbandoned p).record k = s.record k := congrArg Slot.record (still fills)
    rw [State.FillsOn, same]
    rfl

/-- The end of several ports' entries (R49). -/
theorem foldl_entryAbandoned {ps : List Port} (nodup : ps.Nodup) (laws : s.StoreLaws) :
    (ps.foldl State.entryAbandoned s).StoreLaws ∧ (ps.foldl State.entryAbandoned s).retained = s.retained
      ∧ ∀ k, ((∃ p ∈ ps, s.FillsOn p k) →
          (ps.foldl State.entryAbandoned s).slot k = { inc := (s.slot k).inc + 1, record := none })
        ∧ ((∀ p ∈ ps, ¬ s.FillsOn p k) → (ps.foldl State.entryAbandoned s).slot k = s.slot k) := by
  induction ps generalizing s with
  | nil => exact ⟨laws, rfl, fun k => ⟨nofun, fun _ => rfl⟩⟩
  | cons p ps ih =>
    obtain ⟨fresh, rest⟩ := List.nodup_cons.mp nodup
    obtain ⟨after, list, slots⟩ := ih rest (laws.entryAbandoned p)
    have list' : (s.entryAbandoned p).retained = s.retained := retained_entryAbandoned laws.entriesAgree laws.retained p
    have later {q : Port} (member : q ∈ ps) (k : SlotNo) : (s.entryAbandoned p).FillsOn q k ↔ s.FillsOn q k :=
      fillsOn_entryAbandoned laws (fun (same : p = q) => fresh (same ▸ member)) k
    refine ⟨after, list.trans list', fun k => ?_⟩
    obtain ⟨freed, still⟩ := slots k
    obtain ⟨first, other⟩ := slot_entryAbandoned laws.entriesAgree p k
    constructor
    · rintro ⟨q, member, fills⟩
      obtain rfl | inRest := List.mem_cons.mp member
      · have gone : ∀ r ∈ ps, ¬ (s.entryAbandoned q).FillsOn r k := by
          rintro r - ⟨m, there, -⟩
          rw [State.record_eq, first fills] at there
          cases there
        exact (still gone).trans (first fills)
      · have apart : ¬ s.FillsOn p k := by
          rintro ⟨m, record, -, port⟩
          obtain ⟨n, there, -, port'⟩ := fills
          obtain rfl := Option.some.inj (record.symm.trans there)
          exact fresh ((port.symm.trans port') ▸ inRest)
        rw [List.foldl_cons, freed ⟨q, inRest, (later inRest k).mpr fills⟩, other apart]
    · intro none
      rw [List.foldl_cons, still fun q member fills => none q (List.mem_cons_of_mem p member) ((later member k).mp fills),
        other (none p List.mem_cons_self)]

/-- What the end of several entries leaves. -/
theorem foldl_entryAbandoned_frame (ps : List Port) (s : State) :
    ps.foldl State.entryAbandoned s = { s with
        slots := (ps.foldl State.entryAbandoned s).slots
        freeSegments := (ps.foldl State.entryAbandoned s).freeSegments
        retained := (ps.foldl State.entryAbandoned s).retained, entries := (ps.foldl State.entryAbandoned s).entries }
      ∧ ∀ q, (ps.foldl State.entryAbandoned s).entryOf q = if q ∈ ps then EntryContext.closed else s.entryOf q := by
  induction ps generalizing s with
  | nil => exact ⟨rfl, fun q => rfl⟩
  | cons p ps ih =>
    obtain ⟨frame, entries⟩ := ih (s.entryAbandoned p)
    obtain ⟨v, n, l, first⟩ : ∃ v n l, s.entryAbandoned p = { s with
        slots := v, freeSegments := n, retained := l, entries := vmod s.entries p (fun _ => EntryContext.closed) } :=
      ⟨_, _, _, entryAbandoned_frame s p⟩
    obtain ⟨v', n', l', e', rest⟩ : ∃ v n l e, ps.foldl State.entryAbandoned (s.entryAbandoned p)
        = { s.entryAbandoned p with slots := v, freeSegments := n, retained := l, entries := e } := ⟨_, _, _, _, frame⟩
    refine ⟨?_, fun q => ?_⟩
    · rw [List.foldl_cons, rest, first]
    · rw [List.foldl_cons, entries]
      have entry : (s.entryAbandoned p).entryOf q = if p = q then EntryContext.closed else s.entryOf q := by
        rw [first]
        exact get_vmod ..
      rw [entry]
      by_cases same : p = q
      · subst same
        simp
      · simp [same, Ne.symm same]

end

/-! ### The records at a warm reset -/

/-- A message in custody at a warm reset (R120). -/
theorem warmReturn_of_held {m : Message} {p : Port} (now : Nat) (held : m.custody.holder = some p) :
    warmReturn now m = if Message.deadlinePassed now (Message.applyUpgrade (requeued now p m)) = true then
        Message.log now (some p) .held { Message.applyUpgrade (requeued now p m) with custody := .held .deadlinePassed }
      else { Message.applyUpgrade (requeued now p m) with custody := .queued } := by
  rw [warmReturn, held]

theorem warmReturn_of_loose {m : Message} (now : Nat) (loose : m.custody.holder = none) : warmReturn now m = m := by
  rw [warmReturn, loose]

/-- A record at a warm reset: its return, then its re-resolution (R82, R120). -/
theorem afterWarmReset_eq (now : Nat) (resolves : Bool) (m : Message) :
    afterWarmReset now resolves m
      = { warmResolve now resolves (warmReturn now m) with watchers := Vector.replicate 4 false } := by
  have back (p : Port) (held : m.custody.holder = some p) : warmResolve now resolves (warmReturn now m)
      = if Message.deadlinePassed now (Message.applyUpgrade (requeued now p m)) = true then
            Message.log now (some p) .held
              { Message.applyUpgrade (requeued now p m) with custody := .held .deadlinePassed }
          else warmQueued now resolves (Message.applyUpgrade (requeued now p m)) := by
    rw [warmReturn_of_held now held]
    split
    · rw [warmResolve, Message.log_custody]
    · rfl
  unfold afterWarmReset
  cases custody : m.custody with
  | handed p d mark =>
    rw [back p (by rw [custody]; rfl)]
    simp only [requeued, custody]
  | suspended p d mark =>
    rw [back p (by rw [custody]; rfl)]
    simp only [requeued, custody]
  | queued =>
    rw [warmReturn_of_loose now (by rw [custody]; rfl)]
    cases resolves <;> simp [warmResolve, warmQueued, custody]
  | held r =>
    rw [warmReturn_of_loose now (by rw [custody]; rfl)]
    cases r <;> simp only [warmResolve, custody]
  | filling => simp only [warmReturn_of_loose now (show m.custody.holder = none by rw [custody]; rfl), warmResolve, custody]
  | disposed o time =>
    simp only [warmReturn_of_loose now (show m.custody.holder = none by rw [custody]; rfl), warmResolve, custody]
  | void => simp only [warmReturn_of_loose now (show m.custody.holder = none by rw [custody]; rfl), warmResolve, custody]

/-- A message keeps its area and its segments on its way back (R120). -/
theorem warmReturn_keeps (now : Nat) (m : Message) :
    (warmReturn now m).area = m.area ∧ (warmReturn now m).segments = m.segments := by
  cases held : m.custody.holder with
  | none =>
    rw [warmReturn_of_loose now held]
    exact ⟨rfl, rfl⟩
  | some p =>
    have content : (Message.applyUpgrade (requeued now p m)).content = Message.content { m with token := m.token + 1 } :=
      (Message.content_applyUpgrade _).trans (Message.content_log ..)
    have whole : (warmReturn now m).content = Message.content { m with token := m.token + 1 } := by
      rw [warmReturn_of_held now held]
      split
      · exact (Message.content_log ..).trans content
      · exact content
    have area : (warmReturn now m).area = ({ m with token := m.token + 1 } : Message).area :=
      Message.view_of_content Message.area whole
    have segments : (warmReturn now m).segments = ({ m with token := m.token + 1 } : Message).segments :=
      Message.segments_of_content whole
    exact ⟨area, segments⟩

theorem warmResolve_content (now : Nat) (resolves : Bool) (m : Message) :
    (warmResolve now resolves m).content = m.content := by
  unfold warmResolve
  split
  · split
    · rfl
    · exact Message.content_log ..
  · split
    · dsimp only
      split
      · exact (Message.content_log ..).trans ((Message.content_log ..).trans (Message.content_applyUpgrade m))
      · exact (Message.content_log ..).trans (Message.content_applyUpgrade m)
    · rfl
  all_goals rfl

/-- A record at a warm reset in the statement's terms (R25, R82, R120). -/
theorem warmRecord_eq (s : State) (m : Message) :
    warmRecord s m = afterWarmReset s.seconds (s.resolve m.area).isSome m := by
  rw [afterWarmReset_eq]
  unfold warmRecord
  dsimp only
  rw [(warmReturn_keeps s.seconds m).1]

/-- A warm reset keeps the segments of a message. -/
theorem afterWarmReset_segments (now : Nat) (resolves : Bool) (m : Message) :
    (afterWarmReset now resolves m).segments = m.segments := by
  rw [afterWarmReset_eq]
  exact (Message.segments_of_content (warmResolve_content now resolves (warmReturn now m))).trans (warmReturn_keeps now m).2

/-! ### The whole reset -/

section
variable {s : State}

/-- The part with its entries ended, with every link UP and no fence pending (R49, R82). -/
def State.warmLinked (s : State) : State :=
  { allPorts.foldl State.entryAbandoned s with links := Vector.replicate 4 true, fences := Vector.replicate 4 false }

/-- The warm reset in one expression. -/
theorem warmReset_eq (straps : Straps) :
    warmReset straps s = { s with
      freeSegments := (allPorts.foldl State.entryAbandoned s).freeSegments
      retained := (allPorts.foldl State.entryAbandoned s).retained
      slots := vmap (fun x => { x with record := x.record.map (warmRecord s.warmLinked) })
        (allPorts.foldl State.entryAbandoned s).slots
      ports := vzip warmStationPort s.ports straps.control
      entries := Vector.replicate 4 { filling := none, spaceCarry := true }
      links := Vector.replicate 4 true, fences := Vector.replicate 4 false
      flags := Vector.replicate 4 { topped := false, floored := false }
      breakins := Vector.replicate 4 { enable := false, pending := none, active := none, stack := [] }
      noticeQueues := Vector.replicate 4 { items := [], overrun := false }
      divider := 0, timeBase0 := straps.timeBase0, timeBase1 := straps.timeBase1, deviceReset := true } := by
  have ended : abandonEntries s = allPorts.foldl State.entryAbandoned s := by
    rw [abandonEntries, show (fun t p => abandonEntry p t) = State.entryAbandoned from
      funext₂ fun t p => abandonEntry_eq p t]
  obtain ⟨frame, entries⟩ := foldl_entryAbandoned_frame allPorts s
  have closed : (allPorts.foldl State.entryAbandoned s).entries = Vector.replicate 4 EntryContext.closed := by
    apply vector_ext
    intro q
    refine (entries q).trans ((if_pos (mem_allPorts q)).trans ?_)
    simp [Vector.get_eq_getElem]
  obtain ⟨v, n, l, e, whole⟩ : ∃ v n l e, allPorts.foldl State.entryAbandoned s
      = { s with slots := v, freeSegments := n, retained := l, entries := e } := ⟨_, _, _, _, frame⟩
  unfold warmReset State.warmLinked
  rw [ended]
  rw [whole] at closed ⊢
  rw [show e = Vector.replicate 4 EntryContext.closed from closed]
  rfl

/-- What a record becomes depends on the time and the routing with every link UP (R82). -/
theorem warmRecord_warmLinked (m : Message) :
    warmRecord s.warmLinked m
      = afterWarmReset s.seconds (({ s with links := Vector.replicate 4 true } : State).resolve m.area).isSome m := by
  obtain ⟨v, n, l, e, whole⟩ : ∃ v n l e, allPorts.foldl State.entryAbandoned s
      = { s with slots := v, freeSegments := n, retained := l, entries := e } :=
    ⟨_, _, _, _, (foldl_entryAbandoned_frame allPorts s).1⟩
  have now : s.warmLinked.seconds = s.seconds := by rw [State.warmLinked, whole]
  have resolve (area : Nat) :
      s.warmLinked.resolve area = ({ s with links := Vector.replicate 4 true } : State).resolve area := by
    rw [State.warmLinked, whole]
    rfl
  rw [warmRecord_eq, now, resolve]

/-- A slot after the warm reset, in a sound store (R25, R49, R82). -/
theorem warmReset_slot (laws : s.StoreLaws) (straps : Straps) (k : SlotNo) :
    ((∃ m, s.record k = some m ∧ m.custody = .filling) →
        (warmReset straps s).slot k = { inc := (s.slot k).inc + 1, record := none })
      ∧ (s.record k = none → (warmReset straps s).slot k = s.slot k)
      ∧ ∀ m, s.record k = some m → m.custody ≠ .filling → (warmReset straps s).slot k = { s.slot k with
        record := some (afterWarmReset s.seconds
          (({ s with links := Vector.replicate 4 true } : State).resolve m.area).isSome m) } := by
  obtain ⟨-, -, slots⟩ := foldl_entryAbandoned nodup_allPorts laws
  obtain ⟨freed, still⟩ := slots k
  have slot : (warmReset straps s).slot k = { (allPorts.foldl State.entryAbandoned s).slot k with
      record := ((allPorts.foldl State.entryAbandoned s).slot k).record.map (warmRecord s.warmLinked) } := by
    rw [warmReset_eq]
    exact get_vmap ..
  refine ⟨fun ⟨m, record, custody⟩ => ?_, fun empty => ?_, fun m record entered => ?_⟩
  · rw [slot, freed ⟨m.entryPort, mem_allPorts _, m, record, custody, rfl⟩]
    rfl
  · have same := still fun p _ ⟨m, record, _⟩ => absurd (record.symm.trans empty) (by simp)
    have none : (s.slot k).record = none := empty
    rw [slot, same, none, Option.map_none, ← none]
  · have same := still fun p _ ⟨n, there, custody, _⟩ =>
      entered (Option.some.inj (record.symm.trans there) ▸ custody)
    have full : (s.slot k).record = some m := record
    rw [slot, same, full, Option.map_some, warmRecord_warmLinked]

theorem warmReset_segmentsKept (laws : s.StoreLaws) (straps : Straps) : (warmReset straps s).segmentsKept := by
  obtain ⟨ended, -, -⟩ := foldl_entryAbandoned nodup_allPorts laws
  have free : (warmReset straps s).freeSegments = (allPorts.foldl State.entryAbandoned s).freeSegments := by
    rw [warmReset_eq]
  refine State.segmentsKept_of_same ended.segments free fun k => ?_
  have record : (warmReset straps s).record k
      = ((allPorts.foldl State.entryAbandoned s).record k).map (warmRecord s.warmLinked) := by
    rw [warmReset_eq]
    exact congrArg Slot.record (get_vmap ..)
  cases was : (allPorts.foldl State.entryAbandoned s).record k with
  | none =>
    rw [was] at record
    rw [State.slotSegments_of_empty was, State.slotSegments_of_empty record]
  | some m =>
    rw [was] at record
    rw [State.slotSegments_of_record was, State.slotSegments_of_record record, warmRecord_warmLinked,
      afterWarmReset_segments]

/-- Settles O53: the entries end one by one, and every record that is left is returned and re-resolved in one map. -/
theorem warmResetKeepsTheStore : Obligations.WarmResetKeepsTheStore := by
  intro straps s supply
  have exec_eq : exec (.warmReset straps) s = .next (assertDeviceReset straps s) :=
    whenPowered_of_supply supply (assertDeviceReset straps)
  refine ⟨fun asserted => ?asserted, fun released taken => ?released⟩
  case asserted => rw [exec_eq, assertDeviceReset, if_pos asserted]
  case released =>
    obtain ⟨entryTaken, leaseTaken, deadlineTaken⟩ := taken
    have ticks : takeTicks s = s := takeTicks_of_taken entryTaken leaseTaken deadlineTaken
    refine ⟨warmReset straps s, ?_, fun p => ?_, ?_, fun sound => ?_⟩
    · rw [exec_eq, assertDeviceReset, if_neg (by simp [released]), ticks]
    · rw [State.port, warmReset_eq]
      exact get_vzip ..
    · rw [warmReset_eq]
    · have laws := (State.storeSound_iff s).mp sound
      refine ⟨?_, warmReset_segmentsKept laws straps, fun k => ?_⟩
      · obtain ⟨-, list, -⟩ := foldl_entryAbandoned nodup_allPorts laws
        rw [warmReset_eq]
        exact list
      · obtain ⟨freed, empty, stands⟩ := warmReset_slot laws straps k
        cases record : s.record k with
        | none => exact empty record
        | some m =>
          by_cases filling : m.custody = .filling
          · exact (freed ⟨m, record, filling⟩).trans (if_pos filling).symm
          · exact (stands m record filling).trans (if_neg filling).symm

end

end Sys2Proof.Machine
end

section
/-! What notices, sticky flags and checks leave alone, for the operations of the model; and when a waiting tick comes before a
command (R139, R184; log entry 3). -/

namespace Sys2Proof.Machine

/-! ### Operations that change only sticky flags, notices and what is pending -/

theorem Aside.notifyWatchers (k : SlotNo) (t : State) : Aside t (notifyWatchers k t) := by
  cases record : t.record k with
  | none =>
    rw [Machine.notifyWatchers, record]
    exact .refl t
  | some m =>
    rw [notifyWatchers_eq_told record]
    exact .told ..

theorem Aside.clearPendingBreakIn (p : Port) (t : State) : Aside t (clearPendingBreakIn p t) := by
  rw [clearPendingBreakIn_eq]
  exact .withoutPending t p

theorem Aside.departed (p : Port) (h : Handle) (t : State) : Aside t (departed p h t) := by
  unfold Machine.departed
  split
  · exact (Aside.clearPendingBreakIn p t).trans (.breakInCheck ..)
  · exact .refl t

theorem Aside.setStickyFlags (p : Port) (es : List Evaluation) (t : State) : Aside t (setStickyFlags p es t) :=
  ⟨rfl, fun _ => rfl, .setStickyFlags p es t⟩

section
variable {s t : State}

theorem Aside.slots (aside : Aside s t) : t.slots = s.slots := by rw [aside.frame]

theorem Aside.record (aside : Aside s t) (k : SlotNo) : t.record k = s.record k := State.record_congr aside.slots k

theorem Aside.stack (aside : Aside s t) (p : Port) : (t.breakin p).stack = (s.breakin p).stack :=
  stack_of_handling (aside.handling p)

theorem Aside.active (aside : Aside s t) (p : Port) : (t.breakin p).active = (s.breakin p).active :=
  active_of_handling (aside.handling p)

end

/-! ### Handing out and suspending -/

/-- The record of a message that is handed to p (R103). -/
def Message.handedTo (p : Port) (s : State) (m : Message) : Message :=
  Message.log s.seconds (some p) .handed
    { m with custody := .handed p (heldTime (s.seconds + s.scoring.lease)) false, token := m.token + 1 }

/-- A handing out writes the record and the active handoff; what else it does is aside (R103). -/
theorem handOut_cases (k : SlotNo) (p : Port) (s : State) :
    ∃ t, Aside (s.modRecord k (Message.handedTo p s)) t
      ∧ (t.record k = none ∧ handOut k p s = t
        ∨ ∃ m, t.record k = some m
          ∧ Aside (t.modBreakin p (fun b => { b with active := some { handle := s.handleOf k, token := m.token } }))
            (handOut k p s)) := by
  refine ⟨_, Aside.departed p (s.handleOf k) (s.modRecord k (Message.handedTo p s)), ?_⟩
  unfold handOut
  dsimp only
  split
  · next empty => exact .inl ⟨empty, rfl⟩
  · next m record => exact .inr ⟨m, record, Aside.notifyWatchers ..⟩

theorem slots_handOut (k : SlotNo) (p : Port) (s : State) :
    (handOut k p s).slots = (s.modRecord k (Message.handedTo p s)).slots := by
  obtain ⟨t, aside, ⟨-, eq⟩ | ⟨m, -, rest⟩⟩ := handOut_cases k p s
  · rw [eq, aside.slots]
  · rw [rest.slots]
    exact aside.slots

theorem stack_handOut (k : SlotNo) (p q : Port) (s : State) :
    ((handOut k p s).breakin q).stack = (s.breakin q).stack := by
  obtain ⟨t, aside, ⟨-, eq⟩ | ⟨m, -, rest⟩⟩ := handOut_cases k p s
  · rw [eq, aside.stack]
    rfl
  · rw [rest.stack, State.breakin_modBreakin]
    split
    · exact aside.stack q
    · exact aside.stack q

/-- The record of a message whose handoff is suspended (R131). -/
def Message.suspendedBy (p : Port) (remaining : Nat) (m : Message) : Message :=
  { m with custody := .suspended p remaining m.custody.marked }

theorem slots_suspend (k : SlotNo) (p : Port) (a : Handoff) (m : Message) (s : State) :
    (suspend k p a m s).slots
      = (s.modRecord k (Message.suspendedBy p (Custody.leaseLeft s.seconds m.custody))).slots := by
  unfold suspend
  dsimp only
  rw [(Aside.clearPendingBreakIn p _).slots]
  exact (Aside.notifyWatchers k _).slots

theorem stack_suspend (k : SlotNo) (p : Port) (a : Handoff) (m : Message) (s : State) :
    ((suspend k p a m s).breakin p).stack
      = { handle := a.handle, token := a.token, leaseRemaining := Custody.leaseLeft s.seconds m.custody
          savedEnable := (s.breakin p).enable, klass := m.klass, revoked := false } :: (s.breakin p).stack := by
  unfold suspend
  dsimp only
  rw [(Aside.clearPendingBreakIn p _).stack, State.breakin_modBreakin_same]
  refine (stack_of_handling ((Aside.notifyWatchers k _).handling p)).trans ?_
  exact congrArg BreakIn.stack (State.breakin_modBreakin_same ..)

/-- A NEXT-BREAKIN that is answered OK suspends the active handoff and hands out the first higher message (R131, R132). -/
theorem nextBreakin_of_ok {p : Port} {h : HandleField} {token : Byte} {s : State}
    (ok : (nextBreakin p h token s).1.result = .ok) :
    ∃ a m e es, (s.breakin p).active = some a ∧ s.record a.handle.slot = some m
      ∧ s.ranked (s.eligible p m.klass) = e :: es
      ∧ (nextBreakin p h token s).2
        = handOut e.slot p (suspend a.handle.slot p a m (setStickyFlags p (e :: es) s)) := by
  unfold nextBreakin at ok ⊢
  split at ok
  · cases ok
  · next handle _ =>
    split at ok
    · cases ok
    · next named _ =>
      split at ok
      · next active =>
        split at ok
        · cases ok
        · next m record =>
          split at ok
          · cases ok
          · next e es ranked =>
            refine ⟨_, m, e, es, active, record, ranked, ?_⟩
            exact congrArg Prod.snd (if_pos active)
      · cases ok

/-! ### A tick that waits -/

section
variable {s : State}

theorem ticksTaken_takeTicksAt (leases : List SlotNo) (s : State) : (takeTicksAt leases s).ticksTaken := by
  rw [takeTicksAt_frame]
  exact ⟨rfl, rfl, rfl⟩

theorem supply_takeTicksAt (leases : List SlotNo) : (takeTicksAt leases s).supplyLow = s.supplyLow :=
  congrArg Housing.supplyLow (housing_takeTicksAt leases s)

theorem takeTicks_takeTicksAt (leases : List SlotNo) : takeTicks (takeTicksAt leases s) = takeTicksAt leases s := by
  obtain ⟨entry, lease, deadline⟩ := ticksTaken_takeTicksAt leases s
  exact takeTicks_of_taken entry lease deadline

theorem inProgress_congr {t : State} (ports : t.ports = s.ports) (c : Instr) : t.inProgress c = s.inProgress c := by
  unfold State.inProgress State.port
  rw [ports]

theorem inProgress_takeTicksAt (leases : List SlotNo) (c : Instr) : (takeTicksAt leases s).inProgress c = s.inProgress c :=
  inProgress_congr (congrArg Housing.ports (housing_takeTicksAt leases s)) c

/-- A request that is in progress, after what comes before it. -/
theorem exec_of_inProgress {c : Instr} {p : Port} {rq : Request} (supply : s.supplyLow = false)
    (working : s.inProgress c = some (p, rq)) :
    exec c s = .next (holdResponse p rq (blockAct c (ticksBefore c s)).1 (blockAct c (ticksBefore c s)).2) := by
  obtain ⟨f, frame, -⟩ := State.frame_of_inProgress working
  rw [exec_of_frame frame]
  exact serveAfter_of_inProgress supply working

/-- A request acts on a part whose ticks have been taken as it acts on one where they are taken before it. -/
theorem exec_takeTicksAt {c : Instr} {p : Port} {rq : Request} (leases : List SlotNo) (supply : s.supplyLow = false)
    (working : s.inProgress c = some (p, rq)) (before : ticksBefore c s = takeTicksAt leases s) :
    exec c s = exec c (takeTicksAt leases s) := by
  rw [exec_of_inProgress supply working,
    exec_of_inProgress ((supply_takeTicksAt leases).trans supply) ((inProgress_takeTicksAt leases c).trans working), before,
    ticksBefore_of_taken (ticksTaken_takeTicksAt leases s)]

/-- Where no NEXT-BREAKIN meets the lapse of the handoff that it suspends, the tick comes before the request. -/
theorem ticksBefore_of_not_waiting {c : Instr}
    (free : ∀ p h token, c = .nextBreakin p h token → ∀ k, ¬ LapseWaits s p k) : ticksBefore c s = takeTicks s := by
  cases c
  case nextBreakin p h token =>
    obtain eq | ⟨k, lapsing, -, -⟩ := ticksBeforeBreakin_cases p (nextBreakin p h token) s
    · exact eq
    · exact absurd ((lapsing_eq_some_iff s p k).mp lapsing) (free p h token rfl k)
  all_goals rfl

/-- A command that acts on the part, where the tick comes before it, acts as it does on what the tick leaves (R184). -/
theorem exec_takeTicks {c : Instr} (acts : ActsNow s c)
    (free : ∀ p h token, c = .nextBreakin p h token → ∀ k, ¬ LapseWaits s p k) : exec c s = exec c (takeTicks s) := by
  obtain ⟨supply, working | ⟨rfl, early⟩ | ⟨p, rfl, line⟩ | ⟨straps, rfl, input⟩⟩ := acts
  · obtain ⟨⟨p, rq⟩, working⟩ := Option.isSome_iff_exists.mp working
    exact exec_takeTicksAt allSlots supply working (ticksBefore_of_not_waiting free)
  all_goals
    have housing := housing_takeTicks s
    have supply' : (takeTicks s).supplyLow = false := (congrArg Housing.supplyLow housing).trans supply
    have again : takeTicks (takeTicks s) = takeTicks s := takeTicks_takeTicksAt allSlots
  · have now : (takeTicks s).seconds = s.seconds := congrArg Housing.seconds housing
    have limit : s.seconds < Config.timeLimit := early
    change whenPowered tickOnce s = whenPowered tickOnce (takeTicks s)
    rw [whenPowered_of_supply supply, whenPowered_of_supply supply', tickOnce, tickOnce, if_pos limit,
      if_pos (now ▸ limit), again]
  · have line' : ((takeTicks s).port p).resetLine = false := by
      rw [State.port, show (takeTicks s).ports = s.ports from congrArg Housing.ports housing]
      exact line
    change whenPowered (assertPortReset p) s = whenPowered (assertPortReset p) (takeTicks s)
    rw [whenPowered_of_supply supply, whenPowered_of_supply supply', assertPortReset, assertPortReset,
      if_neg (by simp [line]), if_neg (by simp [line']), again]
  · have input' : (takeTicks s).deviceReset = false := (congrArg Housing.deviceReset housing).trans input
    change whenPowered (assertDeviceReset straps) s = whenPowered (assertDeviceReset straps) (takeTicks s)
    rw [whenPowered_of_supply supply, whenPowered_of_supply supply', assertDeviceReset, assertDeviceReset,
      if_neg (by simp [input]), if_neg (by simp [input']), again]

/-! ### A NEXT-BREAKIN that meets the lapse of the handoff it suspends (R139) -/

section
variable {p : Port} {k : SlotNo}

theorem nodup_otherSlots (k : SlotNo) : (otherSlots k).Nodup := nodup_allSlots.filter _

theorem mem_otherSlots (k j : SlotNo) : j ∈ otherSlots k ↔ j ≠ k := by simp [otherSlots, mem_allSlots]

/-- The tick without the lapse of the handoff in slot k, by its expiries. -/
theorem spared_eq (tick : s.leaseTick = true) :
    takeDeadlineTick allSlots ((otherSlots k).foldl State.lapsed { takeEntryTick s with leaseTick := false })
      = takeTicksAt (otherSlots k) s := by
  have tick' : (takeEntryTick s).leaseTick = true := by rw [takeEntryTick_frame, tick]
  have anyLeases (t : State) (taken : t.leaseTick = false) :
      takeDeadlineTick allSlots t = takeDeadlineTick (otherSlots k) t := by
    have still (leases : List SlotNo) : takeLeaseTick leases t = t := if_neg (by simp [taken])
    rw [takeDeadlineTick, takeDeadlineTick, still, still]
  rw [← takeLeaseTick_eq tick', anyLeases _ (by rw [takeLeaseTick_frame]), takeDeadlineTick_takeLeaseTick]
  rfl

/-- A freed slot is EMPTY (R54). -/
theorem Slot.record_freed (x : Slot) : x.freed.record = none := by
  cases record : x.record with
  | none => simp [Slot.freed, record]
  | some m => rw [Slot.freed_of_record record]

/-- A record that stands after the entry timeouts stood before them. -/
theorem record_takeEntryTick {m : Message} (record : (takeEntryTick s).record k = some m) : s.record k = some m := by
  unfold takeEntryTick at record
  split at record
  · obtain ⟨-, slots, -, -⟩ := foldl_timeOutEntry nodup_allPorts { s with entryTick := false }
    have slot := slots k
    split at slot
    · rw [State.record_eq, slot] at record
      exact absurd (record.symm.trans (Slot.record_freed _)) (by simp)
    · exact (congrArg Slot.record slot).symm.trans record
  · exact record

/-- The record in slot k, where it is HANDED, passes the spared tick as it was, or is gone with an entry. -/
theorem record_spared {m : Message} (record : (takeTicksAt (otherSlots k) s).record k = some m)
    (handed : ∀ n, s.record k = some n → n.custody ≠ .queued) : s.record k = some m := by
  unfold takeTicksAt at record
  have leases : (takeLeaseTick (otherSlots k) (takeEntryTick s)).record k = (takeEntryTick s).record k := by
    have out : k ∉ otherSlots k := (mem_otherSlots k k).not.mpr fun other => other rfl
    unfold takeLeaseTick
    split
    · rw [show lapseIfDue = State.lapsed from funext₂ lapseIfDue_eq]
      have slot := foldl_slot (env := State.resolution)
        (g := fun now x => { x with record := x.record.map (fun m => lapsedIfDue now.1 (now.2 m.area).isSome m) })
        State.resolution_lapsed State.lapsed_slot (nodup_otherSlots k)
        { takeEntryTick s with leaseTick := false } k
      rw [if_neg out] at slot
      exact congrArg Slot.record slot
    · rfl
  have deadlines (t : State) (n : Message) (is : (if t.deadlineTick = true then
      allSlots.foldl expireIfDue { t with deadlineTick := false } else t).record k = some n)
      (unqueued : ∀ u, t.record k = some u → u.custody ≠ .queued) : t.record k = some n := by
    split at is
    · rw [show expireIfDue = State.expired from funext₂ expireIfDue_eq] at is
      have slot := foldl_allSlots (env := State.seconds)
        (g := fun now x => { x with record := x.record.map (expiredIfDue now) }) State.seconds_expired
        State.expired_slot { t with deadlineTick := false } k
      have after : (t.record k).map (expiredIfDue t.seconds) = some n := (congrArg Slot.record slot).symm.trans is
      obtain ⟨u, there, eq⟩ := Option.map_eq_some_iff.mp after
      have stands : expiredIfDue t.seconds u = u := if_neg fun both => unqueued u there both.1
      rw [there, ← eq, stands]
    · exact is
  have before : (takeLeaseTick (otherSlots k) (takeEntryTick s)).record k = some m := by
    refine deadlines _ m record fun u there => ?_
    rw [leases] at there
    exact handed u (record_takeEntryTick there)
  rw [leases] at before
  exact record_takeEntryTick before

/-- An active handoff after the spared tick was one before it. -/
theorem active_spared {a : Handoff} (active : ((takeTicksAt (otherSlots k) s).breakin p).active = some a) :
    (s.breakin p).active = some a := by
  have entry : ((takeEntryTick s).breakin p).active = (s.breakin p).active := by
    rw [takeEntryTick_frame]
    rfl
  have leases (is : ((takeLeaseTick (otherSlots k) (takeEntryTick s)).breakin p).active = some a) :
      ((takeEntryTick s).breakin p).active = some a := by
    unfold takeLeaseTick at is
    split at is
    · rw [show lapseIfDue = State.lapsed from funext₂ lapseIfDue_eq] at is
      obtain ⟨quiet, keeps, -⟩ := foldl_lapsed (nodup_otherSlots k)
        { takeEntryTick s with leaseTick := false } p
      by_cases lapses : ∃ j ∈ otherSlots k, State.Lapses { takeEntryTick s with leaseTick := false } j p
      · rw [(quiet (.inl lapses)).1] at is
        cases is
      · rw [keeps fun j member lapse => lapses ⟨j, member, lapse⟩] at is
        exact is
    · exact is
  have deadlines : ((takeTicksAt (otherSlots k) s).breakin p).active
      = ((takeLeaseTick (otherSlots k) (takeEntryTick s)).breakin p).active := by
    unfold takeTicksAt takeDeadlineTick
    dsimp only
    split
    · rw [show expireIfDue = State.expired from funext₂ expireIfDue_eq]
      exact active_of_handling (foldl_keeps (view := fun s => s.handling p)
        (fun s k => State.handling_expired s k p) allSlots _)
    · rfl
  exact entry.symm.trans (leases (deadlines.symm.trans active))

/-- A NEXT-BREAKIN answered OK on the spared tick: its suspension pushes the handoff in slot k with no lease remaining. -/
theorem nextBreakin_spared {h : HandleField} {token : Byte} (waits : LapseWaits s p k)
    (ok : (nextBreakin p h token (takeTicksAt (otherSlots k) s)).1.result = .ok) :
    ((nextBreakin p h token (takeTicksAt (otherSlots k) s)).2.breakin p).stack.head?.map
        (fun x => (x.handle.slot, x.leaseRemaining)) = some (k, 0)
      ∧ ∀ m deadline mark, s.record k = some m → m.custody = .handed p deadline mark →
        (nextBreakin p h token (takeTicksAt (otherSlots k) s)).2.record k
          = some { m with custody := .suspended p 0 mark } := by
  obtain ⟨-, slot, due⟩ := waits
  obtain ⟨a, m, e, es, active, record, ranked, eq⟩ := nextBreakin_of_ok ok
  have at_k : a.handle.slot = k := by
    have was : (s.breakin p).active = some a := active_spared active
    rw [was] at slot
    exact Option.some.inj slot
  obtain ⟨n, there, ranOut⟩ := (Option.any_eq_true _ _).mp due
  have unqueued (u : Message) (is : s.record k = some u) : u.custody ≠ .queued := by
    obtain rfl : n = u := Option.some.inj (there.symm.trans is)
    intro queued
    rw [queued] at ranOut
    cases ranOut
  rw [at_k] at record eq
  have before : s.record k = some m := record_spared record unqueued
  obtain rfl : n = m := Option.some.inj (there.symm.trans before)
  have now : (setStickyFlags p (e :: es) (takeTicksAt (otherSlots k) s)).seconds = s.seconds :=
    congrArg Housing.seconds (housing_takeTicksAt (otherSlots k) s)
  have left : Custody.leaseLeft (setStickyFlags p (e :: es) (takeTicksAt (otherSlots k) s)).seconds n.custody = 0 := by
    rw [now]
    cases custody : n.custody with
    | handed q d mark =>
      rw [custody] at ranOut
      exact Nat.sub_eq_zero_of_le (of_decide_eq_true ranOut)
    | _ =>
      rw [custody] at ranOut
      cases ranOut
  rw [eq]
  constructor
  · rw [stack_handOut, stack_suspend, left]
    exact congrArg some (congrArg₂ Prod.mk at_k rfl)
  · intro u d mark is handed
    obtain rfl : n = u := Option.some.inj (there.symm.trans is)
    have queued : (takeTicksAt (otherSlots k) s).queueOf e.slot = some p :=
      (State.mem_eligible.mp (State.slot_mem_of_ranked (ranked ▸ List.mem_cons_self))).1
    have other : e.slot ≠ k := by
      intro same
      obtain ⟨u, record', queued', -⟩ := State.queueOf_eq_some queued
      rw [same, record] at record'
      cases record'
      rw [handed] at queued'
      cases queued'
    have suspended : (suspend k p a n (setStickyFlags p (e :: es) (takeTicksAt (otherSlots k) s))).record k
        = some { n with custody := .suspended p 0 mark } := by
      refine (State.record_congr (slots_suspend ..) k).trans ?_
      rw [left, modRecord_eq_withRecord (s := setStickyFlags p (e :: es) (takeTicksAt (otherSlots k) s)) _ record,
        State.record_withRecord_same]
      simp only [Message.suspendedBy, handed, Custody.marked]
    refine (State.record_congr (slots_handOut ..) k).trans ?_
    rw [← suspended, State.record_eq, State.modRecord, State.slot_modSlot, if_neg other]
    rfl

end

/-- With the supply below its working level no event acts but a cold reset and a dip of the supply (R187). -/
theorem exec_of_low {c : Instr} (low : s.supplyLow = true) (frame : requestFrame c = none)
    (notCold : ∀ straps lines, c ≠ .coldReset straps lines) (notDip : ∀ seen, c ≠ .supplyBelowWorkingLevel seen) :
    exec c s = .next s := by
  have powered : exec c s = whenPowered (eventEffect c) s := by
    cases c
    case coldReset straps lines => exact absurd rfl (notCold straps lines)
    case supplyBelowWorkingLevel seen => exact absurd rfl (notDip seen)
    all_goals first | rfl | cases frame
  rw [powered, whenPowered, if_pos low]

/-- Settles O51: the tick is taken by its three expiries, and every command that acts takes it first; a NEXT-BREAKIN takes it
without the lapse of the handoff that it suspends. -/
theorem timeLinesAndSupply : Obligations.TimeLinesAndSupply := by
  refine ⟨fun c s acts => ?ticks, fun s => ⟨fun supply => ⟨fun early taken => ?tick, fun late => ?saturated, fun p => ?line,
    ?device⟩, ?dip, ?noDip, fun low c other => ?off⟩⟩
  case ticks =>
    have supply := acts.1
    have supply₁ : (takeEntryTick s).supplyLow = false :=
      (congrArg Housing.supplyLow (housing_takeEntryTick s)).trans supply
    have supply₂ : (takeLeaseTick allSlots (takeEntryTick s)).supplyLow = false :=
      (congrArg Housing.supplyLow (housing_takeLeaseTick allSlots (takeEntryTick s))).trans supply₁
    have third : takeDeadlineTick allSlots (takeLeaseTick allSlots (takeEntryTick s)) = takeTicks s :=
      takeDeadlineTick_takeLeaseTick allSlots (takeEntryTick s)
    refine ⟨takeEntryTick s, whenPowered_of_supply supply takeEntryTick, takeLeaseTick allSlots (takeEntryTick s),
      whenPowered_of_supply supply₁ (takeLeaseTick allSlots), takeTicks s, ?_, ticksTaken_takeTicksAt allSlots s,
      exec_takeTicks acts, fun p h token is k waits => ?_⟩
    · rw [← third]
      exact whenPowered_of_supply supply₂ (takeDeadlineTick allSlots)
    · subst is
      intro lapsed
      have others : (allSlots.filter (fun j => decide (j ≠ k))) = otherSlots k := by
        simp only [ne_eq, decide_not]
        rfl
      have spared : takeDeadlineTick allSlots lapsed = takeTicksAt (otherSlots k) s := by
        rw [← spared_eq waits.1]
        simp only [lapsed, others]
      have supply₃ : lapsed.supplyLow = false := by
        have housing : lapsed.housing = (takeEntryTick s).housing :=
          foldl_keeps (view := State.housing) (fun t j => by rw [State.lapsed_frame]; rfl) _ _
        exact (congrArg Housing.supplyLow housing).trans supply₁
      obtain ⟨⟨q, rq⟩, working⟩ : ∃ x, s.inProgress (.nextBreakin p h token) = some x := by
        obtain ⟨-, working | ⟨no, -⟩ | ⟨q, no, -⟩ | ⟨straps, no, -⟩⟩ := acts
        · exact Option.isSome_iff_exists.mp working
        all_goals cases no
      obtain ⟨f, frame, port⟩ := State.frame_of_inProgress working
      obtain rfl : p = q := by
        cases frame
        exact port
      have supply₄ : (takeTicksAt (otherSlots k) s).supplyLow = false := (supply_takeTicksAt _).trans supply
      have taken := exec_of_inProgress supply₄ ((inProgress_takeTicksAt (otherSlots k) _).trans working)
      rw [ticksBefore_of_taken (ticksTaken_takeTicksAt (otherSlots k) s)] at taken
      refine ⟨takeTicksAt (otherSlots k) s, ?_, ticksTaken_takeTicksAt (otherSlots k) s, _, taken, fun r ready => ?_⟩
      · rw [← spared]
        exact whenPowered_of_supply supply₃ (takeDeadlineTick allSlots)
      · have result : r.result = (nextBreakin p h token (takeTicksAt (otherSlots k) s)).1.result := by
          have held := ready
          rw [holdResponse, State.port_modPort, if_pos rfl, ExchangeState.ready.injEq] at held
          rw [← held]
          rfl
        have lapsing : s.lapsing p = some k := (lapsing_eq_some_iff s p k).mpr waits
        constructor
        · intro notOk
          have before : ticksBefore (.nextBreakin p h token) s = takeTicks s := by
            change ticksBeforeBreakin p (nextBreakin p h token) s = takeTicks s
            rw [ticksBeforeBreakin, lapsing]
            exact if_neg (result ▸ notOk)
          exact exec_takeTicksAt allSlots supply working before
        · intro ok
          have before : ticksBefore (.nextBreakin p h token) s = takeTicksAt (otherSlots k) s := by
            change ticksBeforeBreakin p (nextBreakin p h token) s = takeTicksAt (otherSlots k) s
            rw [ticksBeforeBreakin, lapsing]
            exact if_pos (result.symm.trans ok)
          obtain ⟨stack, record⟩ := nextBreakin_spared waits (result.symm.trans ok)
          exact ⟨(exec_takeTicksAt (otherSlots k) supply working before).trans taken, stack, fun _ => record⟩
  case tick =>
    obtain ⟨entry, lease, deadline⟩ := taken
    change whenPowered tickOnce s = _
    rw [whenPowered_of_supply supply, tickOnce, if_pos early, takeTicks_of_taken entry lease deadline]
  case saturated =>
    change whenPowered tickOnce s = _
    rw [whenPowered_of_supply supply, tickOnce, if_neg (by simp [late, Config.timeLimit])]
  case line => exact whenPowered_of_supply supply (fun s => s.modPort p (fun x => { x with resetLine := false }))
  case device => exact whenPowered_of_supply supply (fun s => { s with deviceReset := false })
  case dip => rfl
  case noDip => rfl
  case off =>
    cases frame : requestFrame c with
    | some f =>
      rw [exec_of_frame frame, serveAfter, whenPowered, if_pos low]
    | none =>
      cases c
      case coldReset straps lines => exact absurd rfl (other straps lines)
      case supplyBelowWorkingLevel seen =>
        cases seen with
        | false => rfl
        | true =>
          change Host.Outcome.next { s with supplyLow := true } = .next s
          rw [← low]
      all_goals exact exec_of_low low frame nofun nofun

end

end Sys2Proof.Machine
end

section
/-! The laws after a cold reset (R24, R187). -/

namespace Sys2Proof.Machine

section
variable (straps : Straps) (lines : ResetLines)

theorem record_cold (k : SlotNo) : (State.cold straps lines).record k = none := by
  simp [State.record, State.cold, Vector.get_eq_getElem, Slot.cold]

theorem breakin_cold (p : Port) : (State.cold straps lines).breakin p = BreakIn.cleared := by
  simp [State.breakin, State.cold, Vector.get_eq_getElem]

theorem entryOf_cold (p : Port) : (State.cold straps lines).entryOf p = EntryContext.closed := by
  simp [State.entryOf, State.cold, Vector.get_eq_getElem]

theorem noticeQueue_cold (p : Port) : (State.cold straps lines).noticeQueue p = NoticeQueue.empty := by
  simp [State.noticeQueue, State.cold, Vector.get_eq_getElem]

/-- A law about every record holds where there is none. -/
theorem everyRecord_cold (P : SlotNo → Message → Prop) : (State.cold straps lines).everyRecord P := by
  intro k m record
  rw [record_cold] at record
  cases record

theorem storeSound_cold : (State.cold straps lines).storeSound := by
  have records := record_cold straps lines
  refine (State.storeSound_iff _).mpr ⟨fun k m record => ?_, ⟨List.nodup_nil, nofun, fun k => ?_⟩, ?_, ?_, ?_⟩
  · rw [records] at record
    cases record
  · rw [records]
    exact ⟨nofun, nofun⟩
  · have nothing : allSlots.map (State.cold straps lines).slotSegments = allSlots.map (fun _ => 0) :=
      List.map_congr_left fun k _ => State.slotSegments_of_empty (records k)
    have none : (allSlots.map (fun _ => 0)).sum = 0 := by simp
    rw [State.segmentsKept_iff, nothing, none]
    exact (by decide : Config.segmentCount + 0 = 1024)
  · refine ⟨fun p o is => ?_, fun p _ => ?_, fun k p fills => ?_⟩
    · rw [entryOf_cold] at is
      cases is
    · rw [entryOf_cold]
      rfl
    · rw [State.fillsAt, records] at fills
      cases fills
  · refine ⟨fun p a is => ?_, fun p r member => ?_, fun p => ?_, fun k p token has => ?_, fun k p token x has => ?_⟩
    · rw [breakin_cold] at is
      cases is
    · rw [State.openRecords, breakin_cold] at member
      cases member
    · rw [State.openRecords, breakin_cold]
      exact List.nodup_nil
    · rw [State.gripAt, records] at has
      cases has
    · rw [State.gripAt, records] at has
      cases has

theorem breakInSound_cold : (State.cold straps lines).breakInSound := by
  refine ⟨fun p h is => ?_, fun p n member => ?_, fun p => ?_⟩
  · rw [breakin_cold] at is
    cases is
  · rw [noticeQueue_cold] at member
    cases member
  · have idle : (State.cold straps lines).activeClass p = none := by
      rw [State.activeClass, breakin_cold]
      rfl
    rw [State.classesInHand, breakin_cold, idle]
    exact ⟨Nat.zero_le 3, List.Pairwise.nil⟩

/-- A part after a cold reset obeys every law (R24, R187). -/
theorem lawful_cold : (State.cold straps lines).lawful where
  store := storeSound_cold straps lines
  notices p := by
    rw [noticeQueue_cold]
    exact ⟨Nat.zero_le 16, List.Pairwise.nil⟩
  breakIn := breakInSound_cold straps lines
  fences p pending := by
    have none : (State.cold straps lines).fences.get p = false := by simp [State.cold, Vector.get_eq_getElem]
    rw [none] at pending
    cases pending
  queues := everyRecord_cold straps lines _
  settings := by
    have route (i : Fin 24) : (State.cold straps lines).routes.get i = RouteEntry.cold := by
      simp [State.cold, Vector.get_eq_getElem]
    have scoring : Scoring.defaults.weightImmediate ≤ 255 ∧ Scoring.defaults.weightUrgent ≤ 255
        ∧ Scoring.defaults.weightWelfare ≤ 255 ∧ Scoring.defaults.weightRoutine ≤ 255 ∧ Scoring.defaults.shift ≤ 7
        ∧ Scoring.defaults.penalty ≤ 4095 ∧ 60 ≤ Scoring.defaults.lease ∧ Scoring.defaults.lease ≤ 3600 := by decide
    obtain ⟨immediate, urgent, welfare, routine, shift, penalty, least, most⟩ := scoring
    refine ⟨immediate, urgent, welfare, routine, shift, penalty, least, most, fun i => ?_⟩
    rw [route]
    decide
  numbers := ⟨Nat.le_refl 1, (by decide : 1 ≤ 4294967295), everyRecord_cold straps lines _⟩
  keys := everyRecord_cold straps lines _

end

/-- Settles O56: after a cold reset there is no record, no notice, no handoff and no pending fence. -/
theorem lawsHoldAtReset : Obligations.LawsHoldAtReset := ⟨lawful_cold _ _, lawful_cold⟩

end Sys2Proof.Machine
end

section
/-! The layouts of 11.3 to 11.6: where each field of the header stands, and which fields read as a station. -/

namespace Sys2Proof.Machine

/-! ### The header -/

theorem length_stationBytes {station : List Byte} (fits : station.length ≤ 8) : (stationBytes station).length = 8 := by
  rw [stationBytes, List.length_append, List.length_replicate]
  omega

theorem length_outcomePart {custody : Custody}
    (fits : ∀ station serial time, custody = .disposed (.relayed station serial) time → station.length ≤ 8) :
    (outcomePart custody).length = 11 := by
  cases custody with
  | disposed outcome time =>
    cases outcome with
    | relayed station serial =>
      have eight := length_stationBytes (fits station serial time rfl)
      simp only [outcomePart, List.length_append, eight, be1, be2, List.length_cons, List.length_nil]
    | delivered => rfl
  | filling | queued | handed | suspended | held | void => rfl

theorem boolBit_eq (b : Bool) (n : Nat) : n * boolBit b = if b = true then n else 0 := by
  cases b with
  | false => rfl
  | true => exact Nat.mul_one n

theorem portBits_eq (ports : PortSet) : portBits ports =
    (if ports.get 0 = true then 1 else 0) + (if ports.get 1 = true then 2 else 0)
      + (if ports.get 2 = true then 4 else 0) + (if ports.get 3 = true then 8 else 0) := by
  rw [portBits, boolBit_eq, boolBit_eq, boolBit_eq]
  rfl

theorem length_custodyPart {h : Handle} {m : Message} (fits : m.origin.length ≤ 8) : (custodyPart h m).length = 48 := by
  delta custodyPart
  simp only [List.length_append, length_stationBytes fits]
  rfl

/-- The part that stands at place i of a layout, and what follows it. -/
theorem next_part {b part rest : List Byte} {i n : Nat} (here : b.drop i = part ++ rest) (length : part.length = n) :
    (b.drop i).take n = part ∧ b.drop (i + n) = rest := by
  rw [← List.drop_drop, here]
  exact ⟨List.take_left' length, List.drop_left' length⟩

/-- The byte that stands at place i of a layout, and what follows it. -/
theorem next_byte {b rest : List Byte} {i n : Nat} (here : b.drop i = be1 n ++ rest) :
    b[i]? = some (BitVec.ofNat 8 n) ∧ b.drop (i + 1) = rest := by
  refine ⟨?_, (next_part here rfl).2⟩
  have byte := List.getElem?_drop (xs := b) (i := i) (j := 0)
  rw [here] at byte
  exact byte.symm

/-- The header in its parts, in their order (11.5). -/
theorem headerBytes_parts (h : Handle) (m : Message) : headerBytes h m =
    (be1 h.slot.val ++ be1 h.inc.toNat ++ be1 m.custody.name.code) ++ (be1 (headerClassByte m) ++ (stationBytes m.origin
      ++ ((be2 m.serial ++ be2 m.day ++ be1 m.hour ++ be1 m.minute ++ be2 m.area)
      ++ ((be2 (orZero m.declaredCheck) ++ be4 (orZero m.deadline)) ++ (be2 m.words ++ (be1 (headerCheckByte m)
      ++ (be1 (headerPortsByte m)
      ++ ((be2 m.text.length ++ be4 (Message.enteredAt m) ++ be4 (Message.number m))
      ++ ((be1 (m.bounces + 16 * m.copies) ++ be2 (twos 16 m.adjust) ++ be1 m.token.toNat)
      ++ (be4 (headerTime m.custody) ++ outcomePart m.custody)))))))))) := by
  delta headerBytes custodyPart handleBytes
  simp only [List.append_assoc]

theorem headerClassByte_eq (m : Message) : headerClassByte m =
    m.klass.code + (m.pendingUpgrade.elim 0 fun c => 4 + 8 * c.code)
      + (if m.declaredCheck.isSome = true then 32 else 0) + (if m.deadline.isSome = true then 64 else 0) := by
  rw [headerClassByte, boolBit_eq, boolBit_eq]
  cases m.pendingUpgrade with
  | none => rfl
  | some c => rfl

/-! ### A station -/

theorem stationChar_iff (c : Byte) : stationChar c = true ↔
    0x41 ≤ c.toNat ∧ c.toNat ≤ 0x5A ∨ 0x30 ≤ c.toNat ∧ c.toNat ≤ 0x39 ∨ c.toNat = 0x2F := by
  rw [stationChar, Bool.or_eq_true, Bool.or_eq_true, decide_eq_true_iff, decide_eq_true_iff, decide_eq_true_iff, or_assoc]

theorem nonzero_of_stationChar {c : Byte} (char : stationChar c = true) : decide (c ≠ 0) = true := by
  refine decide_eq_true fun zero => ?_
  rw [zero] at char
  exact absurd char (by decide)

/-- The characters of a field before its first 00h, where the field is those characters and then only 00h. -/
theorem takeWhile_nonzero {chars : List Byte} {n : Nat} (each : ∀ c ∈ chars, decide (c ≠ 0) = true) :
    (chars ++ List.replicate n (0 : Byte)).takeWhile (fun c => decide (c ≠ 0)) = chars
      ∧ (chars ++ List.replicate n (0 : Byte)).dropWhile (fun c => decide (c ≠ 0)) = List.replicate n 0 := by
  rw [List.takeWhile_append_of_pos each, List.dropWhile_append_of_pos each]
  cases n with
  | zero => exact ⟨List.append_nil chars, rfl⟩
  | succ n => exact ⟨List.append_nil chars, rfl⟩

/-- A field reads as a station exactly where it holds 3 to 8 station characters and then only 00h (R30, R192). -/
theorem readStation_eq_some_iff (f : StationField) (chars : List Byte) : readStation f = some chars ↔
    3 ≤ chars.length ∧ chars.length ≤ 8 ∧ (∀ c ∈ chars, stationChar c = true)
      ∧ f.toList = chars ++ List.replicate (8 - chars.length) 0 := by
  constructor
  · intro read
    rw [readStation] at read
    split at read
    · next good =>
      obtain ⟨short, long, all, rest⟩ := good
      obtain rfl := Option.some.inj read
      refine ⟨short, long, List.all_eq_true.mp all, ?_⟩
      have split := List.takeWhile_append_dropWhile (p := fun c : Byte => decide (c ≠ 0)) (l := f.toList)
      have zeros : f.toList.dropWhile (fun c => decide (c ≠ 0))
          = List.replicate (8 - (f.toList.takeWhile (fun c => decide (c ≠ 0))).length) 0 := by
        refine List.eq_replicate_iff.mpr ⟨?_, fun c mem => of_decide_eq_true (List.all_eq_true.mp rest c mem)⟩
        have total := congrArg List.length split
        rw [List.length_append, Vector.length_toList] at total
        omega
      rw [← zeros, split]
    · exact nomatch read
  · rintro ⟨short, long, all, field⟩
    obtain ⟨before, after⟩ := takeWhile_nonzero (n := 8 - chars.length) fun c mem => nonzero_of_stationChar (all c mem)
    rw [readStation, field, before, after]
    refine if_pos ⟨short, long, List.all_eq_true.mpr all, List.all_eq_true.mpr fun c mem => ?_⟩
    exact decide_eq_true (List.eq_of_mem_replicate mem)

/-! ### Numbers in their bytes -/

/-- Eight bits of a number, from bit k on. -/
theorem ofNat_div_eq_extractLsb' {w : Nat} (n : BitVec w) (k : Nat) :
    BitVec.ofNat 8 (n.toNat / 2 ^ k) = n.extractLsb' k 8 := by
  rw [BitVec.extractLsb', Nat.shiftRight_eq_div_pow]

theorem be2_toNat (n : BitVec 16) : be2 n.toNat = [n.extractLsb' 8 8, n.extractLsb' 0 8] := by
  rw [← ofNat_div_eq_extractLsb', ← ofNat_div_eq_extractLsb', Nat.pow_zero, Nat.div_one]
  rfl

theorem be4_toNat (n : BitVec 32) : be4 n.toNat
    = [n.extractLsb' 24 8, n.extractLsb' 16 8, n.extractLsb' 8 8, n.extractLsb' 0 8] := by
  rw [← ofNat_div_eq_extractLsb', ← ofNat_div_eq_extractLsb', ← ofNat_div_eq_extractLsb', ← ofNat_div_eq_extractLsb',
    Nat.pow_zero, Nat.div_one]
  rfl

theorem twos_toInt {bits : Nat} (n : BitVec bits) : twos bits n.toInt = n.toNat := by
  rw [twos, BitVec.toInt_eq_toNat_bmod, Int.bmod_emod]
  exact Nat.mod_eq_of_lt n.isLt

/-! ### The obligation -/

/-- Settles O15: the header is followed part by part, each found where the one before it ends; the codes are read off. -/
theorem fieldsStandInPlace : Obligations.FieldsStandInPlace := by
  unfold Obligations.FieldsStandInPlace
  refine ⟨fun h m origin relayed => ?_, fun f chars => ?_, rfl, rfl, rfl, rfl, rfl, rfl, rfl,
    fun c n token r => ⟨rfl, rfl, rfl, rfl, rfl⟩, fun h q two four => ?_⟩
  · intro b
    have parts : b.drop 0 = _ := headerBytes_parts h m
    obtain ⟨name, from3⟩ := next_part parts (n := 3) rfl
    obtain ⟨klass, from4⟩ := next_byte from3
    obtain ⟨station, from12⟩ := next_part from4 (length_stationBytes origin)
    obtain ⟨serial, from20⟩ := next_part from12 (n := 8) rfl
    obtain ⟨declared, from26⟩ := next_part from20 (n := 6) rfl
    obtain ⟨words, from28⟩ := next_part from26 (n := 2) rfl
    obtain ⟨check, from29⟩ := next_byte from28
    obtain ⟨ports, from30⟩ := next_byte from29
    obtain ⟨text, from40⟩ := next_part from30 (n := 10) rfl
    obtain ⟨bounces, from44⟩ := next_part from40 (n := 4) rfl
    obtain ⟨time, from48⟩ := next_part from44 (n := 4) rfl
    have custody : (custodyPart h m).length = 48 := length_custodyPart origin
    refine ⟨?_, List.take_left' custody, name, klass.trans ?_, station, serial, declared, words, check.trans ?_,
      ports.trans ?_, text, bounces, time.trans ?_, from48.trans ?_⟩
    · exact List.length_append.trans (congrArg₂ (· + ·) custody (length_outcomePart relayed))
    · refine congrArg (fun n => some (BitVec.ofNat 8 n)) ((headerClassByte_eq m).trans ?_)
      cases m.pendingUpgrade with
      | none => rfl
      | some c => rfl
    · refine congrArg (fun n => some (BitVec.ofNat 8 n)) ?_
      rw [headerCheckByte, boolBit_eq, boolBit_eq, boolBit_eq]
      refine congrArg (· + _) (congrArg₂ (· + ·) (congrArg (· + _) (congrArg (· + _) ?_)) ?_)
      · cases m.entry.map (fun e => e.check) with
        | none => rfl
        | some check => cases check <;> rfl
      · cases m.custody with
        | handed q deadline mark => cases mark <;> rfl
        | suspended q remaining mark => cases mark <;> rfl
        | filling | queued | held | disposed | void => rfl
    · refine congrArg (fun n => some (BitVec.ofNat 8 n)) ?_
      rw [headerPortsByte, portBits_eq]
      refine congrArg₂ (· + ·) rfl (congrArg (64 * ·) ?_)
      cases m.custody <;> rfl
    · refine congrArg be4 ?_
      cases m.custody <;> rfl
    · cases m.custody with
      | disposed outcome time =>
        cases outcome with
        | relayed station serial => rfl
        | delivered => rfl
      | filling | queued | handed | suspended | held | void => rfl
  · rw [readStation_eq_some_iff]
    simp only [stationChar_iff]
  · exact ⟨congrArg ([BitVec.ofNat 8 h.slot.val, ·]) (BitVec.ofNat_toNat 8 h.inc), rfl, rfl, rfl, be2_toNat two, be4_toNat four, twos_toInt two, twos_toInt four⟩

end Sys2Proof.Machine
end

section
/-! What the blocks do with the settings and the notice queues: no operation but a routing request, a CONFIGURE, an accepting
ENTER-END and a warm reset writes the settings, and each leaves every notice queue in form (R64, R91, R163). -/

namespace Sys2Proof.Machine

/-- The route table, the default route and the links, the scoring configuration and the entry number counter. -/
structure Settings where
  routes : Vector RouteEntry 24
  defaultRoute : Option Port
  links : Vector Bool 4
  scoring : Scoring
  nextEntryNumber : Nat

/-- The settings of the part. -/
def State.settings (s : State) : Settings :=
  { routes := s.routes, defaultRoute := s.defaultRoute, links := s.links, scoring := s.scoring
    nextEntryNumber := s.nextEntryNumber }

/-- The part t has the settings of s, and its notice queues are in form where those of s are. -/
structure Keeps (s t : State) : Prop where
  settings : t.settings = s.settings
  notices : ∀ p, (s.noticeQueue p).inForm → (t.noticeQueue p).inForm

section
variable {s t u : State}

theorem Keeps.refl (s : State) : Keeps s s := ⟨rfl, fun _ form => form⟩

theorem Keeps.trans (first : Keeps s t) (second : Keeps t u) : Keeps s u :=
  ⟨second.settings.trans first.settings, fun p form => second.notices p (first.notices p form)⟩

/-- What has the settings and the notice queues of t keeps what t keeps. -/
theorem Keeps.to (kept : Keeps s t) (settings : u.settings = t.settings) (notices : u.noticeQueues = t.noticeQueues) :
    Keeps s u :=
  kept.trans ⟨settings, fun p form => by rw [State.noticeQueue, notices]; exact form⟩

/-- What an operation keeps, its fold keeps. -/
theorem Keeps.foldl {α : Type} {f : State → α → State} (step : ∀ {t} a, Keeps s t → Keeps s (f t a)) (as : List α)
    (kept : Keeps s t) : Keeps s (as.foldl f t) := by
  induction as generalizing t with
  | nil => exact kept
  | cons a as ih => exact ih (step a kept)

theorem Keeps.ite {c : Prop} [Decidable c] (yes : Keeps s t) (no : Keeps s u) : Keeps s (if c then t else u) := by
  split
  · exact yes
  · exact no

/-- A notice queue is changed by what keeps it in form. -/
theorem Keeps.modNoticeQueue {g : NoticeQueue → NoticeQueue} (kept : Keeps s t) (p : Port)
    (form : ∀ q : NoticeQueue, q.inForm → (g q).inForm) : Keeps s (t.modNoticeQueue p g) := by
  refine kept.trans ⟨rfl, fun q before => ?_⟩
  refine (congrArg NoticeQueue.inForm (get_vmod ..)).mpr ?_
  split
  · exact form _ before
  · exact before

end

/-- A part of the items of a queue in form is in form. -/
theorem NoticeQueue.inForm_of_sublist {q : NoticeQueue} {items : List Notice} {overrun : Bool} (form : q.inForm)
    (part : items.Sublist q.items) : NoticeQueue.inForm { items := items, overrun := overrun } :=
  ⟨part.length_le.trans form.1, form.2.sublist part⟩

theorem NoticeQueue.inForm_empty : NoticeQueue.empty.inForm := ⟨Nat.zero_le 16, List.Pairwise.nil⟩

/-! ### The shared operations -/

section
variable {s t : State} (kept : Keeps s t)
include kept

theorem Keeps.post (p : Port) (kind : NoticeKind) (h : Option Handle) (d : Detail) : Keeps s (post p kind h d t) :=
  kept.modNoticeQueue p fun _ form => NoticeQueue.join_inForm _ form

theorem Keeps.postEach (ports : PortSet) (kind : NoticeKind) (h : Option Handle) (d : Detail) :
    Keeps s (postEach ports kind h d t) :=
  Keeps.foldl (fun p kept => .ite (kept.post p kind h d) kept) allPorts kept

theorem Keeps.notifyWatchers (k : SlotNo) : Keeps s (notifyWatchers k t) := by
  unfold Machine.notifyWatchers
  split
  · exact kept
  · exact kept.postEach ..

theorem Keeps.reportHeld (k : SlotNo) : Keeps s (reportHeld k t) := by
  unfold Machine.reportHeld
  split
  · exact kept
  · split
    · exact kept
    · exact kept.postEach ..

theorem Keeps.completeFence (p : Port) : Keeps s (completeFence p t) := by
  unfold Machine.completeFence
  split
  · have off : Keeps s { t with fences := vmod t.fences p (fun _ => false) } := kept.to rfl rfl
    exact off.post ..
  · exact kept

theorem Keeps.settleFences (before : Nat) : Keeps s (settleFences before t) :=
  .ite (Keeps.foldl (fun p kept => kept.completeFence p) allPorts kept) kept

theorem Keeps.modBreakin (p : Port) (f : BreakIn → BreakIn) : Keeps s (t.modBreakin p f) := kept.to rfl rfl

theorem Keeps.modRecord (k : SlotNo) (f : Message → Message) : Keeps s (t.modRecord k f) := kept.to rfl rfl

theorem Keeps.modEntry (p : Port) (f : EntryContext → EntryContext) : Keeps s (t.modEntry p f) := kept.to rfl rfl

theorem Keeps.setStickyFlags (p : Port) (es : List Evaluation) : Keeps s (setStickyFlags p es t) := kept.to rfl rfl

theorem Keeps.withdrawBreakIn (p : Port) (h : Handle) : Keeps s (withdrawBreakIn p h t) :=
  kept.modNoticeQueue p fun _ form => NoticeQueue.inForm_of_sublist form List.filter_sublist

theorem Keeps.clearPendingBreakIn (p : Port) : Keeps s (clearPendingBreakIn p t) := by
  unfold Machine.clearPendingBreakIn
  split
  · exact kept
  · exact (kept.modBreakin ..).withdrawBreakIn ..

theorem Keeps.clearActive (p : Port) : Keeps s (clearActive p t) := (kept.modBreakin ..).clearPendingBreakIn p

theorem Keeps.raiseBreakIn (p : Port) (k : SlotNo) : Keeps s (raiseBreakIn p k t) := by
  unfold Machine.raiseBreakIn
  split
  · exact kept
  · exact (kept.modBreakin ..).post ..

theorem Keeps.breakInCheck (p : Port) : Keeps s (breakInCheck p t) := by
  unfold Machine.breakInCheck
  split
  · exact kept
  · split
    · split
      · exact kept
      · exact (kept.setStickyFlags ..).raiseBreakIn ..
    · exact kept

theorem Keeps.departed (p : Port) (h : Handle) : Keeps s (departed p h t) :=
  .ite ((kept.clearPendingBreakIn p).breakInCheck p) kept

/-- A departure keeps what the act keeps. -/
theorem Keeps.leaveQueue (p : Port) (h : Handle) {act : State → State} (acts : ∀ {u}, Keeps s u → Keeps s (act u)) :
    Keeps s (leaveQueue p h act t) := by
  obtain ⟨-, e⟩ | ⟨-, ⟨-, e⟩ | ⟨-, e⟩⟩ := leaveQueue_cases p h act t
  · exact e ▸ acts kept
  · exact e ▸ ((acts (kept.modBreakin ..)).withdrawBreakIn ..).breakInCheck p
  · exact e ▸ acts (kept.clearPendingBreakIn p)

theorem Keeps.joinQueue (k : SlotNo) (q : Port) : Keeps s (joinQueue k q t) := by
  have told := (kept.modRecord k (fun m => { Message.applyUpgrade m with custody := .queued })).notifyWatchers k
  exact (Keeps.ite (told.post ..) told).breakInCheck q

theorem Keeps.holdFor (k : SlotNo) (r : HoldReason) (p : Option Port) : Keeps s (holdFor k r p t) := kept.modRecord ..

theorem Keeps.holdAndTell (k : SlotNo) (r : HoldReason) (p : Option Port) : Keeps s (holdAndTell k r p t) :=
  ((kept.holdFor k r p).notifyWatchers k).reportHeld k

theorem Keeps.returnToQueue (k : SlotNo) (p : Port) : Keeps s (returnToQueue k p t) := by
  have changed := kept.modRecord k Message.applyUpgrade
  unfold Machine.returnToQueue
  dsimp only
  split
  · exact changed
  · split
    · exact changed.holdAndTell ..
    · split
      · exact changed.joinQueue ..
      · exact changed.holdAndTell ..

theorem Keeps.bounce (k : SlotNo) (p : Port) (e : HistoryEvent) : Keeps s (bounce k p e t) := by
  unfold Machine.bounce
  dsimp only
  split
  · exact kept.modRecord ..
  · split
    · exact (kept.modRecord ..).holdAndTell ..
    · exact (kept.modRecord ..).returnToQueue ..

theorem Keeps.handOut (k : SlotNo) (p : Port) : Keeps s (handOut k p t) := by
  unfold Machine.handOut
  dsimp only
  split
  · exact (kept.modRecord ..).departed ..
  · exact (((kept.modRecord ..).departed ..).modBreakin ..).notifyWatchers k

theorem Keeps.retain (h : Handle) : Keeps s (retain h t) := kept.to rfl rfl

theorem Keeps.freeSlot (k : SlotNo) : Keeps s (freeSlot k t) := by
  unfold Machine.freeSlot
  split
  · exact kept
  · exact kept.to rfl rfl

theorem Keeps.reclaim (k : SlotNo) : Keeps s (reclaim k t) := by
  unfold Machine.reclaim
  split
  · exact kept
  · exact (kept.postEach ..).freeSlot k

theorem Keeps.reclaimForSegment (hs : List Handle) : Keeps s (reclaimForSegment hs t) := by
  induction hs generalizing t with
  | nil => exact kept
  | cons h hs ih => exact .ite kept (ih (kept.reclaim h.slot))

theorem Keeps.takeSegments (n : Nat) : Keeps s (takeSegments n t) :=
  .ite kept ((kept.reclaimForSegment t.retained).to rfl rfl)

theorem Keeps.closeEntry (p : Port) : Keeps s (closeEntry p t) := kept.modEntry ..

theorem Keeps.abandonEntry (p : Port) : Keeps s (abandonEntry p t) := by
  unfold Machine.abandonEntry
  split
  · exact kept.closeEntry p
  · exact (kept.freeSlot _).closeEntry p

theorem Keeps.becomeVoid (k : SlotNo) (p : Port) : Keeps s (becomeVoid k p t) :=
  ((kept.modRecord ..).retain _).notifyWatchers k

/-! ### A routing change -/

theorem Keeps.reresolveQueued (p : Port) (k : SlotNo) : Keeps s (reresolveQueued p t k) := by
  unfold Machine.reresolveQueued
  split
  · exact kept
  · split
    · split
      · exact kept
      · exact kept.holdAndTell ..
    · exact kept

theorem Keeps.releaseUnrouted (p : Port) (k : SlotNo) : Keeps s (releaseUnrouted p t k) := by
  unfold Machine.releaseUnrouted
  split
  · exact kept
  · split
    · split
      · exact kept
      · exact .ite (((kept.modRecord ..).holdFor ..).reportHeld k) ((kept.modRecord ..).notifyWatchers k)
    · exact kept

theorem Keeps.handOverMembership (old : State) (q : Port) : Keeps s (handOverMembership old t q) := by
  unfold Machine.handOverMembership
  dsimp only
  have ready : Keeps s (if (old.queue q).isEmpty = true ∧ (!(t.queue q).isEmpty) = true then reportQueueReady q t else t) :=
    .ite (kept.post ..) kept
  obtain ⟨u, is, ready⟩ : ∃ u, u = (if (old.queue q).isEmpty = true ∧ (!(t.queue q).isEmpty) = true
    then reportQueueReady q t else t) ∧ Keeps s u := ⟨_, rfl, ready⟩
  rw [← is]
  refine Keeps.ite (Keeps.breakInCheck ?_ q) ?_
  all_goals
    split
    · exact ready
    · exact .ite ready ((ready.clearPendingBreakIn q).breakInCheck q)

theorem Keeps.routingEffects (p : Port) (old : State) : Keeps s (routingEffects p old t).1 := by
  have marked : Keeps s (markHandoffs t) := kept.to rfl rfl
  unfold Machine.routingEffects
  dsimp only
  exact Keeps.foldl (fun q kept => kept.handOverMembership old q) allPorts
    (Keeps.foldl (fun k kept => kept.releaseUnrouted p k) allSlots
      (Keeps.foldl (fun k kept => kept.reresolveQueued p k) allSlots marked))

/-! ### The ticks and the returns of a port reset -/

theorem Keeps.timeOutEntry (p : Port) : Keeps s (timeOutEntry t p) := by
  unfold Machine.timeOutEntry
  split
  · exact kept
  · exact .ite (((kept.freeSlot _).closeEntry p).post ..) kept

theorem Keeps.lapseIfDue (k : SlotNo) : Keeps s (lapseIfDue t k) := by
  unfold Machine.lapseIfDue
  split
  · exact kept
  · split
    · exact .ite ((((kept.clearActive _).post ..).bounce ..).settleFences _) kept
    all_goals exact kept

theorem Keeps.expireIfDue (k : SlotNo) : Keeps s (expireIfDue t k) := by
  unfold Machine.expireIfDue
  split
  · exact kept
  · split
    · split
      · exact kept.leaveQueue _ _ fun kept => kept.holdAndTell ..
      · exact kept.holdAndTell ..
    · exact kept

theorem Keeps.takeEntryTick : Keeps s (takeEntryTick t) :=
  .ite (Keeps.foldl (fun p kept => kept.timeOutEntry p) allPorts (kept.to rfl rfl)) kept

theorem Keeps.takeLeaseTick (slots : List SlotNo) : Keeps s (takeLeaseTick slots t) :=
  .ite (Keeps.foldl (fun k kept => kept.lapseIfDue k) slots (kept.to rfl rfl)) kept

theorem Keeps.takeDeadlineTick (leases : List SlotNo) : Keeps s (takeDeadlineTick leases t) := by
  have leased := kept.takeLeaseTick leases
  exact .ite (Keeps.foldl (fun k kept => kept.expireIfDue k) allSlots (leased.to rfl rfl)) leased

theorem Keeps.takeTicksAt (leases : List SlotNo) : Keeps s (takeTicksAt leases t) :=
  kept.takeEntryTick.takeDeadlineTick leases

end

/-! ### The requests -/

section
variable {s t : State} (kept : Keeps s t)
include kept

theorem Keeps.creditDuplicate (k : SlotNo) (c : Class) : Keeps s (creditDuplicate k c t) := by
  unfold Machine.creditDuplicate
  dsimp only
  split
  · exact kept
  · next m _ =>
    have told := Keeps.ite (c := (creditCopy c m).klass ≠ m.klass ∨ (creditCopy c m).pendingUpgrade ≠ m.pendingUpgrade)
      ((kept.modRecord k (creditCopy c)).notifyWatchers k) (kept.modRecord k (creditCopy c))
    split
    · split
      · exact told.breakInCheck _
      · exact told
    · exact told

theorem Keeps.place (p : Port) (k : SlotNo) : Keeps s (place p k t) := by
  unfold Machine.place
  split
  · exact kept
  · split
    · exact (kept.holdFor ..).reportHeld k
    · exact .ite ((kept.holdFor ..).reportHeld k) (kept.joinQueue ..)

theorem Keeps.makeRoom : Keeps s (makeRoom t) := by
  unfold Machine.makeRoom
  split
  · exact kept
  · split
    · exact kept
    · exact kept.reclaim _

theorem Keeps.refreshEntry (p : Port) (k : SlotNo) : Keeps s (refreshEntry p k t) := by
  unfold Machine.refreshEntry
  split
  · exact kept
  · exact .ite (kept.modEntry ..) kept

theorem Keeps.applyReport (k : SlotNo) (p : Port) (r : Report) : Keeps s (applyReport k p r t) := by
  cases r with
  | relayed station serial => exact ((kept.modRecord ..).retain _).notifyWatchers k
  | delivered => exact ((kept.modRecord ..).retain _).notifyWatchers k
  | bounced => exact kept.bounce ..
  | refused => exact (kept.modRecord ..).holdAndTell ..

theorem Keeps.switchEnable (p : Port) (on : Bool) : Keeps s (switchEnable p on t) :=
  .ite kept (.ite ((kept.modBreakin ..).breakInCheck p) ((kept.modBreakin ..).clearPendingBreakIn p))

theorem Keeps.suspend (k : SlotNo) (p : Port) (a : Handoff) (m : Message) : Keeps s (suspend k p a m t) :=
  ((((kept.modBreakin ..).modRecord ..).notifyWatchers k).modBreakin ..).clearPendingBreakIn p

theorem Keeps.holdMessage (k : SlotNo) (p : Port) : Keeps s (holdMessage k p t) := by
  unfold Machine.holdMessage
  dsimp only
  split
  · exact (((kept.modRecord ..).departed ..).modRecord ..).notifyWatchers k
  · exact ((kept.modRecord ..).modRecord ..).notifyWatchers k

theorem Keeps.holdAgain (k : SlotNo) (r : HoldReason) (p : Port) (changed : Bool) : Keeps s (holdAgain k r p changed t) := by
  have held := (kept.modRecord k (Message.log t.seconds (some p) .released)).holdFor k r (some p)
  exact (Keeps.ite (held.notifyWatchers k) held).reportHeld k

theorem Keeps.releaseMessage (k : SlotNo) (p : Port) (m : Message) : Keeps s (releaseMessage k p m t).2 := by
  have released := kept.modRecord k Message.released
  unfold Machine.releaseMessage
  dsimp only
  split
  · exact released.holdAgain ..
  · split
    · exact (released.modRecord ..).joinQueue ..
    · exact released.holdAgain ..

theorem Keeps.voidMessage (k : SlotNo) (p : Port) (m : Message) : Keeps s (voidMessage k p m t) := by
  unfold Machine.voidMessage
  dsimp only
  split
  · split
    · exact kept.leaveQueue _ _ fun kept => kept.becomeVoid k p
    · exact kept.becomeVoid k p
  · exact (((kept.clearActive _).post ..).becomeVoid k p).settleFences _
  · exact (((kept.modBreakin ..).post ..).becomeVoid k p).settleFences _
  all_goals exact kept.becomeVoid k p

theorem Keeps.amendClass (k : SlotNo) (c : Class) (m : Message) : Keeps s (amendClass k c m t) := by
  have changed := kept.modRecord k (fun m => { m with klass := c, pendingUpgrade := none })
  have told := Keeps.ite (c := c ≠ m.klass ∨ m.pendingUpgrade ≠ none) (changed.notifyWatchers k) changed
  unfold Machine.amendClass
  dsimp only
  split
  · exact told
  · refine .ite (told.breakInCheck _) (.ite ?_ told)
    split
    · exact told
    · exact .ite told (told.departed ..)

theorem Keeps.amendMessage (k : SlotNo) (f : AmendFields) (m : Message) : Keeps s (amendMessage k f m t) := by
  have adjusted := Keeps.ite (c := AmendFields.hasAdjust f = true)
    (kept.modRecord k (fun m => { m with adjust := clampAdjust f.adjust.toInt })) kept
  unfold Machine.amendMessage
  dsimp only
  split
  · exact adjusted.amendClass ..
  · exact adjusted

end

end Sys2Proof.Machine
end

section
/-! The moves of which everything that the part does to its records is made, but for the opening of an entry and the cold
reset: records changed, a slot freed, the routing changed, an entry number given, a message entered. A law of the records that
every move keeps is kept by every command. The clauses behind `strict` are those that a move has only in a sound store. -/

namespace Sys2Proof.Machine

/-! ### A message changed -/

/-- What no change of a record writes once the message is entered: the area, the duplicate key and the entry fields. -/
def Message.identity (m : Message) : Nat × List Byte × Nat × Nat × Option Entry :=
  (m.area, m.origin, m.serial, m.day, m.entry)

/-- Message n is what a change of the record of m may leave, in a part with the routing of s. -/
structure Follows (strict : Prop) (s : State) (m n : Message) : Prop where
  identity : n.identity = m.identity
  holds : strict → n.holdsKey = true → m.holdsKey = true
  queued : n.custody = .queued → (m.custody = .queued ∨ (s.resolve n.area).isSome = true)
    ∧ (n.pendingUpgrade = none ∨ m.custody = .queued ∧ n.pendingUpgrade = m.pendingUpgrade)

theorem Follows.refl (strict : Prop) (s : State) (m : Message) : Follows strict s m m :=
  ⟨rfl, fun _ is => is, fun queued => ⟨.inl queued, .inr ⟨queued, rfl⟩⟩⟩

theorem Message.area_of_identity {m n : Message} (same : n.identity = m.identity) : n.area = m.area :=
  congrArg Prod.fst same

theorem Message.identity_of_content {m n : Message} (same : n.content = m.content) : n.identity = m.identity :=
  Message.view_of_content Message.identity same

section
variable {strict : Prop} {s t : State} {m n u : Message}

theorem Follows.trans (first : Follows strict s m n) (second : Follows strict s n u) : Follows strict s m u := by
  have area := Message.area_of_identity second.identity
  refine ⟨second.identity.trans first.identity, fun is holds => first.holds is (second.holds is holds), fun queued => ?_⟩
  obtain ⟨was, upgrade⟩ := second.queued queued
  refine ⟨?_, ?_⟩
  · obtain was | resolves := was
    · rw [area]
      exact (first.queued was).1
    · exact .inr resolves
  · obtain none | ⟨was, same⟩ := upgrade
    · exact .inl none
    · rw [same]
      exact (first.queued was).2

/-- What is not left QUEUED need not resolve. -/
theorem Follows.of_not_queued (identity : n.identity = m.identity) (holds : strict → m.holdsKey = true)
    (not : n.custody ≠ .queued) : Follows strict s m n :=
  ⟨identity, fun is _ => holds is, fun queued => absurd queued not⟩

/-- A change that leaves the custody, and the pending upgrade of a QUEUED message. -/
theorem Follows.of_custody (identity : n.identity = m.identity) (custody : n.custody = m.custody)
    (upgrade : m.custody = .queued → n.pendingUpgrade = m.pendingUpgrade) : Follows strict s m n := by
  have holds : n.holdsKey = m.holdsKey := by rw [Message.holdsKey, Message.holdsKey, custody]
  refine ⟨identity, fun _ is => holds ▸ is, fun queued => ?_⟩
  rw [custody] at queued
  exact ⟨.inl queued, .inr ⟨queued, upgrade queued⟩⟩

/-- What is left QUEUED resolves and has no pending upgrade. -/
theorem Follows.of_placed (identity : n.identity = m.identity) (holds : strict → m.holdsKey = true)
    (placed : n.custody = .queued → (s.resolve m.area).isSome = true ∧ n.pendingUpgrade = none) : Follows strict s m n := by
  refine ⟨identity, fun is _ => holds is, fun queued => ?_⟩
  obtain ⟨resolves, none⟩ := placed queued
  rw [Message.area_of_identity identity]
  exact ⟨.inr resolves, .inl none⟩

/-- The routing of s is what a change depends on. -/
theorem Follows.congr (follows : Follows strict s m n) (resolve : ∀ area, t.resolve area = s.resolve area) :
    Follows strict t m n := by
  refine ⟨follows.identity, follows.holds, fun queued => ?_⟩
  rw [resolve]
  exact follows.queued queued

/-! ### The changes of a message -/

theorem Follows.log (now : Nat) (p : Option Port) (e : HistoryEvent) : Follows strict s m (Message.log now p e m) :=
  .of_custody (Message.identity_of_content (Message.content_log ..)) (Message.log_custody ..)
    fun _ => Message.log_pendingUpgrade ..

/-- A message is held that holds its key. -/
theorem Follows.held (holds : strict → m.holdsKey = true) (now : Nat) (p : Option Port) (r : HoldReason) :
    Follows strict s m (Message.log now p .held { m with custody := .held r }) := by
  refine .of_not_queued (Message.identity_of_content (Message.content_log ..)) holds ?_
  rw [Message.log_custody]
  simp

/-- A message that returned is QUEUED only where it resolves, without a pending upgrade (R112, R113). -/
theorem returned_queued {now : Nat} {p : Port} {resolves : Bool} (queued : (returned now p resolves m).custody = .queued) :
    resolves = true ∧ (returned now p resolves m).pendingUpgrade = none := by
  have upgrade : (Message.applyUpgrade m).pendingUpgrade = none := by rw [Message.applyUpgrade_frame]
  unfold returned at queued ⊢
  dsimp only at queued ⊢
  split at queued
  · rw [Message.log_custody] at queued
    cases queued
  · split at queued
    · next late ok => rw [if_neg late, if_pos ok]; exact ⟨ok, upgrade⟩
    · rw [Message.log_custody] at queued
      cases queued

theorem Follows.returned (holds : strict → m.holdsKey = true) (now : Nat) (p : Port) {resolves : Bool}
    (is : resolves = (s.resolve m.area).isSome) : Follows strict s m (returned now p resolves m) := by
  refine .of_placed (Message.identity_of_content (content_returned ..)) holds fun queued => ?_
  obtain ⟨ok, none⟩ := returned_queued queued
  exact ⟨is ▸ ok, none⟩

theorem Follows.bounced (holds : strict → m.holdsKey = true) (now : Nat) (p : Port) (e : HistoryEvent) {resolves : Bool}
    (is : resolves = (s.resolve m.area).isSome) : Follows strict s m (bounced now p e resolves m) := by
  have counted : Follows strict s m { m with bounces := m.bounces + 1 } := .of_custody rfl rfl fun _ => rfl
  have logged := counted.trans (.log now (some p) e)
  have holds' (is : strict) : (Message.log now (some p) e { m with bounces := m.bounces + 1 }).holdsKey = true := by
    rw [Message.holdsKey, Message.log_custody]
    exact holds is
  have resolves' : resolves = (s.resolve (Message.log now (some p) e { m with bounces := m.bounces + 1 }).area).isSome := by
    rw [Message.log_area]
    exact is
  unfold Machine.bounced
  dsimp only
  split
  · exact logged.trans (.held holds' ..)
  · exact logged.trans (.returned holds' now p resolves')

/-- A message after a routing change is QUEUED only where it resolves, as it was or without a pending upgrade (R75, R76). -/
theorem rerouted_queued {now : Nat} {p : Port} {resolves : Bool} (queued : (rerouted now p resolves m).custody = .queued) :
    resolves = true ∧ ((rerouted now p resolves m).pendingUpgrade = none ∨ m.custody = .queued ∧ rerouted now p resolves m = m)
      := by
  unfold rerouted at queued ⊢
  cases custody : m.custody with
  | queued =>
    cases resolves with
    | true => exact ⟨rfl, .inr ⟨rfl, rfl⟩⟩
    | false => simp [custody] at queued
  | held r =>
    cases r with
    | unrouted =>
      cases resolves with
      | true =>
        have upgrade : (Message.applyUpgrade m).pendingUpgrade = none := by rw [Message.applyUpgrade_frame]
        simp only [custody, if_true] at queued ⊢
        split at queued
        · rw [Message.log_custody] at queued
          cases queued
        · next late => rw [if_neg late]; exact ⟨trivial, .inl ((Message.log_pendingUpgrade ..).trans upgrade)⟩
      | false => simp [custody] at queued
    | bounceLimit | refused | deadlinePassed | control => simp [custody] at queued
  | filling | handed | suspended | disposed | void => simp [custody] at queued

/-- A routing change makes no message the holder of its key (R74 to R76). -/
theorem holdsKey_rerouted (now : Nat) (p : Port) (resolves : Bool) (m : Message) :
    (rerouted now p resolves m).holdsKey = m.holdsKey := by
  unfold rerouted
  cases custody : m.custody with
  | queued => cases resolves <;> simp [Message.holdsKey, custody]
  | held r =>
    cases r with
    | unrouted =>
      cases resolves with
      | true => simp only [if_true]; split <;> simp [Message.holdsKey, custody]
      | false => simp [Message.holdsKey, custody]
    | bounceLimit | refused | deadlinePassed | control => rfl
  | handed | suspended => simp [Message.holdsKey, custody]
  | filling | disposed | void => rfl

theorem Follows.rerouted (now : Nat) (p : Port) {resolves : Bool} (is : resolves = (s.resolve m.area).isSome) :
    Follows strict s m (rerouted now p resolves m) := by
  have identity := Message.identity_of_content (content_rerouted now p resolves m)
  refine ⟨identity, fun _ holds => (holdsKey_rerouted ..).symm.trans holds, fun queued => ?_⟩
  obtain ⟨ok, none | ⟨was, same⟩⟩ := rerouted_queued queued
  · rw [Message.area_of_identity identity]
    exact ⟨.inr (is ▸ ok), .inl none⟩
  · exact ⟨.inl was, .inr ⟨was, by rw [same]⟩⟩

/-- A message on its way back at a warm reset is QUEUED as it was or without a pending upgrade (R120). -/
theorem warmReturn_queued {now : Nat} (queued : (warmReturn now m).custody = .queued) :
    (warmReturn now m).pendingUpgrade = none ∨ m.custody = .queued ∧ warmReturn now m = m := by
  cases held : m.custody.holder with
  | none =>
    have same := warmReturn_of_loose now held
    rw [same] at queued
    exact .inr ⟨queued, same⟩
  | some p =>
    have upgrade : (Message.applyUpgrade (requeued now p m)).pendingUpgrade = none := by rw [Message.applyUpgrade_frame]
    rw [warmReturn_of_held now held] at queued ⊢
    split at queued
    · rw [Message.log_custody] at queued
      cases queued
    · next late => rw [if_neg late]; exact .inl upgrade

theorem holdsKey_warmReturn (now : Nat) (m : Message) : (warmReturn now m).holdsKey = m.holdsKey := by
  cases held : m.custody.holder with
  | none => rw [warmReturn_of_loose now held]
  | some p =>
    have was : m.holdsKey = true := by
      unfold Message.holdsKey
      cases custody : m.custody with
      | handed | suspended => rfl
      | filling | queued | held | disposed | void => simp [custody, Custody.holder] at held
    rw [warmReturn_of_held now held, was]
    split
    · simp [Message.holdsKey]
    · rfl

/-- The re-resolution of a message at a warm reset (R82). -/
theorem warmResolve_queued {now : Nat} {resolves : Bool} (queued : (warmResolve now resolves m).custody = .queued) :
    resolves = true ∧ ((warmResolve now resolves m).pendingUpgrade = none ∨ m.custody = .queued ∧ warmResolve now resolves m = m)
      := by
  unfold warmResolve at queued ⊢
  cases custody : m.custody with
  | queued =>
    cases resolves with
    | true => exact ⟨rfl, .inr ⟨rfl, rfl⟩⟩
    | false => simp [custody] at queued
  | held r =>
    cases r with
    | unrouted =>
      cases resolves with
      | true =>
        have upgrade : (Message.applyUpgrade m).pendingUpgrade = none := by rw [Message.applyUpgrade_frame]
        simp only [custody, if_true] at queued ⊢
        split at queued
        · rw [Message.log_custody] at queued
          cases queued
        · next late => rw [if_neg late]; exact ⟨trivial, .inl ((Message.log_pendingUpgrade ..).trans upgrade)⟩
      | false => simp [custody] at queued
    | bounceLimit | refused | deadlinePassed | control => simp [custody] at queued
  | filling | handed | suspended | disposed | void => simp [custody] at queued

theorem holdsKey_warmResolve (now : Nat) (resolves : Bool) (m : Message) :
    (warmResolve now resolves m).holdsKey = m.holdsKey := by
  unfold warmResolve
  cases custody : m.custody with
  | queued => cases resolves <;> simp [Message.holdsKey, custody]
  | held r =>
    cases r with
    | unrouted =>
      cases resolves with
      | true => simp only [if_true]; split <;> simp [Message.holdsKey, custody]
      | false => simp [Message.holdsKey, custody]
    | bounceLimit | refused | deadlinePassed | control => rfl
  | filling | handed | suspended | disposed | void => rfl

/-- A record after a warm reset is QUEUED only where it resolves, as it was or without a pending upgrade (R82, R120). -/
theorem warmRecord_queued (queued : (warmRecord s m).custody = .queued) :
    (s.resolve m.area).isSome = true ∧ ((warmRecord s m).pendingUpgrade = none
      ∨ m.custody = .queued ∧ (warmRecord s m).pendingUpgrade = m.pendingUpgrade) := by
  unfold warmRecord at queued ⊢
  dsimp only at queued ⊢
  obtain ⟨resolves, none | ⟨was, same⟩⟩ := warmResolve_queued queued
  · rw [(warmReturn_keeps s.seconds m).1] at resolves
    exact ⟨resolves, .inl none⟩
  · rw [(warmReturn_keeps s.seconds m).1] at resolves
    refine ⟨resolves, ?_⟩
    rw [same]
    obtain none | ⟨was, still⟩ := warmReturn_queued was
    · exact .inl none
    · exact .inr ⟨was, by rw [still]⟩

theorem identity_warmReturn (now : Nat) (m : Message) : (warmReturn now m).identity = m.identity := by
  cases held : m.custody.holder with
  | none => rw [warmReturn_of_loose now held]
  | some p =>
    have requeue : (Message.applyUpgrade (requeued now p m)).identity = m.identity :=
      (Message.identity_of_content (Message.content_applyUpgrade _)).trans
        (Message.identity_of_content (Message.content_log ..) : (requeued now p m).identity
          = ({ m with token := m.token + 1 } : Message).identity)
    rw [warmReturn_of_held now held]
    split
    · exact (Message.identity_of_content (Message.content_log ..)).trans requeue
    · exact requeue

theorem Follows.warmRecord : Follows strict s m (warmRecord s m) := by
  have identity : (Machine.warmRecord s m).identity = m.identity :=
    (Message.identity_of_content (warmResolve_content ..)).trans (identity_warmReturn s.seconds m)
  refine ⟨identity, fun _ holds => ?_, fun queued => ?_⟩
  · rw [← holdsKey_warmReturn s.seconds, ← holdsKey_warmResolve s.seconds]
    exact holds
  · obtain ⟨resolves, none | ⟨was, same⟩⟩ := warmRecord_queued queued
    · rw [Message.area_of_identity identity]
      exact ⟨.inr resolves, .inl none⟩
    · exact ⟨.inl was, .inr ⟨was, same⟩⟩

end

/-! ### The moves -/

/-- The slots of t are those of s with each record changed. -/
def Maps (s : State) (f : SlotNo → Message → Message) (t : State) : Prop :=
  ∀ k, t.slot k = { s.slot k with record := (s.record k).map (f k) }

/-- One move of the part. -/
inductive Move (strict : Prop) (s : State) : State → Prop
  | records {t : State} (f : SlotNo → Message → Message) (maps : Maps s f t)
      (each : ∀ k m, s.record k = some m → Follows strict s m (f k m)) (settings : t.settings = s.settings) :
      Move strict s t
  | freed {t : State} (k : SlotNo) (full : (s.record k).isSome = true)
      (slot : ∀ j, t.slot j = if k = j then { inc := (s.slot j).inc + 1, record := none } else s.slot j)
      (settings : t.settings = s.settings) : Move strict s t
  | routing {t : State} (f : SlotNo → Message → Message) (maps : Maps s f t)
      (each : ∀ k m, s.record k = some m → Follows strict t m (f k m))
      (placed : ∀ k m, s.record k = some m → (f k m).custody = .queued → (t.resolve m.area).isSome = true)
      (next : t.nextEntryNumber = s.nextEntryNumber) : Move strict s t
  | scored {t : State} (slots : t.slots = s.slots) (settings : t.settings = { s.settings with scoring := t.scoring }) :
      Move strict s t
  | numbered {t : State} (k : SlotNo) (m n : Message) (e : Entry) (record : s.record k = some m)
      (filling : n.custody = .filling) (entry : n.entry = some e) (fresh : s.numberInUse e.number = false)
      (slots : t.slots = (s.withRecord k n).slots) (next : 1 ≤ t.nextEntryNumber ∧ t.nextEntryNumber ≤ 4294967295)
      (settings : t.settings = { s.settings with nextEntryNumber := t.nextEntryNumber }) : Move strict s t
  | entered {t : State} (k : SlotNo) (m n : Message) (record : s.record k = some m) (identity : n.identity = m.identity)
      (queued : n.custody = .queued → (s.resolve n.area).isSome = true ∧ n.pendingUpgrade = none)
      (free : ∀ j u, s.record j = some u → u.holdsKey = true →
        ¬ (u.origin = n.origin ∧ u.serial = n.serial ∧ u.day = n.day))
      (slots : t.slots = (s.withRecord k n).slots) (settings : t.settings = s.settings) : Move strict s t

/-- Several moves. -/
def Moves (strict : Prop) (s t : State) : Prop := Relation.ReflTransGen (Move strict) s t

section
variable {strict : Prop} {s t u : State}

theorem Moves.refl : Moves strict s s := Relation.ReflTransGen.refl

theorem Moves.one (move : Move strict s t) : Moves strict s t := Relation.ReflTransGen.single move

theorem Moves.trans (first : Moves strict s t) (second : Moves strict t u) : Moves strict s u :=
  Relation.ReflTransGen.trans first second

/-- What one move keeps, several keep. -/
theorem Moves.induct {law : State → Prop} (each : ∀ {t u}, Move strict t u → law t → law u) (moves : Moves strict s t)
    (start : law s) : law t := by
  refine Relation.ReflTransGen.head_induction_on (motive := fun a _ => law a → law t) moves (fun held => held) ?_ start
  exact fun move _ rest held => rest (each move held)

theorem State.resolve_of_settings (same : t.settings = s.settings) (area : Nat) : t.resolve area = s.resolve area :=
  State.resolve_congr (congrArg Settings.routes same) (congrArg Settings.defaultRoute same) (congrArg Settings.links same) area

theorem Aside.settings (aside : Aside s t) : t.settings = s.settings := by
  rw [aside.frame]
  rfl

/-- A change of the state of single ports alone. -/
theorem Moves.still (slots : t.slots = s.slots) (settings : t.settings = s.settings) : Moves strict s t := by
  refine .one (.records (fun _ m => m) (fun k => ?_) (fun _ m _ => .refl strict s m) settings)
  rw [State.slot, slots, Option.map_id_fun']
  rfl

theorem Moves.aside (moves : Moves strict s t) (aside : Aside t u) : Moves strict s u :=
  moves.trans (Moves.still aside.slots aside.settings)

theorem Moves.modBreakin (p : Port) (f : BreakIn → BreakIn) : Moves strict s (s.modBreakin p f) := .still rfl rfl

/-- A change of one record. -/
theorem Moves.modRecord {k : SlotNo} {f : Message → Message}
    (each : ∀ m, s.record k = some m → Follows strict s m (f m)) : Moves strict s (s.modRecord k f) := by
  refine .one (.records (fun j m => if k = j then f m else m) (fun j => ?_) (fun j m record => ?_) rfl)
  · refine (State.slot_modSlot ..).trans ?_
    split
    · next same => simp only [if_pos same]; rfl
    · next other => simp only [if_neg other, State.record, Option.map_id_fun', id]; rfl
  · split
    · next same => exact each m (same ▸ record)
    · exact .refl strict s m

/-- The writing of one record. -/
theorem Moves.wrote {k : SlotNo} {m n : Message} (record : s.record k = some m) (follows : Follows strict s m n)
    (slots : t.slots = (s.withRecord k n).slots) (settings : t.settings = s.settings) : Moves strict s t := by
  have written : s.modRecord k (fun _ => n) = s.withRecord k n := modRecord_eq_withRecord (fun _ => n) record
  refine .trans (t := s.withRecord k n) ?_ (Moves.still slots settings)
  rw [← written]
  refine Moves.modRecord fun u there => ?_
  obtain rfl : m = u := Option.some.inj (record.symm.trans there)
  exact follows

theorem Moves.leftAs {k : SlotNo} {m n : Message} (record : s.record k = some m) (follows : Follows strict s m n) :
    Moves strict s (s.leftAs k n) :=
  .wrote record follows (leftAs_aside s k n).slots (leftAs_aside s k n).settings

theorem Moves.freeSlot (k : SlotNo) : Moves strict s (freeSlot k s) := by
  cases record : s.record k with
  | none =>
    rw [Machine.freeSlot, record]
    exact .refl
  | some m =>
    rw [freeSlot_eq_withoutRecord record]
    exact .one (.freed k (by rw [record]; rfl) (fun j => State.slot_withoutRecord s k j m) rfl)

theorem Moves.foldl {α : Type} {f : State → α → State} (step : ∀ t a, Moves strict t (f t a)) (as : List α)
    (before : Moves strict s t) : Moves strict s (as.foldl f t) := by
  induction as generalizing t with
  | nil => exact before
  | cons a as ih => exact ih (before.trans (step t a))

theorem Moves.ite {c : Prop} [Decidable c] (yes : c → Moves strict s t) (no : Moves strict s u) :
    Moves strict s (if c then t else u) := by
  split
  · next is => exact yes is
  · exact no

end

end Sys2Proof.Machine
end

section
/-! What each operation does, in moves. -/

namespace Sys2Proof.Machine

/-- In a sound store the message of slot k, if any, holds its key. -/
def KeyAt (strict : Prop) (s : State) (k : SlotNo) : Prop := strict → ∀ m, s.record k = some m → m.holdsKey = true

section
variable {strict : Prop} {s t u : State} {k : SlotNo} {m n : Message} {p : Port}

theorem keyAt_of_record (record : s.record k = some m) (holds : m.holdsKey = true) : KeyAt strict s k := by
  intro _ u there
  rw [record, Option.some.injEq] at there
  exact there ▸ holds

theorem holdsKey_of_handed {d : Nat} {mark : Bool} (handed : m.custody = .handed p d mark) : m.holdsKey = true := by
  rw [Message.holdsKey, handed]

theorem holdsKey_of_queued (queued : m.custody = .queued) : m.holdsKey = true := by
  rw [Message.holdsKey, queued]

theorem holdsKey_of_held {r : HoldReason} (held : m.custody = .held r) : m.holdsKey = true := by
  rw [Message.holdsKey, held]

/-- A message that becomes VOID holds its key no longer. -/
theorem Follows.voided (now : Nat) (p : Port) :
    Follows strict s m (Message.log now (some p) .voided { m with custody := .void }) := by
  have void : (Message.log now (some p) .voided { m with custody := .void }).custody = .void := Message.log_custody ..
  refine ⟨Message.identity_of_content (Message.content_log ..), fun _ holds => ?_, fun queued => ?_⟩
  · rw [Message.holdsKey, void] at holds
    cases holds
  · rw [void] at queued
    cases queued

/-! ### Notices and holds -/

theorem Aside.postEach (ports : PortSet) (kind : NoticeKind) (h : Option Handle) (d : Detail) (t : State)
    (other : kind ≠ .breakIn := by exact nofun) : Aside t (postEach ports kind h d t) := by
  rw [postEach_eq_told]
  exact .told (other := other) ..

theorem Aside.post (p : Port) (kind : NoticeKind) (h : Option Handle) (d : Detail) (t : State)
    (other : kind ≠ .breakIn := by exact nofun) : Aside t (post p kind h d t) := by
  rw [post_eq_told]
  exact .told (other := other) ..

theorem Aside.reportHeld (k : SlotNo) (t : State) : Aside t (reportHeld k t) := by
  unfold Machine.reportHeld
  split
  · exact .refl t
  · split
    · exact .refl t
    · exact .postEach ..

theorem Aside.withdrawBreakIn (p : Port) (h : Handle) (t : State) : Aside t (withdrawBreakIn p h t) :=
  ⟨rfl, fun _ => rfl, .withdrawBreakIn p h t⟩

theorem Moves.holdAndTell (holds : KeyAt strict s k) (r : HoldReason) (p : Option Port) :
    Moves strict s (holdAndTell k r p s) := by
  cases record : s.record k with
  | none =>
    refine Moves.aside (Moves.modRecord fun m there => ?_) ((Aside.notifyWatchers k _).trans (.reportHeld k _))
    rw [record] at there
    cases there
  | some m =>
    rw [holdAndTell_eq record]
    exact .leftAs record (.held (fun is => holds is m record) ..)

/-! ### Slots freed -/

theorem Moves.reclaim (k : SlotNo) : Moves strict s (reclaim k s) := by
  unfold Machine.reclaim
  split
  · exact .refl
  · exact (Moves.aside .refl (.postEach ..)).trans (Moves.freeSlot k)

theorem Moves.reclaimForSegment (hs : List Handle) (s : State) : Moves strict s (reclaimForSegment hs s) := by
  induction hs generalizing s with
  | nil => exact .refl
  | cons h hs ih =>
    unfold Machine.reclaimForSegment
    split
    · exact .refl
    · exact (Moves.reclaim h.slot).trans (ih _)

theorem Moves.takeSegments (n : Nat) : Moves strict s (takeSegments n s) := by
  unfold Machine.takeSegments
  split
  · exact .refl
  · exact (Moves.reclaimForSegment s.retained s).trans (Moves.still rfl rfl)

theorem Moves.makeRoom : Moves strict s (makeRoom s) := by
  unfold Machine.makeRoom
  split
  · exact .refl
  · split
    · exact .refl
    · exact .reclaim _

theorem Moves.closeEntry (p : Port) : Moves strict s (closeEntry p s) := .still rfl rfl

theorem Moves.abandonEntry (p : Port) : Moves strict s (abandonEntry p s) := by
  unfold Machine.abandonEntry
  split
  · exact .closeEntry p
  · exact (Moves.freeSlot _).trans (Moves.closeEntry p)

theorem Moves.settleFences (before : Nat) : Moves strict s (settleFences before s) := by
  refine .still ?_ (Keeps.refl s |>.settleFences before).settings
  rw [settleFences_eq, slots_fencesSettled]

/-! ### Entering -/

/-- A credited copy stays where it is; only a message in custody has an upgrade recorded (R42). -/
theorem Follows.creditCopy (c : Class) : Follows strict s m (creditCopy c m) := by
  rw [creditCopy_eq]
  refine .of_custody rfl rfl fun queued => if_neg ?_
  simp [records, queued, Custody.name]

theorem Moves.creditDuplicate (k : SlotNo) (c : Class) : Moves strict s (creditDuplicate k c s) := by
  unfold Machine.creditDuplicate
  dsimp only
  split
  · exact .refl
  · next m _ =>
    have credited : Moves strict s (s.modRecord k (Machine.creditCopy c)) := .modRecord fun m _ => .creditCopy c
    obtain ⟨t, is, told⟩ : ∃ t, t = (if (Machine.creditCopy c m).klass ≠ m.klass
        ∨ (Machine.creditCopy c m).pendingUpgrade ≠ m.pendingUpgrade then notifyWatchers k (s.modRecord k (Machine.creditCopy c))
        else s.modRecord k (Machine.creditCopy c)) ∧ Moves strict s t :=
      ⟨_, rfl, .ite (fun _ => credited.aside (.notifyWatchers ..)) credited⟩
    rw [← is]
    split
    · split
      · exact told.aside (.breakInCheck ..)
      · exact told
    · exact told

/-- The values that the counter passes, in closed form (R8). -/
theorem numberAfter_eq (i start : Nat) (few : i ≤ 192) : numberAfter i start =
    if i = 0 then start else if start + i ≤ 4294967295 then start + i
      else if start ≤ 4294967295 then start + i - 4294967295 else i := by
  induction i generalizing start with
  | zero => rfl
  | succ i ih =>
    rw [numberAfter, ih _ (by omega)]
    grind

/-- The counter passes no value twice in 193. -/
theorem numberAfter_injective {i j start : Nat} (few : i ≤ 192) (few' : j ≤ 192)
    (same : numberAfter i start = numberAfter j start) : i = j := by
  rw [numberAfter_eq i start few, numberAfter_eq j start few'] at same
  grind

/-- Where the number found is in use, so are all that were tried. -/
theorem numberInUse_of_assignNumber {tries start : Nat} (inUse : s.numberInUse (assignNumber s tries start) = true) :
    ∀ i, i ≤ tries → s.numberInUse (numberAfter i start) = true := by
  induction tries generalizing start with
  | zero =>
    intro i zero
    obtain rfl : i = 0 := by omega
    exact inUse
  | succ tries ih =>
    unfold assignNumber at inUse
    split at inUse
    · next first =>
      intro i less
      cases i with
      | zero => exact first
      | succ i => exact ih inUse i (by omega)
    · next first => exact absurd inUse first

theorem numberInUse_iff (s : State) (n : Nat) :
    s.numberInUse n = true ↔ ∃ k m e, s.record k = some m ∧ m.entry = some e ∧ e.number = n := by
  rw [State.numberInUse, List.any_eq_true]
  constructor
  · rintro ⟨k, -, test⟩
    split at test
    · next m record =>
      split at test
      · next e entry => exact ⟨k, m, e, record, entry, of_decide_eq_true test⟩
      · cases test
    · cases test
  · rintro ⟨k, m, e, record, entry, number⟩
    refine ⟨k, mem_allSlots k, ?_⟩
    simp only [record, entry, number, decide_true]

/-- There are 192 slots, so of 193 values one is free: the counter finds it (R8). -/
theorem numberInUse_numberToGive (s : State) : s.numberInUse s.numberToGive = false := by
  rw [Bool.eq_false_iff]
  intro inUse
  have tried (i : Fin 193) : ∃ k m e, s.record k = some m ∧ m.entry = some e
      ∧ e.number = numberAfter i.val s.nextEntryNumber :=
    (numberInUse_iff s _).mp (numberInUse_of_assignNumber inUse i.val (by omega))
  choose slot m e record entry number using tried
  have injective : Function.Injective slot := by
    intro i j same
    have record' := record j
    rw [← same, record i, Option.some.injEq] at record'
    have entry' := entry j
    rw [← record', entry i, Option.some.injEq] at entry'
    refine Fin.ext (numberAfter_injective (start := s.nextEntryNumber) (by omega) (by omega) ?_)
    rw [← number, ← number, entry']
  have few := Fintype.card_le_of_injective slot injective
  rw [Fintype.card_fin, Fintype.card_fin] at few
  omega

/-- A placement holds the accepted message or joins it to a queue; what else it does is aside (R44). -/
theorem place_cases (record : s.record k = some m) : ∃ n, Aside (s.withRecord k n) (place p k s)
    ∧ ((∃ r, n = Message.log s.seconds (some p) .held { m with custody := .held r })
      ∨ (s.resolve m.area).isSome = true ∧ n = { Message.applyUpgrade m with custody := .queued }) := by
  have held (r : HoldReason) : Aside (s.withRecord k (Message.log s.seconds (some p) .held { m with custody := .held r }))
      (reportHeld k (holdFor k r (some p) s)) := by
    rw [holdFor, modRecord_eq_withRecord _ record]
    exact .reportHeld ..
  unfold place
  rw [record]
  dsimp only
  split
  · exact ⟨_, held .unrouted, .inl ⟨_, rfl⟩⟩
  · next q resolves =>
    split
    · exact ⟨_, held .deadlinePassed, .inl ⟨_, rfl⟩⟩
    · rw [joinQueue_eq record resolves]
      exact ⟨_, leftAs_aside .., .inr ⟨by rw [resolves]; rfl, rfl⟩⟩

/-- What a placement leaves of the slots: the accepted message held, or QUEUED where it resolves (R44). -/
theorem place_slots (record : s.record k = some m) : ∃ n, (place p k s).slots = (s.withRecord k n).slots
    ∧ n.identity = m.identity ∧ (n.custody = .queued → (s.resolve n.area).isSome = true ∧ n.pendingUpgrade = none) := by
  obtain ⟨n, aside, ⟨r, rfl⟩ | ⟨resolves, rfl⟩⟩ := place_cases (p := p) record
  · refine ⟨_, aside.slots, Message.identity_of_content (Message.content_log ..), fun queued => ?_⟩
    rw [Message.log_custody] at queued
    cases queued
  · refine ⟨_, aside.slots, Message.identity_of_content (Message.content_applyUpgrade m), fun _ => ⟨?_, ?_⟩⟩
    · rw [show s.resolve (Message.applyUpgrade m).area = s.resolve m.area by rw [m.applyUpgrade_area]]
      exact resolves
    · rw [Message.applyUpgrade_frame]

/-- The key of the message that is accepted is held by no slot (R41). -/
theorem not_held_of_keyFree (free : KeyFree s m) {j : SlotNo} {v : Message} (record : s.record j = some v)
    (holds : v.holdsKey = true) : ¬ (v.origin = m.origin ∧ v.serial = m.serial ∧ v.day = m.day) := by
  intro same
  have none := List.find?_eq_none.mp free j (mem_allSlots j)
  simp only [record, holds, Message.hasKey, same, and_self, decide_true, Bool.true_and, not_true] at none

/-- An acceptance gives the message its number, then places it (R43, R44). -/
theorem Moves.accepted (record : s.record k = some m) (filling : m.custody = .filling) (free : KeyFree s m) (p : Port) :
    Moves strict s (place p k (accept p k s)) := by
  obtain ⟨n, isAccepted⟩ : ∃ n, n = acceptMessage s.seconds s.numberToGive m := ⟨_, rfl⟩
  have slots : (accept p k s).slots = (s.withRecord k n).slots := by
    have written := modRecord_eq_withRecord (acceptMessage s.seconds s.numberToGive) record
    rw [isAccepted, ← written]
    rfl
  have there : (accept p k s).record k = some n := (State.record_congr slots k).trans (State.record_withRecord_same ..)
  have custody : n.custody = .filling := by rw [isAccepted, acceptMessage, Message.log_custody]; exact filling
  have key : n.origin = m.origin ∧ n.serial = m.serial ∧ n.day = m.day := by
    rw [isAccepted, acceptMessage, Message.log_frame]
    exact ⟨rfl, rfl, rfl⟩
  obtain ⟨v, placed, identity, queued⟩ := place_slots (p := p) there
  refine .trans (t := accept p k s) (.one (.numbered k m n ⟨s.seconds, s.numberToGive, checkStatus m⟩ record custody ?_
    (numberInUse_numberToGive s) slots ?_ rfl)) (.one (.entered k n v there identity queued (fun j w held holds => ?_)
    placed (Keeps.place (.refl _) p k).settings))
  · rw [isAccepted, acceptMessage, Message.log_frame]
  · change 1 ≤ nextNumber _ ∧ nextNumber _ ≤ 4294967295
    unfold nextNumber Config.entryNumberLimit
    split <;> omega
  · have same (key' : v.identity = n.identity) : v.origin = m.origin ∧ v.serial = m.serial ∧ v.day = m.day := by
      simp only [Message.identity, Prod.mk.injEq] at key'
      obtain ⟨-, origin, serial, day, -⟩ := key'
      exact ⟨origin.trans key.1, serial.trans key.2.1, day.trans key.2.2⟩
    obtain ⟨origin, serial, day⟩ := same identity
    rw [origin, serial, day]
    by_cases at_k : j = k
    · rw [at_k, there, Option.some.injEq] at held
      rw [← held, Message.holdsKey, custody] at holds
      cases holds
    · refine not_held_of_keyFree free (j := j) ?_ holds
      rw [← held, State.record_congr slots j]
      exact (State.record_withRecord_other (Ne.symm at_k)).symm

/-! ### Custody -/

theorem Moves.retain (h : Handle) : Moves strict s (retain h s) := .still rfl rfl

theorem Moves.handOut (holds : KeyAt strict s k) (p : Port) : Moves strict s (handOut k p s) := by
  refine .trans (t := s.modRecord k (Message.handedTo p s)) (Moves.modRecord fun m record => ?_)
    (Moves.still (slots_handOut k p s) (Keeps.handOut (.refl s) k p).settings)
  refine .of_not_queued ((Message.identity_of_content (Message.content_log ..)).trans rfl) (fun is => holds is m record) ?_
  rw [Message.handedTo, Message.log_custody]
  simp

theorem Moves.suspend (holds : KeyAt strict s k) (p : Port) (a : Handoff) (m : Message) :
    Moves strict s (suspend k p a m s) := by
  refine .trans (t := s.modRecord k (Message.suspendedBy p (Custody.leaseLeft s.seconds m.custody)))
    (Moves.modRecord fun m record => ?_) (Moves.still (slots_suspend k p a m s) (Keeps.suspend (.refl s) k p a m).settings)
  exact .of_not_queued rfl (fun is => holds is m record) (by simp [Message.suspendedBy])

theorem Moves.resumeRecord (p : Port) (r : Suspension) (holds : KeyAt strict s r.handle.slot) :
    Moves strict s (resumeRecord p r s) := by
  have handed : Moves strict s (s.modRecord r.handle.slot
      (fun m => { m with custody := .handed p (heldTime (s.seconds + r.leaseRemaining)) m.custody.marked })) :=
    .modRecord fun m record => .of_not_queued rfl (fun is => holds is m record) (by simp)
  have begun := handed.trans (.modBreakin p (fun b => { b with active := some { handle := r.handle, token := r.token } }))
  exact (begun.aside (.notifyWatchers ..)).aside (.breakInCheck ..)

theorem Moves.clearActive (p : Port) : Moves strict s (clearActive p s) :=
  (Moves.modBreakin p (fun b => { b with active := none })).aside (.clearPendingBreakIn ..)

theorem Moves.bounce (holds : KeyAt strict s k) (p : Port) (e : HistoryEvent) (there : s.record k = some m) :
    Moves strict s (bounce k p e s) := by
  rw [bounce_eq p e there]
  exact .leftAs there (.bounced (fun is => holds is m there) _ p e rfl)

theorem Moves.disposition (holds : KeyAt strict s k) (p : Port) (o : Disposal) (e : HistoryEvent) :
    Moves strict s (dispositionOf k p o e s) := by
  have changed : Moves strict s (s.modRecord k (fun m =>
      Message.log s.seconds (some p) e { m with custody := .disposed o s.seconds })) := by
    refine .modRecord fun m record => .of_not_queued ((Message.identity_of_content (Message.content_log ..)).trans rfl)
      (fun is => holds is m record) ?_
    rw [Message.log_custody]
    simp
  unfold dispositionOf
  exact (changed.trans (.retain _)).aside (.notifyWatchers ..)

theorem Moves.applyReport (holds : KeyAt strict s k) (p : Port) (r : Report) (there : s.record k = some m) :
    Moves strict s (applyReport k p r s) := by
  cases r with
  | relayed station serial => exact .disposition holds ..
  | delivered => exact .disposition holds ..
  | bounced => exact .bounce holds p _ there
  | refused =>
    have logged : Moves strict s (s.modRecord k (Message.log s.seconds (some p) .refused)) := .modRecord fun _ _ => .log ..
    refine logged.trans (Moves.holdAndTell (fun is u record => ?_) .refused (some p))
    rw [modRecord_eq_withRecord _ there, State.record_withRecord_same, Option.some.injEq] at record
    rw [← record, Message.holdsKey, Message.log_custody]
    exact holds is m there

theorem Moves.switchEnable (p : Port) (on : Bool) : Moves strict s (switchEnable p on s) := by
  unfold Machine.switchEnable
  split
  · exact .refl
  · split
    · exact (Moves.modBreakin p (fun b => { b with enable := true })).aside (.breakInCheck ..)
    · exact (Moves.modBreakin p (fun b => { b with enable := false })).aside (.clearPendingBreakIn ..)

/-! ### Net control -/

theorem Moves.holdMessage (holds : KeyAt strict s k) (p : Port) : Moves strict s (holdMessage k p s) := by
  have held : Moves strict s (s.modRecord k (fun m => { m with custody := .held .control })) :=
    .modRecord fun m record => .of_not_queued rfl (fun is => holds is m record) (by simp)
  have logged {t : State} (before : Moves strict s t) :
      Moves strict s (notifyWatchers k (t.modRecord k (Message.log t.seconds (some p) .held))) :=
    (before.trans (.modRecord fun _ _ => .log t.seconds (some p) .held)).aside (.notifyWatchers ..)
  unfold Machine.holdMessage
  dsimp only
  split
  · exact logged (held.aside (.departed ..))
  · exact logged held

theorem Moves.holdAgain (holds : KeyAt strict s k) (r : HoldReason) (p : Port) (changed : Bool) (there : s.record k = some m) :
    Moves strict s (holdAgain k r p changed s) := by
  obtain ⟨n, isLogged⟩ : ∃ n, n = Message.log s.seconds (some p) .released m := ⟨_, rfl⟩
  have logged : Follows strict s m n := by rw [isLogged]; exact .log ..
  have holds' (is : strict) : n.holdsKey = true := by
    rw [isLogged, Message.holdsKey, Message.log_custody]
    exact holds is m there
  rw [holdAgain_eq there]
  dsimp only
  rw [← isLogged]
  refine .wrote there (logged.trans (.held holds' s.seconds (some p) r)) ?_ ?_
  · split <;> rfl
  · split <;> rfl

theorem Moves.releaseMessage (there : s.record k = some m) {r : HoldReason} (held : m.custody = .held r) (p : Port) :
    Moves strict s (releaseMessage k p m s).2 := by
  obtain ⟨n, isReleased⟩ : ∃ n, n = Message.released m := ⟨_, rfl⟩
  have custody : n.custody = .held r := by
    rw [isReleased, Message.released, Message.applyUpgrade_custody]
    exact held
  have released : Moves strict s (s.modRecord k Message.released) := by
    refine .modRecord fun u record => ?_
    obtain rfl : m = u := Option.some.inj (there.symm.trans record)
    refine .of_custody ?_ ?_ fun queued => ?_
    · rw [Message.released, Message.applyUpgrade_frame]
      rfl
    · rw [Message.released, Message.applyUpgrade_custody]
    · rw [held] at queued
      cases queued
  have there' : (s.modRecord k Message.released).record k = some n := by
    rw [modRecord_eq_withRecord _ there, State.record_withRecord_same, isReleased]
  have holds : KeyAt strict (s.modRecord k Message.released) k := keyAt_of_record there' (holdsKey_of_held custody)
  unfold Machine.releaseMessage
  dsimp only
  split
  · exact released.trans (Moves.holdAgain holds _ p _ there')
  · split
    · next q resolves =>
      obtain ⟨u, isU⟩ : ∃ u, u = Message.log s.seconds (some p) .released n := ⟨_, rfl⟩
      have logged : Moves strict (s.modRecord k Message.released) ((s.modRecord k Message.released).modRecord k
          (Message.log s.seconds (some p) .released)) := .modRecord fun _ _ => .log ..
      have there'' : ((s.modRecord k Message.released).modRecord k (Message.log s.seconds (some p) .released)).record k
          = some u := by
        rw [modRecord_eq_withRecord _ there', State.record_withRecord_same, isU]
      have area : u.area = n.area := by rw [isU, Message.log_area]
      have resolves' : ((s.modRecord k Message.released).modRecord k (Message.log s.seconds (some p) .released)).resolve u.area
          = some q := by
        rw [area, isReleased]
        exact resolves
      refine released.trans (logged.trans ?_)
      change Moves strict _ (joinQueue k q ((s.modRecord k Message.released).modRecord k
        (Message.log s.seconds (some p) .released)))
      rw [joinQueue_eq there'' resolves']
      refine .leftAs there'' (.of_placed ?_ (fun _ => ?_) fun _ => ⟨?_, ?_⟩)
      · exact Message.identity_of_content (Message.content_applyUpgrade u)
      · rw [isU, Message.holdsKey, Message.log_custody, custody]
      · rw [resolves']
        rfl
      · rw [Message.applyUpgrade_frame]
    · exact released.trans (Moves.holdAgain holds _ p _ there')

theorem Moves.becomeVoid (k : SlotNo) (p : Port) : Moves strict s (becomeVoid k p s) := by
  have voided : Moves strict s (s.modRecord k (fun m => Message.log s.seconds (some p) .voided { m with custody := .void })) :=
    .modRecord fun _ _ => .voided ..
  unfold Machine.becomeVoid
  exact (voided.trans (.retain _)).aside (.notifyWatchers ..)

/-- A departure from a queue moves as its act does. -/
theorem Moves.leaveQueue (p : Port) (h : Handle) {act : State → State}
    (acts : ∀ t : State, t.slots = s.slots → Moves strict t (act t)) : Moves strict s (leaveQueue p h act s) := by
  obtain ⟨-, e⟩ | ⟨-, ⟨-, e⟩ | ⟨-, e⟩⟩ := leaveQueue_cases p h act s
  · rw [e]
    exact acts s rfl
  · rw [e]
    have cleared : Moves strict s (s.modBreakin p (fun b => { b with pending := none })) := .modBreakin ..
    exact ((cleared.trans (acts _ rfl)).aside (.withdrawBreakIn ..)).aside (.breakInCheck ..)
  · rw [e]
    have aside := Aside.clearPendingBreakIn p s
    exact (Moves.aside .refl aside).trans (acts _ aside.slots)

theorem Moves.voidMessage (k : SlotNo) (p : Port) (m : Message) : Moves strict s (voidMessage k p m s) := by
  unfold Machine.voidMessage
  dsimp only
  split
  · split
    · exact .leaveQueue _ _ fun _ _ => .becomeVoid k p
    · exact .becomeVoid k p
  · exact (((Moves.clearActive _).aside (.post ..)).trans (Moves.becomeVoid k p)).trans (Moves.settleFences _)
  · next q _ _ _ =>
    have revoked : Moves strict s (revokeRecord q (s.handleOf k) s) := .modBreakin ..
    exact ((revoked.aside (.post ..)).trans (Moves.becomeVoid k p)).trans (Moves.settleFences _)
  all_goals exact Moves.becomeVoid k p

theorem Moves.amendClass (k : SlotNo) (c : Class) (m : Message) : Moves strict s (amendClass k c m s) := by
  have changed : Moves strict s (s.modRecord k (fun m => { m with klass := c, pendingUpgrade := none })) :=
    .modRecord fun m _ => ⟨rfl, fun _ holds => holds, fun queued => ⟨.inl queued, .inl rfl⟩⟩
  obtain ⟨t, is, told⟩ : ∃ t, t = (if c ≠ m.klass ∨ m.pendingUpgrade ≠ none
      then notifyWatchers k (s.modRecord k (fun m => { m with klass := c, pendingUpgrade := none }))
      else s.modRecord k (fun m => { m with klass := c, pendingUpgrade := none })) ∧ Moves strict s t :=
    ⟨_, rfl, .ite (fun _ => changed.aside (.notifyWatchers ..)) changed⟩
  unfold Machine.amendClass
  dsimp only
  rw [← is]
  split
  · exact told
  · refine .ite (fun _ => told.aside (.breakInCheck ..)) (.ite (fun _ => ?_) told)
    split
    · exact told
    · exact .ite (fun _ => told) (told.aside (.departed ..))

theorem Moves.amendMessage (k : SlotNo) (f : AmendFields) (m : Message) : Moves strict s (amendMessage k f m s) := by
  have changed : Moves strict s (s.modRecord k (fun m => { m with adjust := clampAdjust f.adjust.toInt })) :=
    .modRecord fun _ _ => .of_custody rfl rfl fun _ => rfl
  have adjusted := Moves.ite (c := AmendFields.hasAdjust f = true) (fun _ => changed) (.refl (s := s))
  unfold Machine.amendMessage
  dsimp only
  split
  · exact adjusted.trans (Moves.amendClass ..)
  · exact adjusted

/-! ### The ticks -/

theorem Moves.timeOutEntry (s : State) (p : Port) : Moves strict s (timeOutEntry s p) := by
  unfold Machine.timeOutEntry
  split
  · exact .refl
  · exact .ite (fun _ => ((Moves.freeSlot _).trans (Moves.closeEntry p)).aside (.post ..)) .refl

theorem Moves.lapseIfDue (s : State) (k : SlotNo) : Moves strict s (lapseIfDue s k) := by
  unfold Machine.lapseIfDue
  split
  · exact .refl
  · next m record =>
    split
    · next p d mark handed =>
      refine .ite (fun _ => ?_) .refl
      have told := (Moves.clearActive (strict := strict) (s := s) p).aside
        (.post p .lapsed (some (s.handleOf k)) (.token m.token) _)
      have there : (post p .lapsed (some (s.handleOf k)) (.token m.token) (Machine.clearActive p s)).record k = some m := by
        rw [(Aside.post ..).record, clearActive_eq, State.record_congr (State.withoutActive_slots s p)]
        exact record
      exact (told.trans (.bounce (keyAt_of_record there (holdsKey_of_handed handed)) p .lapsed there)).trans
        (.settleFences _)
    all_goals exact .refl

theorem Moves.expireIfDue (s : State) (k : SlotNo) : Moves strict s (expireIfDue s k) := by
  unfold Machine.expireIfDue
  split
  · exact .refl
  · next m record =>
    split
    · next due =>
      have holds (t : State) (slots : t.slots = s.slots) : KeyAt strict t k :=
        keyAt_of_record ((State.record_congr slots k).trans record) (holdsKey_of_queued due.1)
      split
      · exact .leaveQueue _ _ fun t slots => .holdAndTell (holds t slots) ..
      · exact .holdAndTell (holds s rfl) ..
    · exact .refl

theorem Moves.takeEntryTick : Moves strict s (takeEntryTick s) := by
  have taken : Moves strict s { s with entryTick := false } := .still rfl rfl
  exact .ite (fun _ => .foldl Moves.timeOutEntry allPorts taken) .refl

theorem Moves.takeLeaseTick (slots : List SlotNo) : Moves strict s (takeLeaseTick slots s) := by
  have taken : Moves strict s { s with leaseTick := false } := .still rfl rfl
  exact .ite (fun _ => .foldl Moves.lapseIfDue slots taken) .refl

theorem Moves.takeDeadlineTick (leases : List SlotNo) : Moves strict s (takeDeadlineTick leases s) := by
  have leased : Moves strict s (Machine.takeLeaseTick leases s) := .takeLeaseTick leases
  have taken : Moves strict s { Machine.takeLeaseTick leases s with deadlineTick := false } := leased.trans (.still rfl rfl)
  exact .ite (fun _ => .foldl Moves.expireIfDue allSlots taken) leased

theorem Moves.takeTicksAt (leases : List SlotNo) : Moves strict s (takeTicksAt leases s) :=
  Moves.takeEntryTick.trans (Moves.takeDeadlineTick leases)

end

end Sys2Proof.Machine
end

section
/-! What each block, tick and reset does, in moves. -/

namespace Sys2Proof.Machine

section
variable {strict : Prop} {s t : State} {p : Port}

/-! ### Routing changes and resets -/

/-- A routing change re-resolves every record by the new routing (R74 to R76). -/
theorem Moves.rerouting {s₁ : State} (only : RoutingOnly s s₁) : Moves strict s (s.rerouting p s₁) := by
  have resolve (area : Nat) : (s.replacedAll s₁ p).resolve area = s₁.resolve area := State.resolve_congr rfl rfl rfl area
  refine Moves.aside (.one (.routing (fun _ => s.changed s₁ p) (fun k => ?_) (fun k m _ => ?_) (fun k m _ queued => ?_) ?_))
    (rerouting_aside only)
  · exact get_vmap ..
  · exact .rerouted s.seconds p (congrArg Option.isSome (resolve m.area).symm)
  · rw [resolve]
    exact (rerouted_queued queued).1
  · change s₁.nextEntryNumber = _
    rw [only.only]

theorem holdsKey_returned (now : Nat) (p : Port) (resolves : Bool) (m : Message) :
    (returned now p resolves m).holdsKey = true := by
  unfold returned
  dsimp only
  split
  · simp [Message.holdsKey]
  · split <;> simp [Message.holdsKey]

theorem Moves.handedBack (h : Handle) (holds : KeyAt strict s h.slot) : Moves strict s (s.handedBack p h) := by
  unfold State.handedBack
  split
  · exact .refl
  · next m record =>
    have advanced : Follows strict s m { m with token := m.token + 1 } := .of_custody rfl rfl fun _ => rfl
    refine .leftAs record ((advanced.trans (.log s.seconds (some p) .requeued)).trans (.returned (fun is => ?_) _ p ?_))
    · rw [Message.holdsKey, Message.log_custody]
      exact holds is m record
    · rw [Message.log_area]

theorem keyAt_handedBack {k : SlotNo} (h : Handle) (holds : KeyAt strict s k) : KeyAt strict (s.handedBack p h) k := by
  intro is m record
  have slot : (s.handedBack p h).slot k = _ := slot_handedBack p s h.slot k h.inc
  rw [State.record_eq, slot] at record
  split at record
  · obtain ⟨u, -, rfl⟩ := Option.map_eq_some_iff.mp record
    exact holdsKey_returned ..
  · exact holds is m record

theorem Moves.handedBacks (hs : List Handle) (holds : ∀ h ∈ hs, KeyAt strict s h.slot) :
    Moves strict s (hs.foldl (State.handedBack p) s) := by
  induction hs generalizing s with
  | nil => exact .refl
  | cons h hs ih =>
    refine (Moves.handedBack h (holds h List.mem_cons_self)).trans (ih fun j member => ?_)
    exact keyAt_handedBack h (holds j (List.mem_cons_of_mem h member))

/-- What p's handoffs name holds its key, also when p's link has come UP (R122, R123). -/
theorem keyAt_portLinked (sound : strict → s.storeSound) (h : Handle) (member : h ∈ s.handoffsOf p) :
    KeyAt strict (s.portLinked p) h.slot := by
  intro is m record
  have laws := (State.storeSound_iff s).mp (sound is)
  obtain ⟨u, was, holder⟩ := ((laws.handoffsAgree.slots_handoffsOf p).2 h.slot).mp (List.mem_map_of_mem member)
  have holds : u.holdsKey = true ∧ u.custody ≠ .filling := by
    cases custody : u.custody with
    | handed | suspended => exact ⟨by rw [Message.holdsKey, custody], by simp⟩
    | filling | queued | held | disposed | void => simp [custody, Custody.holder] at holder
  have stands : ¬ s.FillsOn p h.slot := by
    rintro ⟨v, there, filling, -⟩
    rw [was, Option.some.injEq] at there
    exact holds.2 (there ▸ filling)
  have slot := portLinked_slot (s := s) (p := p) h.slot
  rw [(portSilenced_slot laws.entriesAgree h.slot).2 stands] at slot
  rw [State.record_eq, slot, show (s.slot h.slot).record = some u from was, Option.map_some, Option.some.injEq] at record
  rw [← record]
  split
  · exact holds.1
  · rw [holdsKey_rerouted]
    exact holds.1

theorem Moves.portReset (sound : strict → s.storeSound) : Moves strict s (s.portReset p) := by
  have silenced : Moves strict s (s.portSilenced p) := by
    unfold State.portSilenced
    rw [← abandonEntry_eq]
    exact Moves.trans (t := s.modPort p _) (.still rfl rfl) (.abandonEntry p)
  have disarmed : Moves strict s (s.portDisarmed p) := silenced.trans (.still rfl rfl)
  have linked : Moves strict s (s.portLinked p) := by
    unfold State.portLinked
    exact .ite (fun _ => disarmed) (disarmed.trans (.rerouting ⟨rfl⟩))
  have returned : Moves strict s (s.portReturned p) := by
    unfold State.portReturned
    rw [← settleFences_eq]
    refine ((linked.trans (.modBreakin p _)).trans (.handedBacks _ fun h member => ?_)).trans (.settleFences _)
    exact keyAt_portLinked sound h member
  refine returned.trans (.one (.records (fun _ m => { m with watchers := m.watchers.set p.val false p.isLt }) (fun k => ?_)
    (fun _ m _ => .of_custody rfl rfl fun _ => rfl) rfl))
  exact get_vmap ..

theorem Moves.warmReset (straps : Straps) : Moves strict s (warmReset straps s) := by
  have ended : Moves strict s (abandonEntries s) := .foldl (fun t p => .abandonEntry p) allPorts .refl
  refine ended.trans (.one (.routing (fun _ => warmRecord { abandonEntries s with
    links := Vector.replicate 4 true, fences := Vector.replicate 4 false }) (fun k => ?_) (fun k m _ => ?_)
    (fun k m _ queued => ?_) rfl))
  · exact get_vmap ..
  · exact Follows.warmRecord.congr fun area => State.resolve_congr rfl rfl rfl area
  · exact (warmRecord_queued queued).1

theorem RoutingUpdate.only {s₁ : State} (update : RoutingUpdate s s₁) : RoutingOnly s s₁ := by
  cases update <;> exact ⟨rfl⟩

/-! ### The requests -/

theorem keyAt_of_queueOf {k : SlotNo} (member : s.queueOf k = some p) : KeyAt strict s k := by
  obtain ⟨m, record, queued, -⟩ := State.queueOf_eq_some member
  exact keyAt_of_record record (holdsKey_of_queued queued)

theorem queueOf_of_ranked {e : Evaluation} {es : List Evaluation} (ranked : s.ranked (s.queue p) = e :: es) :
    s.queueOf e.slot = some p :=
  of_decide_eq_true (List.mem_filter.mp (State.slot_mem_of_ranked (ranked ▸ List.mem_cons_self))).2

/-- What a block does is made of moves, but for the opening of an entry. -/
theorem BlockEffect.moves {c : Instr} (effect : BlockEffect s c t) (sound : strict → s.storeSound) :
    Moves strict s t ∨ ∃ p f hd k, c = .enterBegin p f ∧ readEnterBegin f = some hd
      ∧ (makeRoom s).lowestEmpty = some k ∧ t = openEntry p hd k (makeRoom s) := by
  have agree (is : strict) : s.HandoffsAgree := ((State.storeSound_iff s).mp (sound is)).handoffsAgree
  cases effect with
  | enterBegin p f hd k closed fields allowed empty => exact .inr ⟨p, f, hd, k, rfl, fields, empty, rfl⟩
  | refresh p k =>
    refine .inl ?_
    unfold refreshEntry
    split
    · exact .refl
    · split
      · exact .still rfl rfl
      · exact .refl
  | append p k m chars short filling allowed =>
    refine .inl ((Moves.takeSegments _).trans ((Moves.modRecord fun u _ => ?_).trans (Moves.still rfl rfl)))
    exact .of_custody rfl rfl fun _ => rfl
  | duplicate p k j m filling held =>
    exact .inl (((Moves.creditDuplicate j m.klass).trans (.freeSlot k)).trans (.closeEntry p))
  | accept p k m filling free => exact .inl (.accepted filling.1 filling.2.1 free p)
  | cancel p k m filling => exact .inl ((Moves.freeSlot k).trans (.closeEntry p))
  | purge k m record retained => exact .inl (.reclaim k)
  | reroute p s₁ update =>
    rw [routingEffects_eq update.only]
    exact .inl (.rerouting update.only)
  | fence p marks => exact .inl (.still rfl rfl)
  | configure f => exact .inl (.one (.scored rfl rfl))
  | list q es => exact .inl (.still rfl rfl)
  | next p e es idle stack ranked =>
    have flagged : Moves strict s (setStickyFlags p (e :: es) s) := Moves.aside .refl (.setStickyFlags ..)
    have queued : KeyAt strict (setStickyFlags p (e :: es) s) e.slot :=
      keyAt_of_queueOf (s := s) (queueOf_of_ranked ranked)
    exact .inl (flagged.trans (.handOut queued p))
  | extend p k m d mark record handed deadline =>
    refine .inl (.modRecord fun u there => ?_)
    obtain rfl : m = u := Option.some.inj (record.symm.trans there)
    exact .of_not_queued rfl (fun _ => holdsKey_of_handed handed) (by simp [handed, Custody.withDeadline])
  | dispose p k m d mark record handed r =>
    have there : (clearActive p s).record k = some m := by
      rw [clearActive_eq, State.record_congr (State.withoutActive_slots s p)]
      exact record
    exact .inl (((Moves.clearActive p).trans
      (.applyReport (keyAt_of_record there (holdsKey_of_handed handed)) p r there)).trans (.settleFences _))
  | enable p on => exact .inl (.switchEnable p on)
  | suspend p h named token m e es pending active record ranked =>
    refine .inl ?_
    have flagged : Moves strict s (setStickyFlags p (e :: es) s) := Moves.aside .refl (.setStickyFlags ..)
    have held : KeyAt strict s h.slot := fun is => by
      obtain ⟨u, d, mark, -, there, -, handed⟩ := (agree is).active p _ active
      exact keyAt_of_record there (holdsKey_of_handed handed) is
    have queued : KeyAt strict s e.slot :=
      keyAt_of_queueOf (State.mem_eligible.mp (State.slot_mem_of_ranked (ranked ▸ List.mem_cons_self))).1
    refine (flagged.trans (.suspend (s := setStickyFlags p (e :: es) s) held p _ m)).trans (.handOut (fun is u there => ?_) p)
    rw [State.record_congr (slots_suspend ..), State.record_eq, show State.slot (State.modRecord _ h.slot _) e.slot = _ from
      State.slot_modSlot ..] at there
    split at there
    · obtain ⟨v, -, rfl⟩ := Option.map_eq_some_iff.mp there
      rfl
    · exact queued is u there
  | pop p r rest idle stack revoked => exact .inl ((Moves.modBreakin p _).aside (.breakInCheck ..))
  | resume p r rest idle stack standing =>
    refine .inl (.trans (t := popRecord p r s) (.modBreakin p _) (.resumeRecord p r fun is => ?_))
    have member : r ∈ s.openRecords p := by
      rw [State.openRecords, stack]
      exact List.mem_filter.mpr ⟨List.mem_cons_self, by rw [standing]; rfl⟩
    obtain ⟨u, mark, -, there, -, -, suspended⟩ := (agree is).stacked p r member
    exact keyAt_of_record (s := popRecord p r s) there (by rw [Message.holdsKey, suspended]) is
  | hold p k m record queued => exact .inl (.holdMessage (keyAt_of_record record (holdsKey_of_queued queued)) p)
  | release p k m r record held => exact .inl (.releaseMessage record held p)
  | void p k m record traffic => exact .inl (.voidMessage k p m)
  | amend k f m record traffic free => exact .inl (.amendMessage k f m)
  | note k m chars record traffic room segment =>
    refine .inl (((Moves.takeSegments 1).trans (.modRecord fun u _ => ?_)).aside (.notifyWatchers ..))
    exact .of_custody rfl rfl fun _ => rfl
  | watch p on k m record entered => exact .inl (.modRecord fun u _ => .of_custody rfl rfl fun _ => rfl)
  | fetch p => exact .inl (.still rfl rfl)

theorem Moves.ticksBefore (c : Instr) : Moves strict s (ticksBefore c s) := by
  unfold Machine.ticksBefore
  split
  · next p h token =>
    obtain e | ⟨k, -, -, e⟩ := ticksBeforeBreakin_cases p (nextBreakin p h token) s
    · rw [e]
      exact .takeTicksAt allSlots
    · rw [e]
      exact .takeTicksAt _
  · exact .takeTicksAt allSlots

end

end Sys2Proof.Machine
end

section
/-! The laws that every move keeps: the queues stay routable (R97, R113), slots are freed one incarnation at a time (R4), entry
numbers and duplicate keys stay distinct (R8, R17). With them the obligations about all commands in any state. -/

namespace Sys2Proof.Machine

/-! ### What a command does, in moves -/

section
variable {strict : Prop} {s t : State} {p : Port}

/-- An event is made of moves, but for the cold reset. -/
theorem eventEffect_moves {c : Instr} (notCold : ∀ straps lines, c ≠ .coldReset straps lines)
    (sound : strict → (takeTicks s).storeSound) : Moves strict s (eventEffect c s) := by
  cases c with
  | coldReset straps lines => exact absurd rfl (notCold straps lines)
  | selectFall p =>
    change Moves strict s (beginExchange p s)
    unfold beginExchange
    exact .ite (fun _ => .still rfl rfl) .refl
  | exchange p bytes extraBits =>
    change Moves strict s (endExchange p bytes s)
    unfold endExchange
    split
    · exact .refl
    · exact .still rfl rfl
  | tick => exact .ite (fun _ => (Moves.takeTicksAt allSlots).trans (.still rfl rfl)) .refl
  | entryIdleTimeout => exact .takeEntryTick
  | leaseExpiry => exact .takeLeaseTick allSlots
  | deliveryDeadlineExpiry => exact .takeDeadlineTick allSlots
  | portReset p =>
    change Moves strict s (assertPortReset p s)
    unfold assertPortReset
    rw [resetPort_eq]
    split
    · exact .refl
    · exact (Moves.takeTicksAt allSlots).trans (.portReset sound)
  | warmReset straps =>
    change Moves strict s (assertDeviceReset straps s)
    unfold assertDeviceReset
    split
    · exact .refl
    · exact (Moves.takeTicksAt allSlots).trans (.warmReset straps)
  | supplyBelowWorkingLevel seen => cases seen <;> exact .still rfl rfl
  | _ => exact .still rfl rfl

/-- The entry that an ENTER-BEGIN opens in u, which s has come to by moves. -/
structure Opens (strict : Prop) (c : Instr) (s t : State) (p : Port) (f : EnterBeginFields) (hd : Header) (k : SlotNo)
    (u : State) : Prop where
  command : c = .enterBegin p f
  fields : readEnterBegin f = some hd
  moves : Moves strict s u
  empty : u.record k = none
  slot : ∀ j, t.slot j = if k = j then { u.slot j with record := some (newMessage p hd) } else u.slot j
  settings : t.settings = u.settings

/-- Every command but the cold reset is made of moves, but for the opening of an entry. -/
theorem exec_moves {c : Instr} (notCold : ∀ straps lines, c ≠ .coldReset straps lines)
    (sound : strict → (takeTicks s).storeSound ∧ (ticksBefore c s).storeSound) (next : exec c s = .next t) :
    Moves strict s t ∨ ∃ p f hd k u, Opens strict c s t p f hd k u := by
  obtain still | ⟨p, rq, -, -, acted⟩ | ⟨-, event⟩ := exec_cases c s
  · rw [still, Host.Outcome.next.injEq] at next
    exact .inl (next ▸ .refl)
  · rw [acted, Host.Outcome.next.injEq] at next
    subst next
    have before : Moves strict s (ticksBefore c s) := .ticksBefore c
    obtain same | ⟨-, effect⟩ := blockAct_outcome c (ticksBefore c s)
    · rw [same]
      exact .inl (before.trans (.still rfl rfl))
    · obtain moves | ⟨q, f, hd, k, command, fields, empty, opened⟩ := effect.moves fun is => (sound is).2
      · exact .inl ((before.trans moves).trans (.still rfl rfl))
      · refine .inr ⟨q, f, hd, k, makeRoom (ticksBefore c s), command, fields, before.trans .makeRoom, ?_, fun j => ?_, ?_⟩
        · simpa using List.find?_some empty
        · rw [opened]
          exact State.slot_modSlot ..
        · rw [opened]
          rfl
  · rw [event, Host.Outcome.next.injEq] at next
    exact .inl (next ▸ eventEffect_moves notCold fun is => (sound is).1)

/-! ### Slots are freed one incarnation at a time (R4, R54) -/

/-- From s to t each slot stands, EMPTY or not, or has been freed once. -/
def FreedAtMostOnce (s t : State) : Prop :=
  ∀ k, (t.slot k).inc = (s.slot k).inc ∧ (t.record k).isSome = (s.record k).isSome
    ∨ (t.slot k).inc = (s.slot k).inc + 1 ∧ (s.record k).isSome = true ∧ t.record k = none

theorem FreedAtMostOnce.trans {u : State} (first : FreedAtMostOnce s t) (second : FreedAtMostOnce t u) :
    FreedAtMostOnce s u := by
  intro k
  obtain ⟨inc, full⟩ | ⟨inc, full, gone⟩ := first k
  · obtain ⟨inc', full'⟩ | ⟨inc', full', gone'⟩ := second k
    · exact .inl ⟨inc'.trans inc, full'.trans full⟩
    · exact .inr ⟨by rw [inc', inc], full ▸ full', gone'⟩
  · obtain ⟨inc', full'⟩ | ⟨-, full', -⟩ := second k
    · refine .inr ⟨inc'.trans inc, full, ?_⟩
      rw [gone] at full'
      simpa using full'
    · rw [gone] at full'
      cases full'

theorem freedAtMostOnce_of_slots (slots : t.slots = s.slots) : FreedAtMostOnce s t := by
  intro k
  refine .inl ⟨?_, ?_⟩
  · rw [State.slot, slots]
    rfl
  · rw [State.record_congr slots]

theorem Maps.freedAtMostOnce {f : SlotNo → Message → Message} (maps : Maps s f t) : FreedAtMostOnce s t := by
  intro k
  refine .inl ⟨by rw [maps k], ?_⟩
  rw [State.record_eq, maps k]
  exact Option.isSome_map

theorem freedAtMostOnce_of_wrote {k : SlotNo} {m n : Message} (record : s.record k = some m)
    (slots : t.slots = (s.withRecord k n).slots) : FreedAtMostOnce s t := by
  intro j
  refine .inl ⟨congrArg Handle.inc (Wrote.handle ⟨slots⟩ j), ?_⟩
  by_cases at_k : j = k
  · rw [at_k, Wrote.record_same ⟨slots⟩, record]
    rfl
  · rw [Wrote.record_other ⟨slots⟩ at_k]

theorem Move.freedAtMostOnce (move : Move strict s t) : FreedAtMostOnce s t := by
  cases move with
  | records f maps each settings => exact maps.freedAtMostOnce
  | routing f maps each placed next => exact maps.freedAtMostOnce
  | numbered k m n e record filling entry fresh slots next settings => exact freedAtMostOnce_of_wrote record slots
  | entered k m n record identity queued free slots settings => exact freedAtMostOnce_of_wrote record slots
  | scored slots settings => exact freedAtMostOnce_of_slots slots
  | freed k full slot settings =>
    intro j
    rw [State.record_eq t, slot]
    split
    · next same => exact .inr ⟨rfl, same ▸ full, rfl⟩
    · exact .inl ⟨rfl, rfl⟩

theorem Moves.freedAtMostOnce (moves : Moves strict s t) : FreedAtMostOnce s t :=
  moves.induct (law := FreedAtMostOnce s) (fun move before => before.trans move.freedAtMostOnce)
    (freedAtMostOnce_of_slots rfl)

/-! ### The queues stay routable (R97, R113) -/

/-- What the law of the queues says of one message (R97, R113). -/
def Message.RoutableIn (s : State) (m : Message) : Prop :=
  m.custody = .queued → (s.resolve m.area).isSome = true ∧ m.pendingUpgrade = none

theorem Follows.routable {m n : Message} (follows : Follows strict s m n) (before : m.RoutableIn s) : n.RoutableIn s := by
  intro queued
  obtain ⟨was, upgrade⟩ := follows.queued queued
  refine ⟨?_, ?_⟩
  · obtain was | resolves := was
    · rw [Message.area_of_identity follows.identity]
      exact (before was).1
    · exact resolves
  · obtain none | ⟨was, same⟩ := upgrade
    · exact none
    · exact same.trans (before was).2

theorem Message.RoutableIn.congr {m : Message} (before : m.RoutableIn s) (settings : t.settings = s.settings) :
    m.RoutableIn t := by
  intro queued
  rw [State.resolve_of_settings settings]
  exact before queued

theorem State.queuesRoutable_iff (s : State) : s.queuesRoutable ↔ ∀ k m, s.record k = some m → m.RoutableIn s := Iff.rfl

/-- The records of t are those of s but for the one written. -/
theorem routable_of_wrote {k : SlotNo} {n : Message} (slots : t.slots = (s.withRecord k n).slots)
    (resolve : ∀ area, t.resolve area = s.resolve area) (before : s.queuesRoutable) (routable : n.RoutableIn s) :
    t.queuesRoutable := by
  intro j u record queued
  rw [resolve]
  by_cases at_k : j = k
  · rw [at_k, Wrote.record_same ⟨slots⟩, Option.some.injEq] at record
    exact routable (record ▸ queued) |> fun both => record ▸ both
  · rw [Wrote.record_other ⟨slots⟩ at_k] at record
    exact before j u record queued

theorem Move.queuesRoutable (move : Move strict s t) (before : s.queuesRoutable) : t.queuesRoutable := by
  cases move with
  | records f maps each settings =>
    intro k n record
    rw [State.record_eq, maps k] at record
    obtain ⟨m, was, rfl⟩ := Option.map_eq_some_iff.mp record
    exact ((each k m was).routable (before k m was)).congr settings
  | routing f maps each placed next =>
    intro k n record queued
    rw [State.record_eq, maps k] at record
    obtain ⟨m, was, rfl⟩ := Option.map_eq_some_iff.mp record
    refine ⟨?_, ?_⟩
    · rw [Message.area_of_identity (each k m was).identity]
      exact placed k m was queued
    · obtain none | ⟨queue, same⟩ := ((each k m was).queued queued).2
      · exact none
      · exact same.trans (before k m was queue).2
  | scored slots settings =>
    intro k n record queued
    rw [State.record_congr slots] at record
    have resolve : t.resolve n.area = s.resolve n.area := State.resolve_congr (congrArg Settings.routes settings)
      (congrArg Settings.defaultRoute settings) (congrArg Settings.links settings) n.area
    rw [resolve]
    exact before k n record queued
  | freed k full slot settings =>
    intro j n record
    rw [State.record_eq, slot] at record
    split at record
    · cases record
    · exact Message.RoutableIn.congr (before j n record) settings
  | numbered k m n e record filling entry fresh slots next settings =>
    refine routable_of_wrote slots (fun area => State.resolve_congr (congrArg Settings.routes settings)
      (congrArg Settings.defaultRoute settings) (congrArg Settings.links settings) area) before fun queued => ?_
    rw [filling] at queued
    cases queued
  | entered k m n record identity queued free slots settings =>
    exact routable_of_wrote slots (State.resolve_of_settings settings) before queued

/-- The entry that is opened joins no queue. -/
theorem Opens.queuesRoutable {c : Instr} {f : EnterBeginFields} {hd : Header} {k : SlotNo} {u : State}
    (opens : Opens strict c s t p f hd k u) (before : u.queuesRoutable) : t.queuesRoutable := by
  intro j n record
  rw [State.record_eq, opens.slot] at record
  split at record
  · intro queued
    rw [← Option.some.inj record] at queued
    cases queued
  · exact Message.RoutableIn.congr (before j n record) opens.settings

end

/-! ### Notices and settings (R64, R91, R163) -/

/-- The notice queues of t are in form and its settings in range, where those of s are. -/
structure Neat (s t : State) : Prop where
  notices : s.noticesInForm → t.noticesInForm
  settings : s.settingsInRange → t.settingsInRange

section
variable {s t u : State}

theorem Neat.trans (first : Neat s t) (second : Neat t u) : Neat s u :=
  ⟨fun form => second.notices (first.notices form), fun range => second.settings (first.settings range)⟩

theorem settingsInRange_congr (scoring : t.scoring = s.scoring) (routes : t.routes = s.routes) (range : s.settingsInRange) :
    t.settingsInRange := by
  unfold State.settingsInRange
  rw [scoring, routes]
  exact range

theorem Keeps.neat (kept : Keeps s t) : Neat s t :=
  ⟨fun form p => kept.notices p (form p), fun range => settingsInRange_congr (congrArg Settings.scoring kept.settings)
    (congrArg Settings.routes kept.settings) range⟩

/-- A value within a range is kept or replaced by one within it. -/
theorem configItem_le {mask : Byte} {bit given kept limit : Nat} (new : given ≤ limit) (old : kept ≤ limit) :
    configItem mask bit given kept ≤ limit := by
  unfold configItem
  split
  · exact new
  · exact old

theorem le_configItem {mask : Byte} {bit given kept limit : Nat} (new : limit ≤ given) (old : limit ≤ kept) :
    limit ≤ configItem mask bit given kept := by
  unfold configItem
  split
  · exact new
  · exact old

/-- A configuration that is set is within its ranges (R91, R93). -/
theorem settingsInRange_configured (f : ConfigureFields) (range : s.settingsInRange) :
    ({ s with scoring := configured f s.scoring } : State).settingsInRange := by
  obtain ⟨immediate, urgent, welfare, routine, shift, penalty, short, long, routes⟩ := range
  have byte (b : Byte) : b.toNat ≤ 255 := Nat.le_of_lt_succ b.isLt
  refine ⟨configItem_le (byte _) immediate, configItem_le (byte _) urgent, configItem_le (byte _) welfare,
    configItem_le (byte _) routine, configItem_le (by omega) shift, configItem_le (by unfold clampPenalty; omega) penalty,
    le_configItem (by unfold clampLease; omega) short, configItem_le (by unfold clampLease; omega) long, routes⟩

/-- The routing state that a request gives is within its ranges (R64). -/
theorem RoutingUpdate.neat (update : RoutingUpdate s t) : Neat s t := by
  cases update with
  | default d => exact ⟨id, id⟩
  | link q up => exact ⟨id, id⟩
  | route i e range =>
    refine ⟨id, fun ⟨immediate, urgent, welfare, routine, shift, penalty, short, long, routes⟩ =>
      ⟨immediate, urgent, welfare, routine, shift, penalty, short, long, fun j => ?_⟩⟩
    have entry : (vmod s.routes i (fun _ => e)).get j = if i = j then e else s.routes.get j := get_vmod ..
    change ((vmod s.routes i (fun _ => e)).get j).first ≤ ((vmod s.routes i (fun _ => e)).get j).last
      ∧ ((vmod s.routes i (fun _ => e)).get j).last ≤ 4095
    rw [entry]
    split
    · obtain within | ⟨first, last⟩ := range
      · exact within
      · rw [first, last]
        exact routes i
    · exact routes j

theorem BlockEffect.neat {c : Instr} (effect : BlockEffect s c t) : Neat s t := by
  have start : Keeps s s := .refl s
  cases effect with
  | refresh p k => exact (start.refreshEntry p k).neat
  | enterBegin p f hd k => exact (start.makeRoom.to rfl rfl : Keeps s (openEntry p hd k (makeRoom s))).neat
  | append p k m chars => exact (((start.takeSegments _).modRecord ..).modEntry ..).neat
  | duplicate p k j m => exact (((start.creditDuplicate ..).freeSlot k).closeEntry p).neat
  | accept p k m =>
    have accepted : Neat s (Machine.accept p k s) := ⟨id, id⟩
    exact accepted.trans ((Keeps.refl _).place p k).neat
  | cancel p k m => exact ((start.freeSlot k).closeEntry p).neat
  | purge k m => exact (start.reclaim k).neat
  | reroute p s₁ update => exact update.neat.trans ((Keeps.refl s₁).routingEffects p s).neat
  | fence p marks => exact ⟨id, id⟩
  | configure f => exact ⟨id, settingsInRange_configured f⟩
  | list q es => exact ⟨id, id⟩
  | next p e es => exact ((start.setStickyFlags ..).handOut ..).neat
  | extend p k m => exact (start.modRecord ..).neat
  | dispose p k m d mark record handed r => exact (((start.clearActive p).applyReport ..).settleFences _).neat
  | enable p on => exact (start.switchEnable ..).neat
  | suspend p h named token m e es => exact (((start.setStickyFlags ..).suspend ..).handOut ..).neat
  | pop p r rest => exact ((start.modBreakin ..).breakInCheck p).neat
  | resume p r rest => exact ((((start.modBreakin ..).modRecord ..).modBreakin ..).notifyWatchers _ |>.breakInCheck p).neat
  | hold p k m => exact (start.holdMessage ..).neat
  | release p k m r => exact (start.releaseMessage ..).neat
  | void p k m => exact (start.voidMessage ..).neat
  | amend k f m => exact (start.amendMessage ..).neat
  | note k m chars => exact (((start.takeSegments 1).modRecord ..).notifyWatchers k).neat
  | watch p on k m => exact (start.modRecord ..).neat
  | fetch p => exact (start.modNoticeQueue p fun _ form => NoticeQueue.inForm_of_sublist form (List.drop_sublist ..)).neat

end

end Sys2Proof.Machine
end

section
/-! The obligations about every step or every command in any state (R4, R84, R97, R163). -/

namespace Sys2Proof.Machine

section
variable {s t : State}

/-- A step takes nothing, or a command on the part with the rest of the queue. -/
theorem step_cases (next : step s = .next t) : t = s ∨ ∃ c rest, exec c { s with pending := rest } = .next t := by
  unfold step at next
  split at next
  · exact .inl (Host.Outcome.next.inj next).symm
  · next c rest _ => exact .inr ⟨c, rest, next⟩

/-- A law that a cold reset establishes and that every other command keeps is kept by every step. -/
theorem law_of_step {law : State → Prop} (waiting : ∀ s cs, law s → law { s with pending := cs })
    (cold : ∀ straps lines cs, law { State.cold straps lines with pending := cs })
    (each : ∀ c s t, (∀ straps lines, c ≠ .coldReset straps lines) → exec c s = .next t → law s → law t)
    (before : law s) (next : step s = .next t) : law t := by
  obtain rfl | ⟨c, rest, taken⟩ := step_cases next
  · exact before
  · by_cases notCold : ∀ straps lines, c ≠ .coldReset straps lines
    · exact each c _ t notCold taken (waiting s rest before)
    · push Not at notCold
      obtain ⟨straps, lines, rfl⟩ := notCold
      obtain rfl := Host.Outcome.next.inj taken
      exact cold straps lines _

/-! ### O57 -/

theorem Neat.resetPort (p : Port) : Neat s (resetPort p s) := by
  rw [resetPort_eq]
  have silenced : Keeps s (s.portSilenced p) := by
    unfold State.portSilenced
    rw [← abandonEntry_eq]
    exact Keeps.abandonEntry (t := s.modPort p _) ((Keeps.refl s).to rfl rfl) p
  have disarmed : Keeps s (s.portDisarmed p) := silenced.to rfl rfl
  have linked : Neat s (s.portLinked p) := by
    unfold State.portLinked
    split
    · exact disarmed.neat
    · rw [← routingEffects_eq ⟨rfl⟩]
      have raised : Neat (s.portDisarmed p) { s.portDisarmed p with links := vmod s.links p (fun _ => true) } := ⟨id, id⟩
      exact (disarmed.neat.trans raised).trans ((Keeps.refl _).routingEffects ..).neat
  have returned : Keeps (s.portLinked p) (s.portReturned p) := by
    unfold State.portReturned
    rw [← settleFences_eq, ← show returnAtReset p = State.handedBack p from funext₂ (returnAtReset_eq p)]
    exact (Keeps.foldl (fun h kept => (kept.modRecord ..).returnToQueue h.slot p) _ ((Keeps.refl _).modBreakin ..)).settleFences _
  have emptied : Keeps (s.portReturned p) ((s.portReturned p).modNoticeQueue p (fun _ => NoticeQueue.empty)) :=
    (Keeps.refl _).modNoticeQueue p fun _ _ => NoticeQueue.inForm_empty
  exact linked.trans (returned.trans (emptied.to rfl rfl : Keeps _ (s.portReset p))).neat

theorem Neat.warmReset (straps : Straps) : Neat s (warmReset straps s) := by
  have ended : Keeps s (abandonEntries s) := Keeps.foldl (fun p kept => kept.abandonEntry p) allPorts (.refl s)
  refine ⟨fun _ p => ?_, fun range => settingsInRange_congr (congrArg Settings.scoring ended.settings)
    (congrArg Settings.routes ended.settings) range⟩
  have empty : (Machine.warmReset straps s).noticeQueue p = NoticeQueue.empty := by
    simp [State.noticeQueue, Machine.warmReset, Vector.get_eq_getElem]
  rw [empty]
  exact NoticeQueue.inForm_empty

theorem eventEffect_neat {c : Instr} (notCold : ∀ straps lines, c ≠ .coldReset straps lines) : Neat s (eventEffect c s) := by
  have start : Keeps s s := .refl s
  have ticked : Keeps s (takeTicks s) := start.takeTicksAt allSlots
  cases c with
  | coldReset straps lines => exact absurd rfl (notCold straps lines)
  | selectFall p =>
    change Neat s (beginExchange p s)
    unfold beginExchange
    split
    · exact (start.to rfl rfl : Keeps s (s.modPort p _)).neat
    · exact start.neat
  | exchange p bytes extraBits =>
    change Neat s (endExchange p bytes s)
    unfold endExchange
    split
    · exact start.neat
    · exact (start.to rfl rfl : Keeps s (s.modPort p _)).neat
  | tick =>
    change Neat s (tickOnce s)
    unfold tickOnce
    split
    · exact ticked.neat.trans ⟨id, id⟩
    · exact start.neat
  | entryIdleTimeout => exact start.takeEntryTick.neat
  | leaseExpiry => exact (start.takeLeaseTick allSlots).neat
  | deliveryDeadlineExpiry => exact (start.takeDeadlineTick allSlots).neat
  | portReset p =>
    change Neat s (assertPortReset p s)
    unfold assertPortReset
    split
    · exact start.neat
    · exact ticked.neat.trans (.resetPort p)
  | warmReset straps =>
    change Neat s (assertDeviceReset straps s)
    unfold assertDeviceReset
    split
    · exact start.neat
    · exact ticked.neat.trans (.warmReset straps)
  | supplyBelowWorkingLevel seen => cases seen <;> exact ⟨id, id⟩
  | _ => exact ⟨id, id⟩

theorem Keeps.ticksBefore (c : Instr) : Keeps s (ticksBefore c s) := by
  unfold Machine.ticksBefore
  split
  · next p h token =>
    obtain e | ⟨k, -, -, e⟩ := ticksBeforeBreakin_cases p (nextBreakin p h token) s
    · rw [e]
      exact (Keeps.refl s).takeTicksAt allSlots
    · rw [e]
      exact (Keeps.refl s).takeTicksAt _
  · exact (Keeps.refl s).takeTicksAt allSlots

theorem exec_neat {c : Instr} (notCold : ∀ straps lines, c ≠ .coldReset straps lines) (next : exec c s = .next t) :
    Neat s t := by
  obtain still | ⟨p, rq, -, -, acted⟩ | ⟨-, event⟩ := exec_cases c s
  · rw [still, Host.Outcome.next.injEq] at next
    exact next ▸ (Keeps.refl s).neat
  · rw [acted, Host.Outcome.next.injEq] at next
    subst next
    refine (Keeps.ticksBefore c).neat.trans ?_
    obtain same | ⟨-, effect⟩ := blockAct_outcome c (ticksBefore c s)
    · rw [same]
      exact ⟨id, id⟩
    · exact effect.neat.trans ⟨id, id⟩
  · rw [event, Host.Outcome.next.injEq] at next
    exact next ▸ eventEffect_neat notCold

theorem exec_queuesRoutable {c : Instr} (notCold : ∀ straps lines, c ≠ .coldReset straps lines) (next : exec c s = .next t)
    (before : s.queuesRoutable) : t.queuesRoutable := by
  obtain moves | ⟨p, f, hd, k, u, opens⟩ := exec_moves (strict := False) notCold False.elim next
  · exact moves.induct (fun move before => move.queuesRoutable before) before
  · exact opens.queuesRoutable (opens.moves.induct (fun move before => move.queuesRoutable before) before)

/-- Settles O57: the notice queues change by joins and withdrawals, a record that is left QUEUED resolves and has no pending
upgrade, and the settings change by requests whose fields are in range. -/
theorem everyStepKeepsQueuesInForm : Obligations.EveryStepKeepsQueuesInForm := by
  intro s t next
  refine ⟨fun form => ?notices, fun routable => ?queues, fun range => ?settings⟩
  case notices =>
    exact law_of_step (law := State.noticesInForm) (fun _ _ => id) (fun straps lines _ => (lawful_cold straps lines).notices)
      (fun c s t notCold next => (exec_neat notCold next).notices) form next
  case queues =>
    exact law_of_step (law := State.queuesRoutable) (fun _ _ => id) (fun straps lines _ => (lawful_cold straps lines).queues)
      (fun c s t notCold next => exec_queuesRoutable notCold next) routable next
  case settings =>
    exact law_of_step (law := State.settingsInRange) (fun _ _ => id)
      (fun straps lines _ => (lawful_cold straps lines).settings)
      (fun c s t notCold next => (exec_neat notCold next).settings) range next

/-! ### O55 -/

/-- Only a TICK moves the seconds count, by one (R183). -/
theorem eventEffect_seconds {c : Instr} (notCold : ∀ straps lines, c ≠ .coldReset straps lines) :
    (eventEffect c s).seconds = s.seconds ∨ c = .tick ∧ (eventEffect c s).seconds = s.seconds + 1 := by
  have ticked : (takeTicks s).seconds = s.seconds := congrArg Housing.seconds (housing_takeTicks s)
  cases c with
  | coldReset straps lines => exact absurd rfl (notCold straps lines)
  | selectFall p =>
    refine .inl ?_
    change (beginExchange p s).seconds = _
    unfold beginExchange
    split <;> rfl
  | exchange p bytes extraBits =>
    refine .inl ?_
    change (endExchange p bytes s).seconds = _
    unfold endExchange
    split <;> rfl
  | tick =>
    change (tickOnce s).seconds = _ ∨ _ ∧ (tickOnce s).seconds = _
    unfold tickOnce
    split
    · exact .inr ⟨rfl, congrArg (· + 1) ticked⟩
    · exact .inl rfl
  | entryIdleTimeout => exact .inl (congrArg Housing.seconds (housing_takeEntryTick s))
  | leaseExpiry => exact .inl (congrArg Housing.seconds (housing_takeLeaseTick allSlots s))
  | deliveryDeadlineExpiry => exact .inl (congrArg Housing.seconds (housing_takeDeadlineTick allSlots s))
  | portReset p =>
    refine .inl ?_
    change (assertPortReset p s).seconds = _
    unfold assertPortReset
    split
    · rfl
    · have reset : (resetPort p (takeTicks s)).seconds = _ := congrArg Housing.seconds (housing_resetPort p (takeTicks s))
      exact reset.trans ticked
  | warmReset straps =>
    refine .inl ?_
    change (assertDeviceReset straps s).seconds = _
    unfold assertDeviceReset
    split
    · rfl
    · have reset : (warmReset straps (takeTicks s)).seconds = _ := congrArg Housing.seconds (housing_abandonEntries (takeTicks s))
      exact reset.trans ticked
  | supplyBelowWorkingLevel seen => cases seen <;> exact .inl rfl
  | _ => exact .inl rfl

theorem exec_seconds {c : Instr} (notCold : ∀ straps lines, c ≠ .coldReset straps lines) (next : exec c s = .next t) :
    t.seconds = s.seconds ∨ c = .tick ∧ t.seconds = s.seconds + 1 := by
  obtain still | ⟨p, rq, -, -, acted⟩ | ⟨-, event⟩ := exec_cases c s
  · rw [still, Host.Outcome.next.injEq] at next
    exact .inl (next ▸ rfl)
  · rw [acted, Host.Outcome.next.injEq] at next
    subst next
    exact .inl (congrArg Housing.seconds ((housing_blockAct c _).trans (housing_ticksBefore c s)))
  · rw [event, Host.Outcome.next.injEq] at next
    exact next ▸ eventEffect_seconds notCold

/-- A header that is read is that of the fields (R30). -/
theorem header_of_readEnterBegin {f : EnterBeginFields} {hd : Header} (read : readEnterBegin f = some hd) :
    ∃ origin cls, readStation f.station = some origin ∧ cls.code = f.klass.toNat
      ∧ hd = EnterBeginFields.header f cls origin := by
  unfold readEnterBegin at read
  split at read
  · next c origin klass station =>
    split at read
    · exact ⟨origin, c, station, readClass_eq_some_iff.mp klass, (Option.some.inj read).symm⟩
    · cases read
  · cases read

/-- Settles O55: the seconds count is no block's to write; every move frees a slot once at most, and the entry that an
ENTER-BEGIN opens is in a slot that was EMPTY or has just been freed. -/
theorem timeAndIncarnationsMoveForward : Obligations.TimeAndIncarnationsMoveForward := by
  intro c s t notCold next
  refine ⟨?forward, ?tickOnly, fun k => ?slot⟩
  case forward => obtain same | ⟨-, later⟩ := exec_seconds notCold next <;> omega
  case tickOnly =>
    intro moved
    obtain same | ⟨tick, -⟩ := exec_seconds notCold next
    · exact absurd same moved
    · exact tick
  case slot =>
    obtain moves | ⟨p, f, hd, j, u, opens⟩ := exec_moves (strict := False) notCold False.elim next
    · obtain ⟨inc, full⟩ | ⟨inc, full, gone⟩ := moves.freedAtMostOnce k
      · refine ⟨.inl inc, fun was none => ?_⟩
        rw [none, was] at full
        cases full
      · exact ⟨.inr ⟨inc, full, .inl gone⟩, fun _ _ => inc⟩
    · have inc : (t.slot k).inc = (u.slot k).inc := by
        rw [opens.slot]
        split <;> rfl
      have record : t.record k = if j = k then some (newMessage p hd) else u.record k := by
        rw [State.record_eq, opens.slot]
        split <;> rfl
      obtain ⟨same, full⟩ | ⟨later, full, gone⟩ := opens.moves.freedAtMostOnce k
      · refine ⟨.inl (inc.trans same), fun was none => ?_⟩
        rw [record] at none
        split at none
        · cases none
        · rw [none, was] at full
          cases full
      · refine ⟨.inr ⟨inc.trans later, full, ?_⟩, fun _ _ => inc.trans later⟩
        rw [record]
        split
        · obtain ⟨origin, cls, station, code, rfl⟩ := header_of_readEnterBegin opens.fields
          exact .inr ⟨p, f, origin, cls, opens.command, station, code, congrArg some (newMessage_header p f cls origin)⟩
        · exact .inl gone

end

end Sys2Proof.Machine
end

section
/-! The limits of a record and the way it was entered, under the changes that a message in traffic undergoes (R9 to R16,
R110). -/

namespace Sys2Proof.Machine

/-- A message that has been entered, within its limits. -/
structure Message.Entered (m : Message) : Prop where
  sound : m.Sound
  entered : m.custody ≠ .filling

section
variable {m n : Message}

/-- What the limits and the entry say of a message that is not FILLING, part by part. -/
theorem Message.entered_iff : m.Entered ↔ m.withinLimits ∧ m.custody ≠ .filling ∧ m.entry.isSome = true
    ∧ (m.history.head?.map (fun e => e.event)) = some .entered := by
  constructor
  · rintro ⟨⟨limits, -, entered⟩, not⟩
    obtain ⟨entry, history⟩ := entered not
    exact ⟨limits, not, entry, history⟩
  · rintro ⟨limits, not, entry, history⟩
    exact ⟨⟨limits, fun filling => absurd filling not, fun _ => ⟨entry, history⟩⟩, not⟩

theorem Message.Entered.bounces_le (entered : m.Entered) (limit : m.custody ≠ .held .bounceLimit) (void : m.custody ≠ .void) :
    m.bounces ≤ 6 := by
  obtain ⟨⟨-, -, -, -, -, -, -, -, few | ⟨-, held | gone⟩⟩, -⟩ := entered.sound
  · exact few
  · exact absurd held limit
  · exact absurd gone void

/-- A logged event leaves the first, ENTERED, and at most eight (R13). -/
theorem Message.Entered.log (entered : m.Entered) (now : Nat) (p : Option Port) (e : HistoryEvent) :
    (Message.log now p e m).Entered := by
  obtain ⟨⟨words, text, notes, history, dropped, rest⟩, not, entry, first⟩ := Message.entered_iff.mp entered
  unfold Message.log Config.historyLimit
  dsimp only
  split
  · next full =>
    obtain ⟨x, xs, is⟩ : ∃ x xs, m.history = x :: xs := by
      cases hist : m.history with
      | nil => rw [hist] at full; simp at full
      | cons x xs => exact ⟨x, xs, rfl⟩
    rw [is] at history first full
    refine Message.entered_iff.mpr ⟨⟨words, text, notes, ?_, Nat.min_le_right .., rest⟩, not, entry, ?_⟩
    · rw [is]
      simp only [List.eraseIdx_cons_succ, List.length_append, List.length_cons, List.length_nil] at history full ⊢
      rw [List.length_eraseIdx]
      split <;> omega
    · rw [is]
      exact first
  · next short =>
    refine Message.entered_iff.mpr ⟨⟨words, text, notes, ?_, dropped, rest⟩, not, entry, ?_⟩
    · simp only [List.length_append, List.length_cons, List.length_nil]
      omega
    · cases hist : m.history with
      | nil => rw [hist] at first; cases first
      | cons x xs => rw [hist] at first; exact first

/-- A message comes into another custody (R110). -/
theorem Message.Entered.withCustody (entered : m.Entered) {c : Custody} (not : c ≠ .filling)
    (bounces : m.bounces ≤ 6 ∨ m.bounces = 7 ∧ (c = .held .bounceLimit ∨ c = .void)) :
    ({ m with custody := c } : Message).Entered := by
  obtain ⟨⟨words, text, notes, history, dropped, copies, low, high, -⟩, -, entry, first⟩ := Message.entered_iff.mp entered
  exact Message.entered_iff.mpr ⟨⟨words, text, notes, history, dropped, copies, low, high, bounces⟩, not, entry, first⟩

theorem Message.Entered.withClass (entered : m.Entered) (c : Class) (upgrade : Option Class) :
    ({ m with klass := c, pendingUpgrade := upgrade } : Message).Entered := by
  obtain ⟨limits, not, entry, first⟩ := Message.entered_iff.mp entered
  exact Message.entered_iff.mpr ⟨limits, not, entry, first⟩

theorem Message.Entered.applyUpgrade (entered : m.Entered) : (Message.applyUpgrade m).Entered := by
  rw [Message.applyUpgrade_frame]
  exact entered.withClass ..

theorem Message.Entered.withToken (entered : m.Entered) (token : Byte) : ({ m with token := token } : Message).Entered := by
  obtain ⟨limits, not, entry, first⟩ := Message.entered_iff.mp entered
  exact Message.entered_iff.mpr ⟨limits, not, entry, first⟩

theorem Message.Entered.withWatchers (entered : m.Entered) (ports : PortSet) :
    ({ m with watchers := ports } : Message).Entered := by
  obtain ⟨limits, not, entry, first⟩ := Message.entered_iff.mp entered
  exact Message.entered_iff.mpr ⟨limits, not, entry, first⟩

/-- The bounce count falls to 0 or, below the limit, advances to at most 6 (R110, R148). -/
theorem Message.Entered.withBounces (entered : m.Entered) {b : Nat} (few : b ≤ 6) (deadline : Option Nat) :
    ({ m with bounces := b, deadline := deadline } : Message).Entered := by
  obtain ⟨⟨words, text, notes, history, dropped, copies, low, high, -⟩, not, entry, first⟩ := Message.entered_iff.mp entered
  exact Message.entered_iff.mpr ⟨⟨words, text, notes, history, dropped, copies, low, high, .inl few⟩, not, entry, first⟩

theorem Message.Entered.withAdjust (entered : m.Entered) {x : Int} (low : -4096 ≤ x) (high : x ≤ 4095) :
    ({ m with adjust := x } : Message).Entered := by
  obtain ⟨⟨words, text, notes, history, dropped, copies, -, -, bounces⟩, not, entry, first⟩ := Message.entered_iff.mp entered
  exact Message.entered_iff.mpr ⟨⟨words, text, notes, history, dropped, copies, low, high, bounces⟩, not, entry, first⟩

theorem Message.Entered.noted (entered : m.Entered) (room : m.notes.length < 4) (chars : List Byte) :
    (noted chars m).Entered := by
  obtain ⟨⟨words, text, notes, history, dropped, rest⟩, not, entry, first⟩ := Message.entered_iff.mp entered
  refine Message.entered_iff.mpr ⟨⟨words, text, ?_, history, dropped, rest⟩, not, entry, first⟩
  simp only [Machine.noted, List.length_append, List.length_cons, List.length_nil]
  omega

theorem Message.Entered.held (entered : m.Entered) (few : m.bounces ≤ 6) (now : Nat) (p : Option Port) (r : HoldReason) :
    (Message.log now p .held { m with custody := .held r }).Entered :=
  (entered.withCustody (by simp) (.inl few)).log ..

theorem Message.Entered.returned (entered : m.Entered) (few : m.bounces ≤ 6) (now : Nat) (p : Port) (resolves : Bool) :
    (returned now p resolves m).Entered := by
  have upgraded := entered.applyUpgrade
  have few' : (Message.applyUpgrade m).bounces ≤ 6 := by rw [Message.applyUpgrade_bounces]; exact few
  unfold Machine.returned
  dsimp only
  split
  · exact upgraded.held few' ..
  · split
    · exact upgraded.withCustody (by simp) (.inl few')
    · exact upgraded.held few' ..

/-- A bounce is the seventh at most, and then the message is held for it (R110). -/
theorem Message.Entered.bounced (entered : m.Entered) (few : m.bounces ≤ 6) (now : Nat) (p : Port) (e : HistoryEvent)
    (resolves : Bool) : (bounced now p e resolves m).Entered := by
  obtain ⟨⟨words, text, notes, history, dropped, copies, low, high, -⟩, not, entry, first⟩ := Message.entered_iff.mp entered
  obtain ⟨n, isLogged⟩ : ∃ n, n = Message.log now (some p) e { m with bounces := m.bounces + 1 } := ⟨_, rfl⟩
  have bounces : n.bounces = m.bounces + 1 := by rw [isLogged, Message.log_bounces]
  have counted (c : Custody) (only : c ≠ .filling) (fits : m.bounces + 1 ≤ 6 ∨ m.bounces + 1 = 7
      ∧ (c = .held .bounceLimit ∨ c = .void)) : ({ n with custody := c } : Message).Entered := by
    have whole : ({ m with bounces := m.bounces + 1, custody := c } : Message).Entered :=
      Message.entered_iff.mpr ⟨⟨words, text, notes, history, dropped, copies, low, high, fits⟩, only, entry, first⟩
    have same : { n with custody := c } = Message.log now (some p) e { m with bounces := m.bounces + 1, custody := c } := by
      rw [isLogged, ← Message.log_withCustody]
    rw [same]
    exact whole.log ..
  unfold Machine.bounced
  dsimp only
  rw [← isLogged]
  split
  · next limit => exact (counted _ (by simp) (.inr ⟨by omega, .inl rfl⟩)).log ..
  · next below =>
    have was := counted m.custody not (.inl (by omega))
    have custody : n.custody = m.custody := by rw [isLogged, Message.log_custody]
    rw [← custody] at was
    exact Message.Entered.returned was (show n.bounces ≤ 6 by omega) ..

theorem rerouted_of_filling (filling : m.custody = .filling) (now : Nat) (p : Port) (resolves : Bool) :
    rerouted now p resolves m = m := by
  unfold rerouted
  rw [filling]

/-- A routing change leaves every message within its limits (R74 to R76). -/
theorem Message.Entered.rerouted (entered : m.Entered) (now : Nat) (p : Port) (resolves : Bool) :
    (rerouted now p resolves m).Entered := by
  have upgraded := entered.applyUpgrade
  unfold Machine.rerouted
  cases custody : m.custody with
  | filling => exact absurd custody entered.entered
  | handed q d mark =>
    exact entered.withCustody (by simp) (.inl (entered.bounces_le (by simp [custody]) (by simp [custody])))
  | suspended q d mark =>
    exact entered.withCustody (by simp) (.inl (entered.bounces_le (by simp [custody]) (by simp [custody])))
  | queued =>
    cases resolves with
    | true => exact entered
    | false => exact entered.held (entered.bounces_le (by simp [custody]) (by simp [custody])) ..
  | held r =>
    cases r with
    | unrouted =>
      cases resolves with
      | false => exact entered
      | true =>
        have few := entered.bounces_le (by simp [custody]) (by simp [custody])
        have few' : (Message.log now (some p) .released (Message.applyUpgrade m)).bounces ≤ 6 := by
          rw [Message.log_bounces, Message.applyUpgrade_bounces]
          exact few
        have released := upgraded.log now (some p) .released
        simp only [if_true]
        split
        · exact released.held few' ..
        · exact released.withCustody (by simp) (.inl few')
    | bounceLimit | refused | deadlinePassed | control => exact entered
  | disposed | void => exact entered

theorem Message.Sound.rerouted (sound : m.Sound) (now : Nat) (p : Port) (resolves : Bool) :
    (rerouted now p resolves m).Sound := by
  by_cases filling : m.custody = .filling
  · rw [rerouted_of_filling filling]
    exact sound
  · exact (Message.Entered.rerouted ⟨sound, filling⟩ ..).sound

/-- The watcher set is no matter of a message that has been entered; a FILLING one has none (R158). -/
theorem Message.Sound.withWatchers (sound : m.Sound) {ports : PortSet}
    (none : m.custody = .filling → ports = Vector.replicate 4 false) : ({ m with watchers := ports } : Message).Sound := by
  obtain ⟨limits, filling, entered⟩ := sound
  refine ⟨limits, fun is => ?_, entered⟩
  obtain ⟨entry, history, -, upgrade, notes⟩ := filling is
  exact ⟨entry, history, none is, upgrade, notes⟩

theorem noPort_set (p : Port) : (Vector.replicate 4 false).set p.val false p.isLt = Vector.replicate 4 false := by
  revert p
  decide

/-- A message in custody has bounced six times at most (R110). -/
theorem Message.Entered.of_holder (sound : m.Sound) (held : m.custody.holder.isSome = true) : m.Entered ∧ m.bounces ≤ 6 := by
  have entered : m.Entered := ⟨sound, fun filling => by rw [filling] at held; cases held⟩
  exact ⟨entered, entered.bounces_le (fun is => by rw [is] at held; cases held) (fun is => by rw [is] at held; cases held)⟩

/-- A routing change leaves the holder and the bounce count of a message in custody. -/
theorem rerouted_of_holder (held : m.custody.holder.isSome = true) (now : Nat) (p : Port) (resolves : Bool) :
    ∃ c : Custody, c.holder.isSome = true ∧ rerouted now p resolves m = { m with custody := c } := by
  unfold rerouted
  cases custody : m.custody with
  | handed q d mark => exact ⟨_, rfl, rfl⟩
  | suspended q d mark => exact ⟨_, rfl, rfl⟩
  | filling | queued | held | disposed | void => simp [custody, Custody.holder] at held

/-- A record after a port reset is within its limits (R119, R158). -/
theorem Message.Sound.afterPortReset (sound : m.Sound) (now : Nat) (p : Port) (linkUp resolves : Bool) :
    (afterPortReset now p linkUp resolves m).Sound := by
  obtain ⟨n, isLinked⟩ : ∃ n, n = (if linkUp = true then m else Machine.rerouted now p resolves m) := ⟨_, rfl⟩
  have linked : n.Sound := by
    rw [isLinked]
    split
    · exact sound
    · exact sound.rerouted now p resolves
  unfold Machine.afterPortReset
  dsimp only
  rw [← isLinked]
  split
  · next holder =>
    have held : m.custody.holder.isSome = true := by rw [holder]; rfl
    have held' : n.custody.holder.isSome = true := by
      rw [isLinked]
      split
      · exact held
      · obtain ⟨c, is, same⟩ := rerouted_of_holder held now p resolves
        rw [same]
        exact is
    obtain ⟨entered, few⟩ := Message.Entered.of_holder linked held'
    have returned := ((entered.withToken (n.token + 1)).log now (some p) .requeued).returned
      (by rw [Message.log_bounces]; exact few) now p resolves
    exact returned.sound.withWatchers fun filling => absurd filling returned.entered
  · refine linked.withWatchers fun filling => ?_
    rw [(linked.2.1 filling).2.2.1]
    exact noPort_set p

/-- A record after a warm reset is within its limits (R120). -/
theorem Message.Sound.warmRecord (sound : m.Sound) (s : State) : (warmRecord s m).Sound := by
  have back : (warmReturn s.seconds m).Sound := by
    cases holder : m.custody.holder with
    | none =>
      rw [warmReturn_of_loose _ holder]
      exact sound
    | some p =>
      obtain ⟨entered, few⟩ := Message.Entered.of_holder sound (by rw [holder]; rfl)
      have requeue : (Message.applyUpgrade (requeued s.seconds p m)).Entered :=
        ((entered.withToken (m.token + 1)).log s.seconds (some p) .requeued).applyUpgrade
      have few' : (Message.applyUpgrade (requeued s.seconds p m)).bounces ≤ 6 := by
        rw [Message.applyUpgrade_bounces, requeued, Message.log_bounces]
        exact few
      rw [warmReturn_of_held _ holder]
      split
      · exact (requeue.held few' ..).sound
      · exact (requeue.withCustody (by simp) (.inl few')).sound
  obtain ⟨n, isBack⟩ : ∃ n, n = warmReturn s.seconds m := ⟨_, rfl⟩
  unfold Machine.warmRecord
  dsimp only
  rw [← isBack] at back ⊢
  refine Message.Sound.withWatchers ?_ fun _ => rfl
  by_cases filling : n.custody = .filling
  · rw [warmResolve, filling]
    exact back
  · have entered : n.Entered := ⟨back, filling⟩
    have upgraded := entered.applyUpgrade
    unfold warmResolve
    cases custody : n.custody with
    | queued =>
      cases (s.resolve n.area).isSome with
      | true => exact back
      | false => exact (entered.held (entered.bounces_le (by simp [custody]) (by simp [custody])) ..).sound
    | held r =>
      cases r with
      | unrouted =>
        cases (s.resolve n.area).isSome with
        | false => exact back
        | true =>
          have few := entered.bounces_le (by simp [custody]) (by simp [custody])
          have few' : (Message.log s.seconds none .released (Message.applyUpgrade n)).bounces ≤ 6 := by
            rw [Message.log_bounces, Message.applyUpgrade_bounces]
            exact few
          have released := upgraded.log s.seconds none .released
          simp only [if_true]
          split
          · exact (released.held few' ..).sound
          · exact (released.withCustody (by simp) (.inl few')).sound
      | bounceLimit | refused | deadlinePassed | control => exact back
    | filling | handed | suspended | disposed | void => exact back

end

end Sys2Proof.Machine
end

section
/-! The store's laws under reclamation, segment taking and the requests of the Entry Unit (R27, R32, R37, R42, R43, R55, R58). -/

namespace Sys2Proof.Machine

section
variable {s t : State} {k : SlotNo} {m n : Message} {p : Port}

theorem State.StoreLaws.aside (laws : s.StoreLaws) (aside : Aside s t) : t.StoreLaws := laws.of_ledger aside.ledger

theorem ledger_settleFences (before : Nat) (s : State) : (settleFences before s).ledger = s.ledger := by
  rw [settleFences_frame]
  rfl

/-- A change of the break-in state that leaves the active handoff and the stack. -/
theorem ledger_modBreakin {f : BreakIn → BreakIn} (active : ∀ b, (f b).active = b.active) (stack : ∀ b, (f b).stack = b.stack)
    (s : State) (p : Port) : (s.modBreakin p f).ledger = s.ledger := by
  have each (q : Port) : ((s.modBreakin p f).breakin q).active = (s.breakin q).active
      ∧ ((s.modBreakin p f).breakin q).stack = (s.breakin q).stack := by
    rw [State.breakin_modBreakin]
    split
    · exact ⟨active _, stack _⟩
    · exact ⟨rfl, rfl⟩
  unfold State.ledger
  congr 1
  · exact funext fun q => (each q).1
  · exact funext fun q => (each q).2

theorem State.StoreLaws.entered (laws : s.StoreLaws) (record : s.record k = some m) (not : m.custody ≠ .filling) :
    m.Entered := ⟨laws.records k m record, not⟩

/-! ### Views of a message that is in nobody's custody -/

theorem Message.grip_of_loose (loose : m.custody.holder = none) : m.grip = none := by
  unfold Message.grip
  cases custody : m.custody with
  | handed | suspended => simp [custody, Custody.holder] at loose
  | filling | queued | held | disposed | void => rfl

theorem Message.fills_of_entered (not : m.custody ≠ .filling) : m.fills = none := if_neg not

theorem Message.retainedRecord_iff : m.retainedRecord = true ↔ (∃ o time, m.custody = .disposed o time) ∨ m.custody = .void := by
  rw [Message.retainedRecord]
  cases m.custody <;> simp

/-- A retained record is free of entries and of custody (R53). -/
theorem Message.loose_of_retained (retained : m.retainedRecord = true) : m.grip = none ∧ m.fills = none := by
  obtain ⟨o, time, custody⟩ | custody := Message.retainedRecord_iff.mp retained
  · exact ⟨Message.grip_of_loose (by rw [custody]; rfl), Message.fills_of_entered (by rw [custody]; simp)⟩
  · exact ⟨Message.grip_of_loose (by rw [custody]; rfl), Message.fills_of_entered (by rw [custody]; simp)⟩

/-- A FILLING message is in nobody's custody and not retained. -/
theorem Message.loose_of_filling (filling : m.custody = .filling) : m.grip = none ∧ m.retainedRecord = false := by
  refine ⟨Message.grip_of_loose (by rw [filling]; rfl), ?_⟩
  rw [Bool.eq_false_iff]
  intro retained
  obtain ⟨o, time, custody⟩ | custody := Message.retainedRecord_iff.mp retained
  · rw [filling] at custody
    cases custody
  · rw [filling] at custody
    cases custody

/-! ### Reclamation (R55, R58) -/

/-- The record of a slot, if any, is retained. -/
def State.OnlyRetained (s : State) (k : SlotNo) : Prop := ∀ m, s.record k = some m → m.retainedRecord = true

theorem State.StoreLaws.reclaim (laws : s.StoreLaws) (only : s.OnlyRetained k) : (reclaim k s).StoreLaws := by
  cases record : s.record k with
  | none =>
    rw [Machine.reclaim, record]
    exact laws
  | some m =>
    obtain ⟨loose, entered⟩ := Message.loose_of_retained (only m record)
    rw [reclaim_eq record]
    have told := laws.aside (Aside.told s m.watchers
      { kind := .reclaimed, handle := some (s.handleOf k), detail := .nothing, time := s.seconds })
    exact told.free (k := k) (m := m) ⟨record, rfl, rfl, rfl⟩ loose entered rfl (fun _ => rfl) (fun _ => rfl)

theorem State.OnlyRetained.reclaim {j : SlotNo} (only : s.OnlyRetained k) : (reclaim j s).OnlyRetained k := by
  intro m record
  by_cases same : j = k
  · subst same
    rw [State.record_eq, slot_reclaim, if_pos rfl] at record
    rw [Slot.record_freed] at record
    cases record
  · rw [record_reclaim_other same] at record
    exact only m record

theorem State.StoreLaws.onlyRetained (laws : s.StoreLaws) {h : Handle} (member : h ∈ s.retained) : s.OnlyRetained h.slot := by
  intro m record
  obtain ⟨-, current, exactly⟩ := laws.retained
  have retained := (exactly h.slot).mp (by rw [current h member]; exact member)
  rw [record] at retained
  exact retained

theorem State.StoreLaws.reclaimForSegment {hs : List Handle} (laws : s.StoreLaws) (only : ∀ h ∈ hs, s.OnlyRetained h.slot) :
    (reclaimForSegment hs s).StoreLaws := by
  induction hs generalizing s with
  | nil => exact laws
  | cons h hs ih =>
    unfold Machine.reclaimForSegment
    split
    · exact laws
    · exact ih (laws.reclaim (only h List.mem_cons_self)) fun x member =>
        (only x (List.mem_cons_of_mem h member)).reclaim

/-- Where the reclamation leaves the pool empty, no record that it came to held a segment. -/
theorem segments_of_reclaimForSegment {hs : List Handle} (empty : (reclaimForSegment hs s).freeSegments = 0) :
    s.freeSegments = 0 ∧ ∀ h ∈ hs, ∀ m, s.record h.slot = some m → m.segments = 0 := by
  induction hs generalizing s with
  | nil => exact ⟨empty, nofun⟩
  | cons h hs ih =>
    unfold reclaimForSegment at empty
    split at empty
    · omega
    · next none =>
      obtain ⟨free, rest⟩ := ih empty
      have first (m : Message) (record : s.record h.slot = some m) : m.segments = 0 := by
        rw [freeSegments_reclaim record] at free
        omega
      refine ⟨by omega, fun x member m record => ?_⟩
      obtain rfl | later := List.mem_cons.mp member
      · exact first m record
      · by_cases same : h.slot = x.slot
        · exact first m (same ▸ record)
        · exact rest x later m (by rw [record_reclaim_other same]; exact record)

/-- Where the pool and the retained records hold a segment, one is had (R58). -/
theorem State.StoreLaws.segment_of_reclaim (laws : s.StoreLaws) (available : 1 ≤ s.freeSegments + s.retainedSegments) :
    1 ≤ (Machine.reclaimForSegment s.retained s).freeSegments := by
  by_contra none
  obtain ⟨free, without⟩ := segments_of_reclaimForSegment (s := s) (hs := s.retained) (by omega)
  have zero : s.retainedSegments = 0 := by
    unfold State.retainedSegments
    refine List.sum_eq_zero fun x member => ?_
    obtain ⟨k, -, rfl⟩ := List.mem_map.mp member
    split
    · next m record =>
      split
      · next retained =>
        obtain ⟨-, -, exactly⟩ := laws.retained
        refine without (s.handleOf k) ((exactly k).mpr ?_) m record
        rw [record]
        exact retained
      · rfl
    · rfl
  omega

/-- The segments that a request takes, where it is allowed: the part before they leave the pool obeys the store's laws, and its
pool holds them (R58). -/
theorem State.StoreLaws.takeSegments {n : Nat} (laws : s.StoreLaws) (few : n ≤ 1)
    (available : n = 0 ∨ 1 ≤ s.freeSegments + s.retainedSegments) :
    ∃ u : State, u.StoreLaws ∧ n ≤ u.freeSegments ∧ Machine.takeSegments n s = { u with freeSegments := u.freeSegments - n }
      ∧ u.slots = (Machine.takeSegments n s).slots := by
  unfold Machine.takeSegments
  obtain zero | available := available
  · subst zero
    exact ⟨s, laws, Nat.zero_le _, rfl, rfl⟩
  · by_cases zero : n = 0
    · subst zero
      exact ⟨s, laws, Nat.zero_le _, rfl, rfl⟩
    · rw [if_neg zero]
      refine ⟨Machine.reclaimForSegment s.retained s, laws.reclaimForSegment fun h member => laws.onlyRetained member, ?_, rfl,
        rfl⟩
      have one := laws.segment_of_reclaim available
      omega

/-! ### The text of an entry (R37) -/

theorem textSegments_mono {a b : Nat} (le : a ≤ b) : textSegments a ≤ textSegments b :=
  Nat.div_le_div_right (Nat.add_le_add_right le 39)

theorem segments_storeChars (m : Message) (chars : List Byte) (carry : Bool) :
    (storeChars m chars carry).segments = m.segments + segmentNeed m chars := by
  have mono := textSegments_mono (Nat.le_add_right m.text.length (storedChars m chars).length)
  simp only [Message.segments, storeChars, segmentNeed, List.length_append]
  omega

theorem Message.Sound.storeChars (sound : m.Sound) (chars : List Byte) (carry : Bool) :
    (storeChars m chars carry).Sound := by
  obtain ⟨⟨words, text, rest⟩, filling, entered⟩ := sound
  refine ⟨⟨?_, ?_, rest⟩, filling, entered⟩
  · exact (countWords_eq _ _ _ words).trans_le (Nat.min_le_left ..)
  · simp only [Machine.storeChars, List.length_append, storedChars, List.length_map, List.length_take, Config.textLimit]
    omega

/-- A change of the entry contexts that leaves what they name, and a carry of yes where none is open. -/
theorem State.StoreLaws.modEntry (laws : s.StoreLaws) {f : EntryContext → EntryContext}
    (names : (f (s.entryOf p)).filling.map (fun o => o.handle) = (s.entryOf p).filling.map (fun o => o.handle))
    (carry : (f (s.entryOf p)).filling = none → (f (s.entryOf p)).spaceCarry = true) : (s.modEntry p f).StoreLaws := by
  refine ⟨laws.records, laws.retained, laws.segments, ?_, laws.grips.of_same (fun _ => rfl) (fun _ _ => rfl) (fun _ => rfl)
    (fun _ => rfl)⟩
  refine laws.fills.of_same (fun _ => rfl) (fun _ _ => rfl) (fun q => ?_) (fun q none => ?_)
  · rw [State.entryOf_modEntry]
    split
    · next same => subst same; exact names
    · rfl
  · rw [State.entryOf_modEntry] at none ⊢
    split at none
    · next same => subst same; rw [if_pos rfl]; exact carry none
    · next other => rw [if_neg other]; exact laws.fills.carry q none

theorem State.StoreLaws.refreshEntry (laws : s.StoreLaws) (p : Port) (k : SlotNo) : (refreshEntry p k s).StoreLaws := by
  unfold Machine.refreshEntry
  split
  · exact laws
  · split
    · refine laws.modEntry ?_ fun none => laws.fills.carry p ?_
      · rw [Option.map_map]
        rfl
      · exact Option.map_eq_none_iff.mp none
    · exact laws

/-- A FILLING message names the open entry of its port (R27). -/
theorem State.StoreLaws.entry_of_filling (laws : s.StoreLaws) (filling : FillingOn s k m p) :
    ∃ o, (s.entryOf p).filling = some o ∧ o.handle = s.handleOf k := by
  obtain ⟨record, custody, port⟩ := filling
  exact laws.fills.filling k p (State.fillsAt_eq_some_iff.mpr ⟨m, record, custody, port⟩)

theorem segmentNeed_available {chars : List Byte} (allowed : segmentRefusal m.klass (segmentNeed m chars) s = none) :
    segmentNeed m chars = 0 ∨ 1 ≤ s.freeSegments + s.retainedSegments := by
  unfold segmentRefusal at allowed
  split at allowed
  · next zero => exact .inl zero
  · refine .inr ?_
    split at allowed
    · split at allowed
      · cases allowed
      · omega
    · split at allowed
      · cases allowed
      · omega

theorem State.StoreLaws.append (laws : s.StoreLaws) {chars : List Byte} (short : chars.length ≤ 40)
    (filling : FillingOn s k m p) (allowed : segmentRefusal m.klass (segmentNeed m chars) s = none) :
    (appendAccepted p k m chars s).2.StoreLaws := by
  obtain ⟨record, custody, port⟩ := filling
  obtain ⟨u, before, holds, taken, slots⟩ := laws.takeSegments (segmentNeed_le m short) (segmentNeed_available allowed)
  obtain ⟨o, entry, -⟩ := laws.entry_of_filling ⟨record, custody, port⟩
  have there : u.record k = some m := by
    rw [State.record_eq, State.slot, slots]
    exact (congrArg Slot.record (slot_takeSegments laws.retained record (Message.loose_of_filling custody).2)).trans record
  have entries : u.entries = s.entries := by
    have frame := congrArg State.entries (takeSegments_frame (segmentNeed m chars) s)
    rw [taken] at frame
    exact frame
  have written : ((Machine.takeSegments (segmentNeed m chars) s).modRecord k
      (fun m => storeChars m chars (s.entryOf p).spaceCarry)).StoreLaws := by
    rw [taken]
    have wrote : Wrote u k (storeChars m chars (s.entryOf p).spaceCarry)
        ({ u with freeSegments := u.freeSegments - segmentNeed m chars }.modRecord k
          (fun m => storeChars m chars (s.entryOf p).spaceCarry)) :=
      ⟨(show _ = (u.modRecord k fun m => storeChars m chars (s.entryOf p).spaceCarry).slots from rfl).trans
        (congrArg State.slots (modRecord_eq_withRecord (fun m => storeChars m chars (s.entryOf p).spaceCarry) there))⟩
    refine before.put there wrote ((before.records k m there).storeChars ..) ?_ rfl rfl (.inl ⟨rfl, rfl⟩)
      (before.grips.of_same (wrote.grip there rfl) (fun j _ => wrote.handle j) (fun _ => rfl) (fun _ => rfl))
    change u.freeSegments - segmentNeed m chars + (storeChars m chars _).segments = _
    rw [segments_storeChars]
    omega
  refine written.modEntry ?_ fun none => ?_
  · exact Option.map_map ..
  · have same : ((Machine.takeSegments (segmentNeed m chars) s).modRecord k
        (fun m => storeChars m chars (s.entryOf p).spaceCarry)).entryOf p = s.entryOf p := by
      rw [taken]
      exact congrArg (fun v : Vector EntryContext 4 => v.get p) entries
    rw [same] at none
    have idle : (s.entryOf p).filling = Option.none := Option.map_eq_none_iff.mp none
    rw [entry] at idle
    cases idle

end

end Sys2Proof.Machine
end

section
/-! What a change keeps besides the laws of the store: that a pending fence waits for a mark (R78), and that the stacks and the
active handoffs rise in class (R123). One relation puts the three together, with a rule for each kind of change. -/

namespace Sys2Proof.Machine

section
variable {s t u : State} {k : SlotNo} {m n : Message} {p : Port}

/-! ### Fences and marks (R78) -/

theorem State.outstanding_pos_iff (s : State) :
    1 ≤ s.outstanding ↔ ∃ k m, s.record k = some m ∧ m.custody.marked = true := by
  change 0 < List.countP _ _ ↔ _
  rw [List.countP_pos_iff]
  constructor
  · rintro ⟨k, -, test⟩
    split at test
    · next m record => exact ⟨k, m, record, test⟩
    · cases test
  · rintro ⟨k, m, record, marked⟩
    exact ⟨k, mem_allSlots k, by rw [record]; exact marked⟩

/-- Fences that are pending still wait where every marked message is marked still. -/
theorem fencesWait_of_marked (fences : ∀ p, t.fences.get p = true → s.fences.get p = true)
    (marked : ∀ k m, s.record k = some m → m.custody.marked = true → ∃ n, t.record k = some n ∧ n.custody.marked = true)
    (waits : s.fencesWait) : t.fencesWait := by
  intro p pending
  obtain ⟨k, m, record, mark⟩ := (State.outstanding_pos_iff s).mp (waits p (fences p pending))
  obtain ⟨n, record', mark'⟩ := marked k m record mark
  exact (State.outstanding_pos_iff t).mpr ⟨k, n, record', mark'⟩

/-- An event that may lower the outstanding count completes the fences where the count comes to 0 (R78). -/
theorem fencesWait_settled (fences : t.fences = s.fences) (waits : s.fencesWait) :
    (settleFences s.outstanding t).fencesWait := by
  rw [settleFences_eq, State.fencesSettled]
  split
  · intro p pending
    simp [Vector.get_eq_getElem] at pending
  · next still =>
    intro p pending
    rw [fences] at pending
    have before := waits p pending
    omega

/-! ### The stacks and the active handoffs (R123) -/

/-- The classes in hand of each port are some of those before, in their order. -/
theorem stacksOrdered_of_sublist
    (each : ∀ p, (t.breakin p).stack.length ≤ (s.breakin p).stack.length ∧ (t.classesInHand p).Sublist (s.classesInHand p))
    (ordered : s.stacksOrdered) : t.stacksOrdered := fun p =>
  ⟨(each p).1.trans (ordered p).1, (ordered p).2.sublist (each p).2⟩

theorem classesInHand_eq (s : State) (p : Port) : s.classesInHand p
    = ((s.breakin p).stack.map (fun r => r.klass.code)).reverse ++ ((s.activeClass p).map (fun c => c.code)).toList := by
  rw [State.classesInHand, List.map_reverse]

theorem classesInHand_congr
    (stack : (t.breakin p).stack.map (fun r => r.klass.code) = (s.breakin p).stack.map (fun r => r.klass.code))
    (active : t.activeClass p = s.activeClass p) : t.classesInHand p = s.classesInHand p := by
  rw [classesInHand_eq, classesInHand_eq, stack, active]

theorem activeClass_of_idle (idle : (s.breakin p).active = none) : s.activeClass p = none := by
  rw [State.activeClass, idle]

theorem activeClass_congr (active : (t.breakin p).active = (s.breakin p).active)
    (record : ∀ a, (s.breakin p).active = some a → (t.record a.handle.slot).map (fun m => m.klass)
      = (s.record a.handle.slot).map (fun m => m.klass)) : t.activeClass p = s.activeClass p := by
  rw [State.activeClass, active, State.activeClass]
  cases is : (s.breakin p).active with
  | none => rfl
  | some a => exact record a is

/-- The message of an active handoff is in hand (R122). -/
theorem State.StoreLaws.handed_of_active (laws : s.StoreLaws) {a : Handoff} (active : (s.breakin p).active = some a) :
    ∃ m d mark, s.handleOf a.handle.slot = a.handle ∧ s.record a.handle.slot = some m ∧ m.token = a.token
      ∧ m.custody = .handed p d mark := by
  obtain ⟨handle, grip⟩ := laws.grips.active p a active
  obtain ⟨m, record, grip⟩ := State.gripAt_eq_some_iff.mp grip
  obtain ⟨⟨d, mark, custody⟩, token⟩ := Message.grip_handed_iff.mp grip
  exact ⟨m, d, mark, handle, record, token, custody⟩

/-! ### What does not touch the handoffs -/

/-- From s to t the handoffs stand: the active ones, the stacks, the fences, and of each message in hand its class and its
mark. -/
structure Steady (s t : State) : Prop where
  active : ∀ p, (t.breakin p).active = (s.breakin p).active
  stack : ∀ p, (t.breakin p).stack = (s.breakin p).stack
  fences : t.fences = s.fences
  held : ∀ k m, s.record k = some m → m.custody.holder.isSome = true →
    ∃ n, t.record k = some n ∧ n.custody.holder.isSome = true ∧ n.klass = m.klass
      ∧ (m.custody.marked = true → n.custody.marked = true)

theorem Steady.trans (first : Steady s t) (second : Steady t u) : Steady s u := by
  refine ⟨fun p => (second.active p).trans (first.active p), fun p => (second.stack p).trans (first.stack p),
    second.fences.trans first.fences, fun k m record held => ?_⟩
  obtain ⟨n, record', held', klass, mark⟩ := first.held k m record held
  obtain ⟨v, record'', held'', klass', mark'⟩ := second.held k n record' held'
  exact ⟨v, record'', held'', klass'.trans klass, fun is => mark' (mark is)⟩

theorem Steady.of_slots (slots : t.slots = s.slots) (active : ∀ p, (t.breakin p).active = (s.breakin p).active)
    (stack : ∀ p, (t.breakin p).stack = (s.breakin p).stack) (fences : t.fences = s.fences) : Steady s t :=
  ⟨active, stack, fences, fun k m record held => ⟨m, (State.record_congr slots k).trans record, held, rfl, id⟩⟩

theorem Aside.fences (aside : Aside s t) : t.fences = s.fences := by rw [aside.frame]

theorem Aside.steady (aside : Aside s t) : Steady s t :=
  .of_slots aside.slots aside.active aside.stack aside.fences

/-- A record written that is not in hand, or of the class and with the mark that it had. -/
theorem Steady.wrote (record : s.record k = some m) (wrote : Wrote s k n t)
    (held : m.custody.holder.isSome = true → n.custody.holder.isSome = true ∧ n.klass = m.klass
      ∧ (m.custody.marked = true → n.custody.marked = true))
    (active : ∀ p, (t.breakin p).active = (s.breakin p).active) (stack : ∀ p, (t.breakin p).stack = (s.breakin p).stack)
    (fences : t.fences = s.fences) : Steady s t := by
  refine ⟨active, stack, fences, fun j v record' inHand => ?_⟩
  by_cases at_k : j = k
  · subst at_k
    obtain rfl : m = v := Option.some.inj (record.symm.trans record')
    exact ⟨n, wrote.record_same, held inHand⟩
  · exact ⟨v, (wrote.record_other at_k).trans record', inHand, rfl, id⟩

theorem Message.holder_of_grip (grip : m.grip = none) : ¬ m.custody.holder.isSome = true := by
  unfold Message.grip at grip
  cases custody : m.custody with
  | handed | suspended => rw [custody] at grip; cases grip
  | filling | queued | held | disposed | void => simp [Custody.holder]

theorem Steady.freed (freed : Freed s k m t) (loose : m.grip = none)
    (active : ∀ p, (t.breakin p).active = (s.breakin p).active) (stack : ∀ p, (t.breakin p).stack = (s.breakin p).stack)
    (fences : t.fences = s.fences) : Steady s t := by
  refine ⟨active, stack, fences, fun j v record held => ⟨v, ?_, held, rfl, id⟩⟩
  refine (freed.record_other ?_).trans record
  rintro rfl
  obtain rfl : m = v := Option.some.inj (freed.record.symm.trans record)
  exact Message.holder_of_grip loose held

/-! ### The laws kept together -/

/-- From a part that obeys the store's laws to t: t obeys them, a pending fence still waits for a mark, and the stacks still
rise. -/
structure Lawful (s t : State) : Prop where
  laws : t.StoreLaws
  fences : s.fencesWait → t.fencesWait
  order : s.stacksOrdered → t.stacksOrdered

theorem Lawful.refl (laws : s.StoreLaws) : Lawful s s := ⟨laws, id, id⟩

theorem Lawful.trans (first : Lawful s t) (second : Lawful t u) : Lawful s u :=
  ⟨second.laws, fun waits => second.fences (first.fences waits), fun ordered => second.order (first.order ordered)⟩

theorem Message.holder_of_marked (marked : m.custody.marked = true) : m.custody.holder.isSome = true := by
  cases custody : m.custody with
  | handed | suspended => rfl
  | filling | queued | held | disposed | void => rw [custody] at marked; cases marked

theorem State.StoreLaws.activeClass_of_steady (laws : s.StoreLaws) (steady : Steady s t) (p : Port) :
    t.activeClass p = s.activeClass p := by
  refine activeClass_congr (steady.active p) fun a is => ?_
  obtain ⟨m, d, mark, -, record, -, custody⟩ := laws.handed_of_active is
  obtain ⟨n, record', -, klass, -⟩ := steady.held _ m record (by rw [custody]; rfl)
  rw [record, record', Option.map_some, Option.map_some, klass]

/-- What leaves the handoffs keeps the fences and the stacks. -/
theorem Lawful.of_steady (laws : s.StoreLaws) (sound : t.StoreLaws) (steady : Steady s t) : Lawful s t := by
  refine ⟨sound, fencesWait_of_marked (fun _ => steady.fences ▸ id) fun k m record marked => ?_, stacksOrdered_of_sublist fun p => ?_⟩
  · obtain ⟨n, record', -, -, mark⟩ := steady.held k m record (Message.holder_of_marked marked)
    exact ⟨n, record', mark marked⟩
  · rw [classesInHand_congr (by rw [steady.stack]) (laws.activeClass_of_steady steady p), steady.stack]
    exact ⟨Nat.le_refl _, List.Sublist.refl _⟩

theorem Lawful.aside (first : Lawful s t) (aside : Aside t u) : Lawful s u :=
  first.trans (.of_steady first.laws (first.laws.aside aside) aside.steady)

/-- A change of what the laws do not read. -/
theorem Lawful.still (laws : s.StoreLaws) (ledger : t.ledger = s.ledger) (fences : t.fences = s.fences) : Lawful s t :=
  .of_steady laws (laws.of_ledger ledger) (.of_slots (congrArg Ledger.slots ledger)
    (fun p => congrFun (congrArg Ledger.active ledger) p) (fun p => congrFun (congrArg Ledger.stack ledger) p) fences)

/-! ### A record written that stays where it is -/

/-- Messages alike that are in hand with one class, marked if they were. -/
structure Message.Akin (m n : Message) : Prop extends m.Alike n where
  klass : m.custody.holder.isSome = true → n.klass = m.klass
  marked : m.custody.marked = true → n.custody.marked = true

theorem Message.Alike.holder (alike : m.Alike n) (held : m.custody.holder.isSome = true) :
    n.custody.holder.isSome = true := by
  by_contra loose
  have grip := Message.grip_of_loose (m := n) (by simpa using loose)
  rw [alike.grip] at grip
  exact Message.holder_of_grip grip held

/-- The message is QUEUED or HELD: in traffic, and in no port's custody. -/
def Message.Waits (m : Message) : Prop := m.custody = .queued ∨ ∃ r, m.custody = .held r

theorem Message.Waits.loose (waits : m.Waits) : m.custody.holder = none := by
  obtain custody | ⟨r, custody⟩ := waits <;> rw [custody] <;> rfl

theorem Message.Waits.entered (waits : m.Waits) : m.custody ≠ .filling := by
  obtain custody | ⟨r, custody⟩ := waits <;> simp [custody]

theorem Message.Waits.live (waits : m.Waits) : m.retainedRecord = false := by
  rw [Bool.eq_false_iff, ne_eq, Message.retainedRecord_iff]
  obtain custody | ⟨r, custody⟩ := waits <;> simp [custody]

theorem Message.Akin.of_waits (was : m.Waits) (is : n.Waits) (segments : n.segments = m.segments) : m.Akin n := by
  refine ⟨⟨?_, ?_, ?_, segments⟩, fun held => ?_, fun marked => ?_⟩
  · rw [Message.grip_of_loose was.loose, Message.grip_of_loose is.loose]
  · rw [Message.fills_of_entered was.entered, Message.fills_of_entered is.entered]
  · rw [was.live, is.live]
  · rw [was.loose] at held
    cases held
  · have held := Message.holder_of_marked marked
    rw [was.loose] at held
    cases held

/-- A message with the custody and the token that it had. -/
theorem Message.Akin.of_custody (custody : n.custody = m.custody) (token : n.token = m.token)
    (klass : m.custody.holder.isSome = true → n.klass = m.klass) (port : n.entryPort = m.entryPort)
    (segments : n.segments = m.segments) : m.Akin n := by
  refine ⟨⟨?_, ?_, ?_, segments⟩, klass, fun marked => by rw [custody]; exact marked⟩
  · unfold Message.grip
    rw [custody]
    cases is : m.custody with
    | suspended q r mark => simp only [token, klass (by rw [is]; rfl)]
    | handed => simp only [token]
    | filling | queued | held | disposed | void => rfl
  · rw [Message.fills, custody, port]
    rfl
  · rw [Message.retainedRecord, custody]
    rfl

theorem Message.Akin.refl (m : Message) : m.Akin m := .of_custody rfl rfl (fun _ => rfl) rfl rfl

theorem Message.Akin.trans {v : Message} (first : m.Akin n) (second : n.Akin v) : m.Akin v :=
  ⟨first.toAlike.trans second.toAlike, fun held => (second.klass (first.toAlike.holder held)).trans (first.klass held),
    fun marked => second.marked (first.marked marked)⟩

theorem Lawful.write (laws : s.StoreLaws) (record : s.record k = some m) (akin : m.Akin n) (sound : n.Sound)
    (rest : t.ledger = (s.withRecord k n).ledger) (fences : t.fences = s.fences) : Lawful s t := by
  refine .of_steady laws (laws.write record akin.toAlike sound rest) (.wrote record ⟨congrArg Ledger.slots rest⟩
    (fun held => ⟨akin.toAlike.holder held, akin.klass held, akin.marked⟩) (fun p => ?_) (fun p => ?_) fences)
  · exact congrFun (congrArg Ledger.active rest) p
  · exact congrFun (congrArg Ledger.stack rest) p

theorem Lawful.modRecord (laws : s.StoreLaws) (record : s.record k = some m) {f : Message → Message} (akin : m.Akin (f m))
    (sound : (f m).Sound) : Lawful s (s.modRecord k f) :=
  .write laws record akin sound (congrArg State.ledger (modRecord_eq_withRecord f record)) rfl

end

end Sys2Proof.Machine
end

section
/-! The rules for the changes of custody: a handoff ends (R108), is given (R103), is suspended (R131), is resumed (R136), is
revoked (R134). -/

namespace Sys2Proof.Machine

section
variable {s t u : State} {k : SlotNo} {m n : Message} {p : Port}

/-! ### What the rules read -/

theorem ledger_modBreakin_eq (f : BreakIn → BreakIn) (s : State) (p : Port) :
    (s.modBreakin p f).ledger = { s.ledger with
      active := fun q => if p = q then (f (s.breakin q)).active else (s.breakin q).active
      stack := fun q => if p = q then (f (s.breakin q)).stack else (s.breakin q).stack } := by
  unfold State.ledger
  congr 1
  · funext q
    rw [State.breakin_modBreakin]
    split <;> rfl
  · funext q
    rw [State.breakin_modBreakin]
    split <;> rfl

theorem ledger_withRecord (s : State) (k : SlotNo) (m : Message) :
    (s.withRecord k m).ledger = { s.ledger with slots := (s.withRecord k m).slots } := rfl

/-- The ledger where p's active handoff is cleared. -/
theorem ledger_withoutActive (s : State) (p : Port) : (s.withoutActive p).ledger
    = { s.ledger with active := fun q => if p = q then none else (s.breakin q).active } := by
  unfold State.withoutActive
  rw [(Aside.withoutPending _ p).ledger, ledger_modBreakin_eq]
  have stack : (fun q => if p = q then (s.breakin q).stack else (s.breakin q).stack) = s.ledger.stack := by
    funext q
    exact ite_self _
  exact congrArg (fun x => ({ s.ledger with
    active := fun q => if p = q then none else (s.breakin q).active, stack := x } : Ledger)) stack

theorem fences_withoutActive (s : State) (p : Port) : (s.withoutActive p).fences = s.fences :=
  (Aside.withoutPending _ p).fences

/-- The stacks and the active handoffs' classes are read in the ledger. -/
theorem stacksOrdered_of_ledger (same : t.ledger = s.ledger) (ordered : s.stacksOrdered) : t.stacksOrdered := by
  have stack (q : Port) : (t.breakin q).stack = (s.breakin q).stack := congrFun (congrArg Ledger.stack same) q
  have slots : t.slots = s.slots := congrArg Ledger.slots same
  refine stacksOrdered_of_sublist (fun q => ?_) ordered
  rw [classesInHand_congr (by rw [stack]) (activeClass_congr (congrFun (congrArg Ledger.active same) q)
    fun a _ => by rw [State.record_congr slots]), stack]
  exact ⟨Nat.le_refl _, List.Sublist.refl _⟩

/-- The class of an active handoff does not read the record of another message. -/
theorem State.StoreLaws.activeClass_of_wrote (laws : s.StoreLaws) (record : s.record k = some m) (wrote : Wrote s k n t)
    (away : ∀ d mark, m.custody ≠ .handed p d mark) (active : (t.breakin p).active = (s.breakin p).active) :
    t.activeClass p = s.activeClass p := by
  refine activeClass_congr active fun a is => ?_
  obtain ⟨v, d, mark, -, there, -, custody⟩ := laws.handed_of_active is
  rw [wrote.record_other]
  intro at_k
  rw [at_k, record, Option.some.injEq] at there
  exact away d mark (there ▸ custody)

/-! ### A handoff ends (R108) -/

theorem Message.grip_of_handed {d : Nat} {mark : Bool} (handed : m.custody = .handed p d mark) :
    m.grip = some (p, m.token, none) := Message.grip_handed_iff.mpr ⟨⟨d, mark, handed⟩, rfl⟩

theorem Message.fills_of_handed {d : Nat} {mark : Bool} (handed : m.custody = .handed p d mark) : m.fills = none :=
  Message.fills_of_entered (by simp [handed])

theorem Message.live_of_holder (held : m.custody.holder.isSome = true) : m.retainedRecord = false := by
  rw [Bool.eq_false_iff, ne_eq, Message.retainedRecord_iff]
  rintro (⟨o, time, custody⟩ | custody)
  · rw [custody] at held; cases held
  · rw [custody] at held; cases held

/-- A message leaves the custody of its holder; where it is a retained record now, it comes to the tail of the list. -/
theorem Lawful.release (laws : s.StoreLaws) (record : s.record k = some m) {d : Nat} {mark : Bool}
    (handed : m.custody = .handed p d mark) (entered : n.Entered) (loose : n.custody.holder = none)
    (segments : n.segments = m.segments)
    (retained : n.retainedRecord = false ∧ t.retained = s.retained
      ∨ n.retainedRecord = true ∧ t.retained = s.retained ++ [s.handleOf k])
    (rest : t.ledger = { (s.withRecord k n).ledger with
      retained := t.retained, active := fun q => if p = q then none else (s.breakin q).active })
    (fences : t.fences = s.fences) : Lawful s (settleFences s.outstanding t) := by
  have wrote : Wrote s k n t := ⟨congrArg Ledger.slots rest⟩
  have free : t.freeSegments = s.freeSegments := congrArg Ledger.freeSegments rest
  have active (q : Port) : (t.breakin q).active = if p = q then none else (s.breakin q).active :=
    congrFun (congrArg Ledger.active rest) q
  have stack (q : Port) : (t.breakin q).stack = (s.breakin q).stack := congrFun (congrArg Ledger.stack rest) q
  have live : m.retainedRecord = false := Message.live_of_holder (by rw [handed]; rfl)
  have sound : t.StoreLaws := by
    refine laws.put record wrote entered.sound (by rw [free, segments])
      ((Message.fills_of_entered entered.entered).trans (Message.fills_of_handed handed).symm)
      (congrArg Ledger.entries rest) ?_ ?_
    · obtain ⟨live', list⟩ | ⟨now, list⟩ := retained
      · exact .inl ⟨live'.trans live.symm, list⟩
      · exact .inr ⟨live, now, list⟩
    · refine laws.grips.release (k := k) (p := p) ((State.gripAt_of_record record).trans (Message.grip_of_handed handed)) ?_
        wrote.grip_other (fun j _ => wrote.handle j) ((active p).trans (if_pos rfl)) (fun q other => ?_) (fun q => ?_)
      · rw [wrote.grip_same]
        exact Message.grip_of_loose loose
      · exact (active q).trans (if_neg (Ne.symm other))
      · rw [State.openRecords, stack]
        rfl
  refine ⟨sound.of_ledger (ledger_settleFences ..), fencesWait_settled fences, fun ordered => ?_⟩
  have first : t.stacksOrdered := by
    refine stacksOrdered_of_sublist (fun q => ⟨by rw [stack], ?_⟩) ordered
    by_cases same : p = q
    · rw [classesInHand_eq, classesInHand_eq, stack, activeClass_of_idle ((active q).trans (if_pos same))]
      simp
    · rw [classesInHand_congr (by rw [stack]) (laws.activeClass_of_wrote record wrote (fun d' mark' custody => ?_)
        ((active q).trans (if_neg same)))]
      rw [handed, Custody.handed.injEq] at custody
      exact same custody.1
  exact stacksOrdered_of_ledger (ledger_settleFences ..) first

/-! ### A handoff begins (R103) -/

theorem Message.Entered.handedTo (entered : m.Entered) (queued : m.custody = .queued) (p : Port) (s : State) :
    (Message.handedTo p s m).Entered := by
  have few := entered.bounces_le (by simp [queued]) (by simp [queued])
  exact ((entered.withCustody (c := .handed p (heldTime (s.seconds + s.scoring.lease)) false) (by simp) (.inl few)).withToken
    (m.token + 1)).log s.seconds (some p) .handed

theorem Message.handedTo_custody (p : Port) (s : State) (m : Message) :
    (Message.handedTo p s m).custody = .handed p (heldTime (s.seconds + s.scoring.lease)) false := by
  rw [Message.handedTo, Message.log_custody]

/-- The ledger after a handing out. -/
theorem ledger_handOut (record : s.record k = some m) (p : Port) : (handOut k p s).ledger
    = { (s.withRecord k (Message.handedTo p s m)).ledger with
      active := fun q => if p = q then some { handle := s.handleOf k, token := (Message.handedTo p s m).token }
        else (s.breakin q).active } := by
  have written := modRecord_eq_withRecord (Message.handedTo p s) record
  obtain ⟨t, aside, outcome⟩ := handOut_cases k p s
  rw [written] at aside
  have there : t.record k = some (Message.handedTo p s m) := by
    rw [aside.record]
    exact State.record_withRecord_same ..
  obtain ⟨empty, -⟩ | ⟨v, found, rest⟩ := outcome
  · rw [there] at empty
    cases empty
  · obtain rfl : Message.handedTo p s m = v := Option.some.inj (there.symm.trans found)
    have active : (fun q => if p = q then some { handle := s.handleOf k, token := (Message.handedTo p s m).token }
        else (t.breakin q).active) = fun q => if p = q
          then some { handle := s.handleOf k, token := (Message.handedTo p s m).token } else (s.breakin q).active := by
      funext q
      rw [aside.active]
      rfl
    have stack : (fun q => if p = q then (t.breakin q).stack else (t.breakin q).stack) = t.ledger.stack := by
      funext q
      exact ite_self _
    rw [rest.ledger, ledger_modBreakin_eq, stack, active, aside.ledger]

theorem fences_handOut (k : SlotNo) (p : Port) (s : State) : (handOut k p s).fences = s.fences := by
  obtain ⟨t, aside, ⟨-, e⟩ | ⟨v, -, rest⟩⟩ := handOut_cases k p s
  · rw [e, aside.fences]
    rfl
  · rw [rest.fences]
    exact aside.fences

/-- A QUEUED message comes into the custody of an idle port, above the stack of which it is in class. -/
theorem Lawful.handOut (laws : s.StoreLaws) (record : s.record k = some m) (queued : m.custody = .queued)
    (idle : (s.breakin p).active = none)
    (above : s.stacksOrdered → ∀ c ∈ (s.breakin p).stack.map (fun r => r.klass.code), c < m.klass.code) :
    Lawful s (handOut k p s) := by
  have rest := ledger_handOut record p
  obtain ⟨n, isHanded⟩ : ∃ n, n = Message.handedTo p s m := ⟨_, rfl⟩
  obtain ⟨t, isT⟩ : ∃ t, t = Machine.handOut k p s := ⟨_, rfl⟩
  have fences : t.fences = s.fences := isT ▸ fences_handOut k p s
  rw [← isHanded, ← isT] at rest
  rw [← isT]
  have custody : n.custody = .handed p (heldTime (s.seconds + s.scoring.lease)) false := by
    rw [isHanded, Message.handedTo_custody]
  have klass : n.klass = m.klass := by rw [isHanded, Message.handedTo, Message.log_klass]
  have content : n.segments = m.segments := by
    rw [isHanded, Message.handedTo, Message.log_frame]
    rfl
  have entered : n.Entered := isHanded ▸ (laws.entered record (by simp [queued])).handedTo queued p s
  have wrote : Wrote s k n t := ⟨congrArg Ledger.slots rest⟩
  have free : t.freeSegments = s.freeSegments := congrArg Ledger.freeSegments rest
  have active (q : Port) : (t.breakin q).active
      = if p = q then some { handle := s.handleOf k, token := n.token } else (s.breakin q).active :=
    congrFun (congrArg Ledger.active rest) q
  have stack (q : Port) : (t.breakin q).stack = (s.breakin q).stack := congrFun (congrArg Ledger.stack rest) q
  have waits : m.Waits := .inl queued
  have unmarked (j : SlotNo) (v : Message) (there : s.record j = some v) (marked : v.custody.marked = true) : j ≠ k := by
    rintro rfl
    rw [record, Option.some.injEq] at there
    rw [← there, queued] at marked
    cases marked
  refine ⟨?_, fencesWait_of_marked (fun _ => fences ▸ id) fun j v there marked =>
    ⟨v, (wrote.record_other (unmarked j v there marked)).trans there, marked⟩, fun ordered q => ?_⟩
  · refine laws.put record wrote entered.sound (by rw [free, content])
      ((Message.fills_of_entered entered.entered).trans (Message.fills_of_entered waits.entered).symm)
      (congrArg Ledger.entries rest) (.inl ⟨?_, congrArg Ledger.retained rest⟩) ?_
    · rw [waits.live, Message.live_of_holder (by rw [custody]; rfl)]
    · refine laws.grips.handOut (k := k) (p := p) (token := n.token)
        ((State.gripAt_of_record record).trans (Message.grip_of_loose waits.loose))
        (wrote.grip_same.trans (Message.grip_of_handed custody)) wrote.grip_other wrote.handle idle
        ((active p).trans (if_pos rfl)) (fun q other => (active q).trans (if_neg (Ne.symm other))) (fun q => ?_)
      rw [State.openRecords, stack]
      rfl
  · obtain ⟨short, rises⟩ := ordered q
    rw [stack]
    refine ⟨short, ?_⟩
    by_cases same : p = q
    · subst same
      have now : t.activeClass p = some m.klass := by
        rw [← klass]
        exact State.activeClass_eq ((active p).trans (if_pos rfl)) wrote.record_same
      rw [classesInHand_eq, activeClass_of_idle idle] at rises
      rw [classesInHand_eq, now, stack]
      refine List.pairwise_append.mpr ⟨(List.pairwise_append.mp rises).1, by simp, fun a member b last => ?_⟩
      obtain rfl : b = m.klass.code := by simpa using last
      exact above ordered a (List.mem_reverse.mp member)
    · rw [classesInHand_congr (by rw [stack]) (laws.activeClass_of_wrote record wrote (by simp [queued])
        ((active q).trans (if_neg same)))]
      exact rises

/-! ### A handoff is suspended (R131) -/

/-- Four classes, so a rising row of classes in hand below another class has at most three records. -/
theorem length_le_of_rising {xs : List Nat} {c : Class} (rises : (xs ++ [c.code]).Pairwise (fun a b => a < b)) :
    xs.length ≤ c.code := by
  induction xs using List.reverseRecOn generalizing c with
  | nil => exact Nat.zero_le _
  | append_singleton xs x ih =>
    obtain ⟨before, -, below⟩ := List.pairwise_append.mp rises
    have less : x < c.code := below x (by simp) c.code (by simp)
    have small : x < 4 := by
      have : c.code ≤ 3 := by cases c <;> simp [Class.code]
      omega
    obtain ⟨d, rfl⟩ : ∃ d : Class, d.code = x := by
      interval_cases x
      · exact ⟨.routine, rfl⟩
      · exact ⟨.welfare, rfl⟩
      · exact ⟨.urgent, rfl⟩
      · exact ⟨.immediate, rfl⟩
    have short := ih before
    simp only [List.length_append, List.length_cons, List.length_nil]
    omega

/-- The ledger after a suspension. -/
theorem ledger_suspend {a : Handoff} {d : Nat} {mark : Bool} (record : s.record k = some m)
    (handed : m.custody = .handed p d mark) : (suspend k p a m s).ledger
      = { (s.withRecord k { m with custody := .suspended p (d - s.seconds) mark }).ledger with
        active := fun q => if p = q then none else (s.breakin q).active
        stack := fun q => if p = q then
          { handle := a.handle, token := a.token, leaseRemaining := d - s.seconds, savedEnable := (s.breakin p).enable
            klass := m.klass, revoked := false } :: (s.breakin q).stack else (s.breakin q).stack } := by
  rw [suspend_eq record handed]
  dsimp only
  rw [(Aside.withoutPending _ p).ledger, ledger_modBreakin_eq]
  rfl

/-- The active handoff of p goes onto its stack. A class above it stands for the message that p will have in its place. -/
theorem Lawful.suspend (laws : s.StoreLaws) {h : Handle} {token : Byte} (record : s.record h.slot = some m)
    (active : (s.breakin p).active = some { handle := h, token := token }) {c : Class} (higher : m.klass.code < c.code) :
    Lawful s (suspend h.slot p { handle := h, token := token } m s) := by
  obtain ⟨v, d, mark, current, there, named, handed⟩ := laws.handed_of_active active
  obtain rfl : m = v := Option.some.inj (record.symm.trans there)
  have named : m.token = token := named
  have rest := ledger_suspend (a := { handle := h, token := token }) record handed
  obtain ⟨t, isT⟩ : ∃ t, t = Machine.suspend h.slot p { handle := h, token := token } m s := ⟨_, rfl⟩
  have fences : t.fences = s.fences := by
    rw [isT, suspend_eq record handed]
    exact (Aside.withoutPending _ p).fences
  rw [← isT] at rest ⊢
  obtain ⟨n, isPaused⟩ : ∃ n, n = { m with custody := .suspended p (d - s.seconds) mark } := ⟨_, rfl⟩
  rw [← isPaused] at rest
  have custody : n.custody = .suspended p (d - s.seconds) mark := by rw [isPaused]
  obtain ⟨entered, few⟩ := Message.Entered.of_holder (laws.records _ m record) (by rw [handed]; rfl)
  have wrote : Wrote s h.slot n t := ⟨congrArg Ledger.slots rest⟩
  have free : t.freeSegments = s.freeSegments := congrArg Ledger.freeSegments rest
  have idle (q : Port) : (t.breakin q).active = if p = q then none else (s.breakin q).active :=
    congrFun (congrArg Ledger.active rest) q
  have stack (q : Port) : (t.breakin q).stack = if p = q then
      { handle := h, token := token, leaseRemaining := d - s.seconds, savedEnable := (s.breakin p).enable
        klass := m.klass, revoked := false } :: (s.breakin q).stack else (s.breakin q).stack :=
    congrFun (congrArg Ledger.stack rest) q
  have elsewhere {q : Port} (other : p ≠ q) (d' : Nat) (mark' : Bool) : m.custody ≠ .handed q d' mark' := by
    rw [handed, ne_eq, Custody.handed.injEq]
    exact fun same => other same.1
  refine ⟨?_, fencesWait_of_marked (fun _ => fences ▸ id) fun j v there marked => ?_, fun ordered q => ?_⟩
  · refine laws.put record wrote ?_ (by rw [free, isPaused]; rfl) ?_ (congrArg Ledger.entries rest)
      (.inl ⟨?_, congrArg Ledger.retained rest⟩) ?_
    · rw [isPaused]
      exact (entered.withCustody (by simp) (.inl few)).sound
    · rw [Message.fills_of_entered (by simp [custody]), Message.fills_of_handed handed]
    · rw [Message.live_of_holder (by rw [custody]; rfl), Message.live_of_holder (by rw [handed]; rfl)]
    · refine laws.grips.suspend (k := h.slot) (p := p) (token := token) (c := m.klass) (lease := d - s.seconds) ?_ ?_
        wrote.grip_other wrote.handle ((idle p).trans (if_pos rfl)) (fun q other => (idle q).trans (if_neg (Ne.symm other)))
        (r := ?record) ⟨?_, ?_, ?_, ?_⟩ (?_) (fun q other => ?_)
      case record => exact { handle := h, token := token, leaseRemaining := d - s.seconds
                             savedEnable := (s.breakin p).enable, klass := m.klass, revoked := false }
      · rw [State.gripAt_of_record record, Message.grip_of_handed handed, named]
      · rw [wrote.grip_same, isPaused, ← named]
        rfl
      · exact current.symm
      · rfl
      · rfl
      · rfl
      · rw [State.openRecords, stack, if_pos rfl]
        rfl
      · rw [State.openRecords, stack, if_neg (Ne.symm other)]
        rfl
  · by_cases at_k : j = h.slot
    · subst at_k
      obtain rfl : m = v := Option.some.inj (record.symm.trans there)
      refine ⟨n, wrote.record_same, ?_⟩
      rw [handed] at marked
      rw [custody]
      exact marked
    · exact ⟨v, (wrote.record_other at_k).trans there, marked⟩
  · obtain ⟨short, rises⟩ := ordered q
    by_cases same : p = q
    · subst same
      rw [classesInHand_eq, State.activeClass_eq active record] at rises
      have same : t.classesInHand p = ((s.breakin p).stack.map (fun r => r.klass.code)).reverse ++ [m.klass.code] := by
        rw [classesInHand_eq, activeClass_of_idle ((idle p).trans (if_pos rfl)), stack, if_pos rfl]
        simp
      refine ⟨?_, same ▸ rises⟩
      rw [stack, if_pos rfl]
      have few := length_le_of_rising rises
      have top : c.code ≤ 3 := by cases c <;> simp [Class.code]
      simp only [List.length_reverse, List.length_map] at few
      simp only [List.length_cons]
      omega
    · rw [classesInHand_congr (by rw [stack, if_neg same]) (laws.activeClass_of_wrote record wrote (elsewhere same)
        ((idle q).trans (if_neg same))), stack, if_neg same]
      exact ⟨short, rises⟩

/-! ### A stack record is taken off (R136, R137) -/

/-- A revoked record is popped. -/
theorem Lawful.pop (laws : s.StoreLaws) {r : Suspension} {rest : List Suspension}
    (stack : (s.breakin p).stack = r :: rest) (revoked : r.revoked = true) : Lawful s (popRecord p r s) := by
  have popped := ledger_modBreakin_eq (fun b => { b with stack := b.stack.tail, enable := r.savedEnable }) s p
  obtain ⟨t, isT⟩ : ∃ t, t = popRecord p r s := ⟨_, rfl⟩
  rw [show s.modBreakin p _ = t from isT.symm] at popped
  have fences : t.fences = s.fences := by rw [isT]; rfl
  rw [← isT]
  have slots : t.slots = s.slots := congrArg Ledger.slots popped
  have active (q : Port) : (t.breakin q).active = (s.breakin q).active :=
    (congrFun (congrArg Ledger.active popped) q).trans (ite_self _)
  have stackOf (q : Port) : (t.breakin q).stack = if p = q then (s.breakin q).stack.tail else (s.breakin q).stack :=
    congrFun (congrArg Ledger.stack popped) q
  have opens (q : Port) : t.openRecords q = s.openRecords q := by
    rw [State.openRecords, stackOf]
    split
    · next same =>
      subst same
      rw [State.openRecords, stack, List.tail_cons, List.filter_cons_of_neg (by simp [revoked])]
    · rfl
  have record (j : SlotNo) : t.record j = s.record j := State.record_congr slots j
  have grips : t.GripsAgree := laws.grips.of_same (fun j => by rw [State.gripAt, record]; rfl)
    (fun j _ => State.handleOf_congr slots j) active opens
  refine ⟨laws.putAll (f := fun _ m => m) (fun j => ?_) (fun j v there => ⟨laws.records j v there, rfl, rfl, rfl⟩)
      (congrArg Ledger.freeSegments popped) (congrArg Ledger.entries popped) (congrArg Ledger.retained popped) grips,
    fencesWait_of_marked (fun _ => fences ▸ id) fun j v there marked => ⟨v, (record j).trans there, marked⟩,
    stacksOrdered_of_sublist fun q => ⟨?_, ?_⟩⟩
  · rw [Option.map_id', State.slot, slots]
    rfl
  · rw [stackOf]
    split
    · rw [List.length_tail]
      omega
    · exact Nat.le_refl _
  · rw [classesInHand_eq, classesInHand_eq, activeClass_congr (active q) fun a _ => by rw [record], stackOf]
    split
    · refine List.Sublist.append_right (List.Sublist.reverse (List.Sublist.map _ (List.tail_sublist _))) _
    · exact List.Sublist.refl _

/-- A standing record names a message that is SUSPENDED on its port (R122). -/
theorem State.StoreLaws.suspended_of_stacked (laws : s.StoreLaws) {r : Suspension} (member : r ∈ s.openRecords p) :
    ∃ m mark, s.handleOf r.handle.slot = r.handle ∧ s.record r.handle.slot = some m ∧ m.token = r.token
      ∧ m.klass = r.klass ∧ m.custody = .suspended p r.leaseRemaining mark := by
  obtain ⟨handle, grip⟩ := laws.grips.stacked p r member
  obtain ⟨m, record, grip⟩ := State.gripAt_eq_some_iff.mp grip
  obtain ⟨⟨mark, custody⟩, token, klass⟩ := Message.grip_suspended_iff.mp grip
  exact ⟨m, mark, handle, record, token, klass, custody⟩

/-- A standing record is popped, and its message is handed out again. -/
theorem Lawful.resume (laws : s.StoreLaws) {r : Suspension} {rest : List Suspension} (idle : (s.breakin p).active = none)
    (stack : (s.breakin p).stack = r :: rest) (standing : r.revoked = false) :
    Lawful s (resumeRecord p r (popRecord p r s)) := by
  have top : s.openRecords p = [] ++ r :: rest.filter (fun r => !r.revoked) := by
    rw [State.openRecords, stack, List.filter_cons_of_pos (by simp [standing])]
    rfl
  obtain ⟨m, mark, current, record, token, klass, suspended⟩ :=
    laws.suspended_of_stacked (p := p) (r := r) (by rw [top]; simp)
  obtain ⟨k, isSlot⟩ : ∃ k, k = r.handle.slot := ⟨_, rfl⟩
  rw [resumeRecord_popRecord_eq stack record suspended]
  rw [← isSlot] at record current ⊢
  dsimp only
  obtain ⟨n, isHanded⟩ : ∃ n, n = { m with custody := .handed p (min (s.seconds + r.leaseRemaining) 4294967295) mark } :=
    ⟨_, rfl⟩
  rw [← isHanded]
  have custody : n.custody = .handed p (min (s.seconds + r.leaseRemaining) 4294967295) mark := by rw [isHanded]
  have token' : n.token = r.token := by rw [isHanded, ← token]
  obtain ⟨entered, few⟩ := Message.Entered.of_holder (laws.records _ m record) (by rw [suspended]; rfl)
  obtain ⟨t, isT⟩ : ∃ t, t = (s.withRecord k n).modBreakin p (fun b => { b with
    stack := rest, enable := r.savedEnable, active := some { handle := r.handle, token := r.token } }) := ⟨_, rfl⟩
  have written := ledger_modBreakin_eq (fun b => { b with
    stack := rest, enable := r.savedEnable, active := some { handle := r.handle, token := r.token } }) (s.withRecord k n) p
  rw [← isT] at written ⊢
  refine .aside (.aside ?_ (.told ..)) (.breakInCheck ..)
  have fences : t.fences = s.fences := by rw [isT]; rfl
  have wrote : Wrote s k n t := ⟨congrArg Ledger.slots written⟩
  have free : t.freeSegments = s.freeSegments := congrArg Ledger.freeSegments written
  have active (q : Port) : (t.breakin q).active
      = if p = q then some { handle := r.handle, token := r.token } else (s.breakin q).active :=
    congrFun (congrArg Ledger.active written) q
  have stackOf (q : Port) : (t.breakin q).stack = if p = q then rest else (s.breakin q).stack :=
    congrFun (congrArg Ledger.stack written) q
  refine ⟨?_, fencesWait_of_marked (fun _ => fences ▸ id) fun j v there marked => ?_, fun ordered q => ?_⟩
  · refine laws.put record wrote ?_ (by rw [free, isHanded]; rfl) ?_ (congrArg Ledger.entries written)
      (.inl ⟨?_, congrArg Ledger.retained written⟩) ?_
    · rw [isHanded]
      exact (entered.withCustody (by simp) (.inl few)).sound
    · rw [Message.fills_of_handed custody, Message.fills_of_entered entered.entered]
    · rw [Message.live_of_holder (by rw [custody]; rfl), Message.live_of_holder (by rw [suspended]; rfl)]
    · refine laws.grips.unstack (k := k) (p := p) top ?_ current.symm wrote.grip_other wrote.handle (fun q other => ?_)
        (fun q other => (active q).trans (if_neg (Ne.symm other))) (.inr ⟨idle, r.token, ?_, ?_⟩)
      · rw [State.openRecords, stackOf, if_pos rfl, List.nil_append]
      · rw [State.openRecords, stackOf, if_neg (Ne.symm other)]
        rfl
      · rw [wrote.grip_same, Message.grip_of_handed custody, token']
      · rw [current]
        exact (active p).trans (if_pos rfl)
  · by_cases at_k : j = k
    · subst at_k
      obtain rfl : m = v := Option.some.inj (record.symm.trans there)
      refine ⟨n, wrote.record_same, ?_⟩
      rw [suspended] at marked
      rw [custody]
      exact marked
    · exact ⟨v, (wrote.record_other at_k).trans there, marked⟩
  · obtain ⟨short, rises⟩ := ordered q
    by_cases same : p = q
    · subst same
      have now : t.activeClass p = some r.klass := by
        rw [← klass, show m.klass = n.klass by rw [isHanded]]
        exact State.activeClass_eq ((active p).trans (if_pos rfl)) (by rw [← isSlot]; exact wrote.record_same)
      have same : t.classesInHand p = s.classesInHand p := by
        rw [classesInHand_eq, classesInHand_eq, now, activeClass_of_idle idle, stackOf, if_pos rfl, stack]
        simp
      rw [stack] at short
      rw [stackOf, if_pos rfl, same]
      exact ⟨(Nat.le_succ _).trans short, rises⟩
    · rw [classesInHand_congr (by rw [stackOf, if_neg same]) (laws.activeClass_of_wrote record wrote (by simp [suspended])
        ((active q).trans (if_neg same))), stackOf, if_neg same]
      exact ⟨short, rises⟩

/-! ### A suspended handoff ends (R134) -/

/-- The record of h is flagged. -/
def Suspension.flagged (h : Handle) (r : Suspension) : Suspension := if r.handle = h then { r with revoked := true } else r

theorem Suspension.flagged_klass (h : Handle) (r : Suspension) : (r.flagged h).klass = r.klass := by
  rw [Suspension.flagged]
  split <;> rfl

/-- Of a stack with h's record flagged the standing records are those of the others. -/
theorem standing_flagged (h : Handle) (stack : List Suspension) :
    (stack.map (Suspension.flagged h)).filter (fun r => !r.revoked)
      = (stack.filter (fun r => !r.revoked)).filter (fun r => !decide (r.handle = h)) := by
  rw [List.filter_filter]
  induction stack with
  | nil => rfl
  | cons r rest ih =>
    rw [List.map_cons, List.filter_cons, List.filter_cons, ih]
    by_cases named : r.handle = h
    · simp [Suspension.flagged, named]
    · simp [Suspension.flagged, named]

/-- A SUSPENDED message leaves the custody of its holder and comes to the tail of the list; its stack record is flagged. -/
theorem Lawful.revoke (laws : s.StoreLaws) (record : s.record k = some m) {d : Nat} {mark : Bool}
    (suspended : m.custody = .suspended p d mark) (entered : n.Entered) (segments : n.segments = m.segments)
    (retained : n.retainedRecord = true)
    (rest : t.ledger = { (s.withRecord k n).ledger with
      retained := s.retained ++ [s.handleOf k]
      stack := fun q => if p = q then (s.breakin q).stack.map (Suspension.flagged (s.handleOf k)) else (s.breakin q).stack })
    (fences : t.fences = s.fences) : Lawful s (settleFences s.outstanding t) := by
  have wrote : Wrote s k n t := ⟨congrArg Ledger.slots rest⟩
  have free : t.freeSegments = s.freeSegments := congrArg Ledger.freeSegments rest
  have active (q : Port) : (t.breakin q).active = (s.breakin q).active := congrFun (congrArg Ledger.active rest) q
  have stackOf (q : Port) : (t.breakin q).stack
      = if p = q then (s.breakin q).stack.map (Suspension.flagged (s.handleOf k)) else (s.breakin q).stack :=
    congrFun (congrArg Ledger.stack rest) q
  obtain ⟨loose, -⟩ := Message.loose_of_retained retained
  have grip : s.gripAt k = some (p, m.token, some (m.klass, d)) :=
    (State.gripAt_of_record record).trans (Message.grip_suspended_iff.mpr ⟨⟨mark, suspended⟩, rfl, rfl⟩)
  obtain ⟨r, member, names⟩ := laws.grips.suspended k p m.token (m.klass, d) grip
  obtain ⟨before, after, old⟩ := List.append_of_mem member
  have new : t.openRecords p = before ++ after := by
    have nodup := laws.grips.nodup p
    rw [old, List.map_append, List.map_cons, List.nodup_middle, List.nodup_cons, ← List.map_append, names] at nodup
    have kept : ∀ x ∈ before ++ after, !decide (x.handle = s.handleOf k) := by
      intro x member
      have other : x.handle ≠ s.handleOf k := fun same => nodup.1 (List.mem_map.mpr ⟨x, member, same⟩)
      simpa using other
    rw [State.openRecords, stackOf, if_pos rfl, standing_flagged]
    change (s.openRecords p).filter _ = _
    rw [old, List.filter_append, List.filter_cons_of_neg (by simp [names]), ← List.filter_append,
      List.filter_eq_self.mpr kept]
  have sound : t.StoreLaws := by
    refine laws.put record wrote entered.sound (by rw [free, segments]) ?_ (congrArg Ledger.entries rest)
      (.inr ⟨Message.live_of_holder (by rw [suspended]; rfl), retained, congrArg Ledger.retained rest⟩) ?_
    · rw [Message.fills_of_entered entered.entered, Message.fills_of_entered (by simp [suspended])]
    · refine laws.grips.unstack (k := k) (p := p) old new names wrote.grip_other wrote.handle (fun q other => ?_)
        (fun q _ => active q) (.inl ⟨wrote.grip_same.trans loose, active p⟩)
      rw [State.openRecords, stackOf, if_neg (Ne.symm other)]
      rfl
  refine ⟨sound.of_ledger (ledger_settleFences ..), fencesWait_settled fences, fun ordered => ?_⟩
  refine stacksOrdered_of_ledger (ledger_settleFences ..) (stacksOrdered_of_sublist (fun q => ?_) ordered)
  have classes : (t.breakin q).stack.map (fun r => r.klass.code) = (s.breakin q).stack.map (fun r => r.klass.code) := by
    rw [stackOf]
    split
    · rw [List.map_map]
      exact List.map_congr_left fun r _ => congrArg Class.code (Suspension.flagged_klass ..)
    · rfl
  rw [classesInHand_congr classes (laws.activeClass_of_wrote record wrote (by simp [suspended]) (active q))]
  refine ⟨?_, List.Sublist.refl _⟩
  have lengths := congrArg List.length classes
  simp only [List.length_map] at lengths
  exact Nat.le_of_eq lengths

end

end Sys2Proof.Machine
end

section
/-! The requests of the Entry Unit and the retained list keep the laws (R27, R32, R37, R42, R43, R46, R55, R58). -/

namespace Sys2Proof.Machine

section
variable {s t u : State} {k : SlotNo} {m n : Message} {p : Port}

/-! ### Reclamation -/

theorem reclaim_steady (only : s.OnlyRetained k) : Steady s (reclaim k s) := by
  cases record : s.record k with
  | none =>
    rw [reclaim, record]
    exact .of_slots rfl (fun _ => rfl) (fun _ => rfl) rfl
  | some m =>
    rw [reclaim_eq record]
    exact .freed (k := k) (m := m) ⟨record, rfl, rfl, rfl⟩ (Message.loose_of_retained (only m record)).1 (fun _ => rfl)
      (fun _ => rfl) rfl

theorem Lawful.reclaim (laws : s.StoreLaws) (only : s.OnlyRetained k) : Lawful s (reclaim k s) :=
  .of_steady laws (laws.reclaim only) (reclaim_steady only)

theorem reclaimForSegment_steady {hs : List Handle} (only : ∀ h ∈ hs, s.OnlyRetained h.slot) :
    Steady s (reclaimForSegment hs s) := by
  induction hs generalizing s with
  | nil => exact .of_slots rfl (fun _ => rfl) (fun _ => rfl) rfl
  | cons h hs ih =>
    unfold reclaimForSegment
    split
    · exact .of_slots rfl (fun _ => rfl) (fun _ => rfl) rfl
    · exact (reclaim_steady (only h List.mem_cons_self)).trans (ih fun x member =>
        (only x (List.mem_cons_of_mem h member)).reclaim)

theorem takeSegments_steady (laws : s.StoreLaws) (count : Nat) : Steady s (takeSegments count s) := by
  unfold takeSegments
  split
  · exact .of_slots rfl (fun _ => rfl) (fun _ => rfl) rfl
  · exact (reclaimForSegment_steady fun h member => laws.onlyRetained member).trans
      (.of_slots rfl (fun _ => rfl) (fun _ => rfl) rfl)

theorem Lawful.makeRoom (laws : s.StoreLaws) : Lawful s (makeRoom s) := by
  unfold Machine.makeRoom
  split
  · exact .refl laws
  · split
    · exact .refl laws
    · next h hs retained =>
      exact .reclaim laws (laws.onlyRetained (retained ▸ List.mem_cons_self))

/-! ### The requests of an entry -/

theorem sound_newMessage (p : Port) (hd : Header) : (newMessage p hd).Sound := by
  refine ⟨?_, fun _ => ⟨rfl, rfl, rfl, rfl, rfl⟩, fun entered => absurd rfl entered⟩
  simp [newMessage, Message.withinLimits]

theorem segments_newMessage (p : Port) (hd : Header) : (newMessage p hd).segments = 0 := by
  simp [Message.segments, newMessage, textSegments]

/-- A new message is put into an EMPTY slot, and the entry of its port opened (R32). -/
theorem Lawful.openEntry (laws : s.StoreLaws) (closed : (s.entryOf p).filling = none) (empty : s.record k = none)
    (hd : Header) : Lawful s (openEntry p hd k s) := by
  obtain ⟨t, isT⟩ : ∃ t, t = Machine.openEntry p hd k s := ⟨_, rfl⟩
  have slot (j : SlotNo) : t.slot j = if k = j then { s.slot j with record := some (newMessage p hd) } else s.slot j := by
    rw [isT]
    exact State.slot_modSlot ..
  have same : t.record k = some (newMessage p hd) := by rw [State.record_eq, slot, if_pos rfl]
  have other (j : SlotNo) (away : j ≠ k) : t.record j = s.record j := by
    rw [State.record_eq, slot, if_neg (Ne.symm away)]
    rfl
  have handle (j : SlotNo) : t.handleOf j = s.handleOf j := by
    rw [State.handleOf, slot]
    split <;> rfl
  have entry (q : Port) : t.entryOf q = if p = q then
      { filling := some { handle := s.handleOf k, lastActivity := s.seconds }, spaceCarry := true } else s.entryOf q := by
    rw [isT]
    exact State.entryOf_modEntry ..
  have rest : t.freeSegments = s.freeSegments ∧ t.retained = s.retained ∧ t.fences = s.fences := by
    rw [isT]
    exact ⟨rfl, rfl, rfl⟩
  have hands (q : Port) : t.breakin q = s.breakin q := by
    rw [isT]
    rfl
  obtain ⟨free, list, fences⟩ := rest
  rw [← isT]
  have loose : (newMessage p hd).grip = none ∧ (newMessage p hd).retainedRecord = false := Message.loose_of_filling rfl
  refine .of_steady laws ⟨fun j v record => ?_, ?_, ?_, ?_, ?_⟩ ⟨fun q => by rw [hands], fun q => by rw [hands], fences,
    fun j v record held => ⟨v, (other j ?_).trans record, held, rfl, id⟩⟩
  · by_cases at_k : j = k
    · rw [at_k, same, Option.some.injEq] at record
      exact record ▸ sound_newMessage p hd
    · rw [other j at_k] at record
      exact laws.records j v record
  · refine State.retainedListed_of_same laws.retained list (fun j => ?_) (fun j _ => handle j)
    by_cases at_k : j = k
    · rw [at_k, State.retainedAt_of_record same, loose.2, State.retainedAt, empty]
      rfl
    · rw [State.retainedAt, other j at_k]
      rfl
  · refine State.segmentsKept_of_same laws.segments free fun j => ?_
    by_cases at_k : j = k
    · rw [at_k, State.slotSegments_of_record same, State.slotSegments_of_empty empty, segments_newMessage]
    · exact State.slotSegments_congr (other j at_k)
  · refine laws.fills.begin (k := k) (p := p) ?_ ?_ (fun j away => ?_) handle closed
      (congrArg EntryContext.filling ((entry p).trans (if_pos rfl))) rfl
      (fun q away => (entry q).trans (if_neg (Ne.symm away)))
    · rw [State.fillsAt, empty]
      rfl
    · rw [State.fillsAt_of_record same]
      rfl
    · rw [State.fillsAt, other j away]
      rfl
  · refine laws.grips.of_same (fun j => ?_) (fun j _ => handle j) (fun q => by rw [hands])
      (fun q => by rw [State.openRecords, hands]; rfl)
    by_cases at_k : j = k
    · rw [at_k, State.gripAt_of_record same, loose.1, State.gripAt, empty]
      rfl
    · rw [State.gripAt, other j at_k]
      rfl
  · rintro rfl
    rw [empty] at record
    cases record

theorem refreshEntry_steady (p : Port) (k : SlotNo) (s : State) : Steady s (refreshEntry p k s) := by
  unfold refreshEntry
  split
  · exact .of_slots rfl (fun _ => rfl) (fun _ => rfl) rfl
  · split <;> exact .of_slots rfl (fun _ => rfl) (fun _ => rfl) rfl

theorem appendAccepted_steady (laws : s.StoreLaws) (filling : FillingOn s k m p) (chars : List Byte) :
    Steady s (appendAccepted p k m chars s).2 := by
  obtain ⟨record, custody, -⟩ := filling
  have taken := takeSegments_steady laws (segmentNeed m chars)
  have there : (takeSegments (segmentNeed m chars) s).record k = some m :=
    (congrArg Slot.record (slot_takeSegments laws.retained record (Message.loose_of_filling custody).2)).trans record
  refine taken.trans (.wrote there (n := storeChars m chars (s.entryOf p).spaceCarry) ⟨?_⟩ (fun held => ?_) (fun _ => rfl)
    (fun _ => rfl) rfl)
  · exact (show _ = ((takeSegments (segmentNeed m chars) s).modRecord k
      fun m => storeChars m chars (s.entryOf p).spaceCarry).slots from rfl).trans
      (congrArg State.slots <| modRecord_eq_withRecord (fun m => storeChars m chars (s.entryOf p).spaceCarry) there)
  · rw [custody] at held
    cases held

/-- A FILLING message is freed with the end of its entry (R46). -/
theorem Lawful.cancel (laws : s.StoreLaws) (filling : FillingOn s k m p) : Lawful s (closeEntry p (freeSlot k s)) := by
  obtain ⟨record, custody, port⟩ := filling
  have fills : m.fills = some p := Message.fills_eq_some_iff.mpr ⟨custody, port⟩
  have freed : closeEntry p (freeSlot k s) = (s.withoutRecord k m).withoutEntry p := by
    rw [freeSlot_eq_withoutRecord record]
    rfl
  rw [freed]
  exact .of_steady laws (laws.cancel record fills) (.freed (k := k) (m := m) ⟨record, rfl, rfl, rfl⟩
    (Message.loose_of_filling custody).1 (fun _ => rfl) (fun _ => rfl) rfl)

/-! ### Acceptance and credit -/

/-- A credited copy counts, and may raise the class (R42). -/
theorem Message.Sound.creditCopy (sound : m.Sound) (holds : m.holdsKey = true) (c : Class) : (creditCopy c m).Sound := by
  obtain ⟨⟨words, text, notes, history, dropped, -, low, high, bounces⟩, filling, entered⟩ := sound
  rw [creditCopy_eq]
  refine ⟨⟨words, text, notes, history, dropped, Nat.min_le_right .., low, high, bounces⟩, fun is => ?_, entered⟩
  rw [Message.holdsKey, show m.custody = .filling from is] at holds
  cases holds

theorem Message.Akin.creditCopy (c : Class) : m.Akin (creditCopy c m) := by
  rw [creditCopy_eq]
  refine .of_custody rfl rfl (fun held => if_neg ?_) rfl rfl
  intro raises
  cases custody : m.custody with
  | handed | suspended => simp [Machine.raises, custody, Custody.name] at raises
  | filling | queued | held | disposed | void => rw [custody] at held; cases held

/-- The holder of a key holds it. -/
theorem holdsKey_of_keyHolder {origin : List Byte} {serial day : Nat} (held : s.keyHolder origin serial day = some k) :
    ∃ m, s.record k = some m ∧ m.holdsKey = true := by
  have test := List.find?_some held
  split at test
  · next m record =>
    simp only [Bool.and_eq_true] at test
    exact ⟨m, record, test.1⟩
  · cases test

/-- Beside the credited record a credit of a copy is aside (R42). -/
theorem creditDuplicate_aside (record : s.record k = some m) (c : Class) :
    Aside (s.withRecord k (creditCopy c m)) (creditDuplicate k c s) := by
  unfold creditDuplicate
  rw [modRecord_eq_withRecord _ record, record]
  dsimp only
  obtain ⟨t, is, told⟩ : ∃ t, t = (if (creditCopy c m).klass ≠ m.klass ∨ (creditCopy c m).pendingUpgrade ≠ m.pendingUpgrade
      then notifyWatchers k (s.withRecord k (creditCopy c m)) else s.withRecord k (creditCopy c m))
        ∧ Aside (s.withRecord k (creditCopy c m)) t := by
    refine ⟨_, rfl, ?_⟩
    split
    · exact .notifyWatchers ..
    · exact .refl _
  rw [← is]
  split
  · split
    · exact told.trans (.breakInCheck ..)
    · exact told
  · exact told

/-- A written record, and beside it what is aside. -/
theorem Lawful.write_aside (laws : s.StoreLaws) (record : s.record k = some m) (akin : m.Akin n) (sound : n.Sound)
    (aside : Aside (s.withRecord k n) t) : Lawful s t :=
  .write laws record akin sound aside.ledger aside.fences

/-- A copy is credited to the holder of its key (R42). -/
theorem Lawful.credited (laws : s.StoreLaws) (record : s.record k = some m) (holds : m.holdsKey = true) (c : Class) :
    Lawful s (creditDuplicate k c s) :=
  .write_aside laws record (.creditCopy c) ((laws.records k m record).creditCopy holds c) (creditDuplicate_aside record c)

/-- The copy is FILLING still once it has been credited. -/
theorem filling_of_credited {j : SlotNo} {c : Class} (filling : FillingOn s k m p) (record : s.record j = some n)
    (holds : n.holdsKey = true) : FillingOn (creditDuplicate j c s) k m p := by
  obtain ⟨there, custody, port⟩ := filling
  have other : j ≠ k := by
    rintro rfl
    rw [there, Option.some.injEq] at record
    rw [← record, Message.holdsKey, custody] at holds
    cases holds
  refine ⟨?_, custody, port⟩
  rw [(creditDuplicate_aside record c).record]
  exact (State.record_withRecord_other other).trans there

/-- A copy whose key is held is credited to the holder, and its own entry ends (R41, R42). -/
theorem Lawful.duplicate (laws : s.StoreLaws) {j : SlotNo} (filling : FillingOn s k m p)
    (held : s.keyHolder m.origin m.serial m.day = some j) :
    Lawful s (closeEntry p (freeSlot k (creditDuplicate j m.klass s))) := by
  obtain ⟨holder, record, holds⟩ := holdsKey_of_keyHolder held
  have credited := Lawful.credited laws record holds m.klass
  exact credited.trans (.cancel credited.laws (filling_of_credited filling record holds))

/-- An accepted message has been entered, whatever it then waits for (R43, R44). -/
theorem Message.Entered.accepted (sound : m.Sound) (filling : m.custody = .filling) (now number : Nat) {c : Custody}
    (waits : c = .queued ∨ ∃ r, c = .held r) : ({ acceptMessage now number m with custody := c } : Message).Entered := by
  obtain ⟨⟨words, text, notes, -, dropped, copies, low, high, bounces⟩, is, -⟩ := sound
  obtain ⟨-, history, -, -, -⟩ := is filling
  have few : m.bounces ≤ 6 := by
    obtain few | ⟨-, held | void⟩ := bounces
    · exact few
    · rw [filling] at held; cases held
    · rw [filling] at void; cases void
  have only : c ≠ .filling := by obtain rfl | ⟨r, rfl⟩ := waits <;> simp
  refine Message.entered_iff.mpr ?_
  simp only [acceptMessage, Message.log, history, Config.historyLimit]
  refine ⟨⟨words, text, notes, ?_, dropped, copies, low, high, .inl few⟩, only, rfl, rfl⟩
  simp

/-- The message that a placement leaves has been entered, and waits in a queue or on hold (R44). -/
theorem placed_of_accepted (sound : m.Sound) (filling : m.custody = .filling) (now number : Nat)
    (placed : (∃ r, n = Message.log now (some p) .held { acceptMessage now number m with custody := .held r })
      ∨ n = { Message.applyUpgrade (acceptMessage now number m) with custody := .queued }) :
    n.Entered ∧ n.Waits ∧ n.segments = m.segments := by
  have content (c : Custody) : ({ acceptMessage now number m with custody := c } : Message).segments = m.segments := by
    rw [acceptMessage, Message.log_frame]
    rfl
  obtain ⟨r, rfl⟩ | rfl := placed
  · refine ⟨(Message.Entered.accepted sound filling now number (.inr ⟨r, rfl⟩)).log .., .inr ⟨r, Message.log_custody ..⟩, ?_⟩
    rw [← content (.held r), Message.log_frame]
    rfl
  · rw [Message.applyUpgrade_frame]
    exact ⟨(Message.Entered.accepted sound filling now number (.inl rfl)).withClass .., .inl rfl, content .queued⟩

/-- A FILLING message is accepted, its entry ends, and it is HELD or QUEUED (R43, R44). -/
theorem Lawful.accepted (laws : s.StoreLaws) (filling : FillingOn s k m p) : Lawful s (place p k (accept p k s)) := by
  obtain ⟨record, custody, port⟩ := filling
  have written := modRecord_eq_withRecord (acceptMessage s.seconds s.numberToGive) record
  have slots : (accept p k s).slots = (s.withRecord k (acceptMessage s.seconds s.numberToGive m)).slots := by
    rw [← written]
    rfl
  have there : (accept p k s).record k = some (acceptMessage s.seconds s.numberToGive m) :=
    (State.record_congr slots k).trans (State.record_withRecord_same ..)
  obtain ⟨n, aside, placed⟩ := place_cases (p := p) there
  obtain ⟨entered, waits, segments⟩ := placed_of_accepted (p := p) (laws.records k m record) custody s.seconds
    s.numberToGive (placed.imp id fun both => both.2)
  obtain ⟨t, isT⟩ : ∃ t, t = place p k (accept p k s) := ⟨_, rfl⟩
  rw [← isT] at aside ⊢
  have wrote : Wrote s k n t := by
    refine ⟨aside.slots.trans ?_⟩
    rw [← State.withRecord_withRecord s k (acceptMessage s.seconds s.numberToGive m) n, State.withRecord, State.withRecord,
      State.modSlot, State.modSlot, slots]
  have free : t.freeSegments = s.freeSegments := congrArg Ledger.freeSegments aside.ledger
  have list : t.retained = s.retained := congrArg Ledger.retained aside.ledger
  have entries : t.entries = (s.withoutEntry p).entries := congrArg Ledger.entries aside.ledger
  have entry (q : Port) : t.entryOf q = if p = q then EntryContext.closed else s.entryOf q := by
    rw [State.entryOf, entries]
    exact State.entryOf_modEntry ..
  have grips : n.grip = m.grip := by
    rw [Message.grip_of_loose waits.loose, (Message.loose_of_filling custody).1]
  refine .of_steady laws ⟨wrote.records entered.sound laws.records, ?_, ?_, ?_, ?_⟩ ?_
  · exact wrote.retainedListed laws.retained record (waits.live.trans (Message.loose_of_filling custody).2.symm) list
  · exact wrote.segmentsKept laws.segments record (by rw [free, segments])
  · refine laws.fills.close (k := k) (p := p) ?_ ?_ wrote.fills_other (fun j _ => wrote.handle j)
      ((entry p).trans (if_pos rfl)) (fun q other => (entry q).trans (if_neg (Ne.symm other)))
    · rw [State.fillsAt_of_record record, Message.fills_eq_some_iff]
      exact ⟨custody, port⟩
    · rw [wrote.fills_same, Message.fills_of_entered waits.entered]
  · exact laws.grips.of_same (wrote.grip record grips) (fun j _ => wrote.handle j) aside.active
      (fun q => by rw [State.openRecords, aside.stack]; rfl)
  · refine .wrote record wrote (fun held => ?_) aside.active aside.stack aside.fences
    rw [custody] at held
    cases held

end

end Sys2Proof.Machine
end

section
/-! The requests of the Dispatch and Break-in Units and of net control keep the laws (R103 to R114, R131 to R137, R145 to
R155). -/

namespace Sys2Proof.Machine

section
variable {s t u : State} {k : SlotNo} {m n : Message} {p : Port}

/-! ### Handoffs that end (R107 to R114) -/

theorem ledger_withRecord_congr (same : t.ledger = s.ledger) (k : SlotNo) (m : Message) :
    (t.withRecord k m).ledger = (s.withRecord k m).ledger := by
  have slots : (t.withRecord k m).slots = (s.withRecord k m).slots := by
    rw [State.withRecord, State.withRecord, State.modSlot, State.modSlot, show t.slots = s.slots from
      congrArg Ledger.slots same]
  rw [ledger_withRecord, ledger_withRecord, same, slots]

/-- The ledger where p's active handoff is cleared and its message written. -/
theorem ledger_released (same : u.ledger = (s.withoutActive p).ledger) (aside : Aside (u.withRecord k n) t) : t.ledger
    = { (s.withRecord k n).ledger with
      retained := s.retained, active := fun q => if p = q then none else (s.breakin q).active } := by
  rw [aside.ledger, ledger_withRecord_congr same, ledger_withRecord, ledger_withoutActive, State.withRecord, State.modSlot,
    State.withoutActive_slots]
  rfl

theorem Message.returned_waits (now : Nat) (p : Port) (resolves : Bool) (m : Message) :
    (returned now p resolves m).Waits := by
  unfold Machine.returned
  dsimp only
  split
  · exact .inr ⟨_, Message.log_custody ..⟩
  · split
    · exact .inl rfl
    · exact .inr ⟨_, Message.log_custody ..⟩

theorem Message.bounced_waits (now : Nat) (p : Port) (e : HistoryEvent) (resolves : Bool) (m : Message) :
    (bounced now p e resolves m).Waits := by
  unfold Machine.bounced
  dsimp only
  split
  · exact .inr ⟨_, Message.log_custody ..⟩
  · exact Message.returned_waits ..

/-- A handoff ends in a bounce, a report that holds the message, or a return (R110 to R112). -/
theorem Lawful.released (laws : s.StoreLaws) (record : s.record k = some m) {d : Nat} {mark : Bool}
    (handed : m.custody = .handed p d mark) (entered : n.Entered) (waits : n.Waits) (content : n.content = m.content)
    (same : u.ledger = (s.withoutActive p).ledger) (fences : u.fences = s.fences) (aside : Aside (u.withRecord k n) t) :
    Lawful s (settleFences s.outstanding t) := by
  have rest := ledger_released same aside
  refine .release laws record handed entered waits.loose (Message.segments_of_content content)
    (.inl ⟨waits.live, congrArg Ledger.retained rest⟩) ?_ (aside.fences.trans fences)
  rw [show t.retained = s.retained from congrArg Ledger.retained rest]
  exact rest

/-- A handoff ends with its message retained (R109, R149). -/
theorem Lawful.retired (laws : s.StoreLaws) (record : s.record k = some m) {d : Nat} {mark : Bool}
    (handed : m.custody = .handed p d mark) (entered : n.Entered) (retained : n.retainedRecord = true)
    (content : n.content = m.content) (same : u.ledger = (s.withoutActive p).ledger) (fences : u.fences = s.fences)
    (aside : Aside { u.withRecord k n with retained := s.retained ++ [s.handleOf k] } t) :
    Lawful s (settleFences s.outstanding t) := by
  have loose : n.custody.holder = none := by
    obtain ⟨o, time, custody⟩ | custody := Message.retainedRecord_iff.mp retained <;> rw [custody] <;> rfl
  have rest : t.ledger = { (s.withRecord k n).ledger with
      retained := s.retained ++ [s.handleOf k], active := fun q => if p = q then none else (s.breakin q).active } := by
    have written := ledger_released same (Aside.refl (u.withRecord k n))
    rw [aside.ledger]
    exact congrArg (fun x : Ledger => { x with retained := s.retained ++ [s.handleOf k] }) written
  refine .release laws record handed entered loose (Message.segments_of_content content)
    (.inr ⟨retained, congrArg Ledger.retained rest⟩) ?_ (aside.fences.trans fences)
  rw [show t.retained = s.retained ++ [s.handleOf k] from congrArg Ledger.retained rest]
  exact rest

theorem holdAndTell_aside (record : s.record k = some m) (r : HoldReason) (p : Option Port) :
    Aside (s.withRecord k (Message.log s.seconds p .held { m with custody := .held r })) (holdAndTell k r p s) := by
  rw [holdAndTell_eq record]
  exact leftAs_aside ..

/-- A report leaves the message waiting or retained; what else it does is aside (R107). -/
theorem applyReport_cases (record : s.record k = some m) (entered : m.Entered) (few : m.bounces ≤ 6) (p : Port) (r : Report) :
    ∃ n, n.Entered ∧ n.content = m.content
      ∧ (n.Waits ∧ Aside ((s.withoutActive p).withRecord k n) (applyReport k p r (clearActive p s))
        ∨ n.retainedRecord = true ∧ Aside { (s.withoutActive p).withRecord k n with retained := s.retained ++ [s.handleOf k] }
          (applyReport k p r (clearActive p s))) := by
  have there : (s.withoutActive p).record k = some m := (s.withoutActive_record p k).trans record
  have disposed (o : Disposal) (e : HistoryEvent) : ∃ n, n.Entered ∧ n.content = m.content
      ∧ n.retainedRecord = true ∧ Aside { (s.withoutActive p).withRecord k n with retained := s.retained ++ [s.handleOf k] }
          (dispositionOf k p o e (s.withoutActive p)) := by
    refine ⟨Message.log (s.withoutActive p).seconds (some p) e { m with custody := .disposed o (s.withoutActive p).seconds },
      (entered.withCustody (by simp) (.inl few)).log .., Message.content_log .., ?_, ?_⟩
    · rw [Message.retainedRecord_iff]
      exact .inl ⟨o, _, Message.log_custody ..⟩
    · have done := dispositionOf_eq there p o e
      dsimp only at done
      rw [done, State.withoutActive_handleOf, show (s.withoutActive p).retained = s.retained from
        congrArg Ledger.retained (ledger_withoutActive s p)]
      exact .told ..
  rw [clearActive_eq]
  cases r with
  | relayed station serial =>
    obtain ⟨n, sound, content, retained, aside⟩ := disposed (.relayed station serial) .relayed
    exact ⟨n, sound, content, .inr ⟨retained, aside⟩⟩
  | delivered =>
    obtain ⟨n, sound, content, retained, aside⟩ := disposed .delivered .delivered
    exact ⟨n, sound, content, .inr ⟨retained, aside⟩⟩
  | bounced =>
    change ∃ n, n.Entered ∧ n.content = m.content
      ∧ (n.Waits ∧ Aside ((s.withoutActive p).withRecord k n) (bounce k p _ (s.withoutActive p)) ∨ _)
    rw [bounce_eq p _ there]
    exact ⟨_, entered.bounced few .., content_bounced .., .inl ⟨Message.bounced_waits .., leftAs_aside ..⟩⟩
  | refused =>
    obtain ⟨v, isLogged⟩ : ∃ v, v = Message.log (s.withoutActive p).seconds (some p) .refused m := ⟨_, rfl⟩
    have logged : v.Entered ∧ v.bounces ≤ 6 ∧ v.content = m.content := by
      rw [isLogged, Message.log_bounces, Message.content_log]
      exact ⟨entered.log .., few, rfl⟩
    change ∃ n, n.Entered ∧ n.content = m.content ∧ (n.Waits ∧ Aside ((s.withoutActive p).withRecord k n)
      (holdAndTell k .refused (some p) ((s.withoutActive p).modRecord k _)) ∨ _)
    rw [modRecord_eq_withRecord _ there, ← isLogged]
    have held := holdAndTell_aside (State.record_withRecord_same (s.withoutActive p) k v) .refused (some p)
    rw [State.withRecord_withRecord] at held
    exact ⟨_, logged.1.held logged.2.1 .., by rw [Message.content_log, Message.content_custody, logged.2.2],
      .inl ⟨.inr ⟨_, Message.log_custody ..⟩, held⟩⟩

/-- The report of a handoff is carried out (R107). -/
theorem Lawful.reported (laws : s.StoreLaws) (record : s.record k = some m) {d : Nat} {mark : Bool}
    (handed : m.custody = .handed p d mark) (r : Report) :
    Lawful s (settleFences s.outstanding (applyReport k p r (clearActive p s))) := by
  obtain ⟨entered, few⟩ := Message.Entered.of_holder (laws.records k m record) (by rw [handed]; rfl)
  obtain ⟨n, sound, content, ⟨waits, aside⟩ | ⟨retained, aside⟩⟩ := applyReport_cases record entered few p r
  · exact .released laws record handed sound waits content rfl (fences_withoutActive s p) aside
  · exact .retired laws record handed sound retained content rfl (fences_withoutActive s p) aside

/-! ### What the Dispatch and Break-in Units change without ending a handoff -/

/-- EXTEND sets the deadline of a handoff (R106). -/
theorem Lawful.extend (laws : s.StoreLaws) (record : s.record k = some m) {d : Nat} {mark : Bool}
    (handed : m.custody = .handed p d mark) (deadline : Nat) :
    Lawful s (s.modRecord k (fun m => { m with custody := Custody.withDeadline deadline m.custody })) := by
  obtain ⟨entered, few⟩ := Message.Entered.of_holder (laws.records k m record) (by rw [handed]; rfl)
  refine .modRecord laws record ⟨⟨?_, ?_, ?_, rfl⟩, fun _ => rfl, fun marked => ?_⟩ ?_
  · simp [Message.grip, handed, Custody.withDeadline]
  · simp [Message.fills, handed, Custody.withDeadline]
  · rw [Message.live_of_holder (by rw [handed]; rfl), Message.live_of_holder (by rw [handed]; rfl)]
  · rw [handed] at marked ⊢
    exact marked
  · exact (entered.withCustody (by simp [handed, Custody.withDeadline]) (.inl few)).sound

/-- A change of a port's enable or of what is pending there (R124). -/
theorem Lawful.modBreakin (laws : s.StoreLaws) {f : BreakIn → BreakIn} (active : ∀ b, (f b).active = b.active)
    (stack : ∀ b, (f b).stack = b.stack) (p : Port) : Lawful s (s.modBreakin p f) :=
  .still laws (ledger_modBreakin active stack s p) rfl

theorem Lawful.switchEnable (laws : s.StoreLaws) (p : Port) (on : Bool) : Lawful s (switchEnable p on s) := by
  unfold Machine.switchEnable
  split
  · exact .refl laws
  · split
    · exact (Lawful.modBreakin laws (f := fun b => { b with enable := true }) (fun _ => rfl) (fun _ => rfl) p).aside
        (.breakInCheck ..)
    · exact (Lawful.modBreakin laws (f := fun b => { b with enable := false }) (fun _ => rfl) (fun _ => rfl) p).aside
        (.clearPendingBreakIn ..)

/-! ### Net control (R145 to R155) -/

/-- A waiting message is left waiting, whatever its bounce count was for. -/
theorem Message.Entered.waiting (entered : m.Entered) (few : m.bounces ≤ 6) {c : Custody}
    (waits : c = .queued ∨ ∃ r, c = .held r) : ({ m with custody := c } : Message).Entered := by
  obtain rfl | ⟨r, rfl⟩ := waits
  · exact entered.withCustody (by simp) (.inl few)
  · exact entered.withCustody (by simp) (.inl few)

theorem Lawful.holdMessage (laws : s.StoreLaws) (record : s.record k = some m) (queued : m.custody = .queued) (p : Port) :
    Lawful s (holdMessage k p s) := by
  have entered := laws.entered record (by simp [queued])
  have few := entered.bounces_le (by simp [queued]) (by simp [queued])
  have held : Lawful s (s.modRecord k (fun m => { m with custody := .held .control })) :=
    .modRecord laws record (.of_waits (.inl queued) (.inr ⟨_, rfl⟩) rfl) (entered.waiting few (.inr ⟨_, rfl⟩)).sound
  have there : (s.modRecord k (fun m => { m with custody := .held .control })).record k
      = some { m with custody := .held .control } := by
    rw [modRecord_eq_withRecord _ record]
    exact State.record_withRecord_same ..
  have logged {t : State} (before : Lawful s t) (there : t.record k = some { m with custody := .held .control }) :
      Lawful s (notifyWatchers k (t.modRecord k (Message.log t.seconds (some p) .held))) := by
    refine (before.trans (.modRecord before.laws there (.of_waits (.inr ⟨_, rfl⟩) (.inr ⟨_, Message.log_custody ..⟩) ?_)
      ?_)).aside (.notifyWatchers ..)
    · rw [Message.log_frame]
      rfl
    · exact ((entered.waiting few (.inr ⟨_, rfl⟩)).log ..).sound
  unfold Machine.holdMessage
  dsimp only
  split
  · exact logged (held.aside (.departed ..)) ((Aside.departed ..).record k |>.trans there)
  · exact logged held there

/-- A hold renewed writes the record; what else it does is aside (R148). -/
theorem holdAgain_aside (record : s.record k = some m) (r : HoldReason) (p : Port) (changed : Bool) :
    Aside (s.withRecord k (Message.log s.seconds (some p) .held
      { Message.log s.seconds (some p) .released m with custody := .held r })) (holdAgain k r p changed s) := by
  rw [holdAgain_eq record]
  dsimp only
  split
  · exact (Aside.told ..).trans (.told ..)
  · exact .told ..

theorem Message.Entered.released (entered : m.Entered) : (Message.released m).Entered :=
  Message.Entered.applyUpgrade (entered.withBounces (Nat.zero_le _) _)

theorem Message.released_bounces (m : Message) : (Message.released m).bounces = 0 := by
  rw [Message.released, Message.applyUpgrade_bounces]

theorem Message.segments_released (m : Message) : (Message.released m).segments = m.segments := by
  rw [Message.released, Message.applyUpgrade_frame]
  rfl

theorem Lawful.releaseMessage (laws : s.StoreLaws) (record : s.record k = some m) {r : HoldReason}
    (held : m.custody = .held r) (p : Port) : Lawful s (releaseMessage k p m s).2 := by
  obtain ⟨n, isReleased⟩ : ∃ n, n = Message.released m := ⟨_, rfl⟩
  have custody : n.custody = .held r := by
    rw [isReleased, Message.released, Message.applyUpgrade_custody]
    exact held
  have entered : n.Entered := by
    rw [isReleased]
    exact (laws.entered record (by simp [held])).released
  have few : n.bounces ≤ 6 := by
    rw [isReleased, Message.released_bounces]
    omega
  have waits : n.Waits := .inr ⟨r, custody⟩
  have released : Lawful s (s.modRecord k Message.released) := by
    refine .modRecord laws record ?_ ?_
    · rw [← isReleased]
      exact .of_waits (.inr ⟨r, held⟩) waits (isReleased ▸ Message.segments_released m)
    · rw [← isReleased]
      exact entered.sound
  have there : (s.modRecord k Message.released).record k = some n := by
    rw [modRecord_eq_withRecord _ record, State.record_withRecord_same, isReleased]
  have again (x : HoldReason) (changed : Bool) : Lawful s (holdAgain k x p changed (s.modRecord k Message.released)) := by
    refine released.trans (.write_aside released.laws there (.of_waits waits (.inr ⟨x, Message.log_custody ..⟩) ?_) ?_
      (holdAgain_aside there x p changed))
    · exact Message.segments_of_content (by rw [Message.content_log, Message.content_custody, Message.content_log])
    · exact ((entered.log ..).held (by rw [Message.log_bounces]; exact few) ..).sound
  unfold Machine.releaseMessage
  dsimp only
  split
  · exact again ..
  · split
    · next q resolves =>
      obtain ⟨u, isU⟩ : ∃ u, u = Message.log s.seconds (some p) .released n := ⟨_, rfl⟩
      obtain ⟨v, isV⟩ : ∃ v, v = (s.modRecord k Message.released).modRecord k (Message.log s.seconds (some p) .released) :=
        ⟨_, rfl⟩
      have logged : u.Entered ∧ u.Waits ∧ u.bounces ≤ 6 ∧ u.content = n.content ∧ u.area = n.area := by
        rw [isU, Message.log_bounces, Message.content_log, Message.log_area]
        exact ⟨entered.log .., .inr ⟨r, (Message.log_custody ..).trans custody⟩, few, rfl, rfl⟩
      obtain ⟨entered', waits', few', content, area⟩ := logged
      have step : Lawful s v := by
        rw [isV]
        refine released.trans (.modRecord released.laws there ?_ ?_)
        · rw [← isU]
          exact .of_waits waits waits' (Message.segments_of_content content)
        · rw [← isU]
          exact entered'.sound
      have there' : v.record k = some u := by
        rw [isV, modRecord_eq_withRecord _ there, State.record_withRecord_same, isU]
      have resolves' : v.resolve u.area = some q := by
        rw [area, isReleased, isV]
        exact resolves
      refine step.trans ?_
      change Lawful v (joinQueue k q ((s.modRecord k Message.released).modRecord k
        (Message.log s.seconds (some p) .released)))
      rw [← isV, joinQueue_eq there' resolves']
      refine .write_aside step.laws there' (.of_waits waits' (.inl rfl) ?_) ?_ (leftAs_aside ..)
      · rw [Message.applyUpgrade_frame]
        rfl
      · rw [Message.applyUpgrade_frame]
        exact ((entered'.waiting few' (.inl rfl)).withClass ..).sound
    · exact again ..

/-- What becomes VOID. -/
def Message.voided (now : Nat) (p : Port) (m : Message) : Message :=
  Message.log now (some p) .voided { m with custody := .void }

theorem Message.voided_custody (now : Nat) (p : Port) (m : Message) : (Message.voided now p m).custody = .void :=
  Message.log_custody ..

theorem Message.voided_content (now : Nat) (p : Port) (m : Message) : (Message.voided now p m).content = m.content := by
  rw [Message.voided, Message.content_log, Message.content_custody]

theorem Message.Entered.voided (entered : m.Entered) (now : Nat) (p : Port) :
    (Message.voided now p m).Entered := by
  have bounces : m.bounces ≤ 6 ∨ m.bounces = 7 ∧ ((Custody.void = .held .bounceLimit) ∨ Custody.void = .void) := by
    obtain ⟨⟨-, -, -, -, -, -, -, -, few | ⟨seven, -⟩⟩, -⟩ := entered.sound
    · exact .inl few
    · exact .inr ⟨seven, .inr rfl⟩
  exact (entered.withCustody (by simp) bounces).log ..

theorem becomeVoid_aside (record : s.record k = some m) (p : Port) :
    Aside { s.withRecord k (Message.voided s.seconds p m) with retained := s.retained ++ [s.handleOf k] }
      (becomeVoid k p s) := by
  rw [becomeVoid_eq record rfl rfl rfl p]
  exact .told ..

/-- A waiting message becomes VOID (R149). -/
theorem Lawful.becomeVoid (laws : s.StoreLaws) (record : s.record k = some m) (waits : m.Waits)
    (p : Port) : Lawful s (becomeVoid k p s) := by
  obtain ⟨n, isVoid⟩ : ∃ n, n = Message.voided s.seconds p m := ⟨_, rfl⟩
  have aside := becomeVoid_aside record p
  rw [← isVoid] at aside
  have custody : n.custody = .void := isVoid ▸ Message.voided_custody ..
  have retained : n.retainedRecord = true := Message.retainedRecord_iff.mpr (.inr custody)
  have entered : n.Entered := isVoid ▸ (laws.entered record waits.entered).voided ..
  have segments : n.segments = m.segments := isVoid ▸ Message.segments_of_content (Message.voided_content ..)
  have wrote : Wrote s k n (Machine.becomeVoid k p s) := ⟨aside.slots⟩
  have free : (Machine.becomeVoid k p s).freeSegments = s.freeSegments := congrArg Ledger.freeSegments aside.ledger
  have grip : n.grip = m.grip := by
    rw [Message.grip_of_loose waits.loose, (Message.loose_of_retained retained).1]
  refine .of_steady laws (laws.put record wrote entered.sound (by rw [free, segments]) ?_
    (congrArg Ledger.entries aside.ledger) (.inr ⟨waits.live, retained, congrArg Ledger.retained aside.ledger⟩) ?_)
    (.wrote record wrote (fun held => ?_) aside.active aside.stack aside.fences)
  · rw [(Message.loose_of_retained retained).2, Message.fills_of_entered waits.entered]
  · exact laws.grips.of_same (wrote.grip record grip) (fun j _ => wrote.handle j) aside.active
      (fun q => by rw [State.openRecords, aside.stack]; rfl)
  · rw [waits.loose] at held
    cases held

/-- A departure from a queue keeps the laws as its act does (R99, R150). -/
theorem Lawful.leaveQueue (laws : s.StoreLaws) (p : Port) (h : Handle) {act : State → State}
    (acts : ∀ t : State, t.StoreLaws → t.slots = s.slots → Lawful t (act t)) : Lawful s (leaveQueue p h act s) := by
  obtain ⟨-, e⟩ | ⟨-, ⟨-, e⟩ | ⟨-, e⟩⟩ := leaveQueue_cases p h act s
  · rw [e]
    exact acts s laws rfl
  · rw [e]
    have cleared := Lawful.modBreakin laws (f := fun b => { b with pending := none }) (fun _ => rfl) (fun _ => rfl) p
    exact ((cleared.trans (acts _ cleared.laws rfl)).aside (.withdrawBreakIn ..)).aside (.breakInCheck ..)
  · rw [e]
    have aside := Aside.clearPendingBreakIn p s
    have cleared := (Lawful.refl laws).aside aside
    exact cleared.trans (acts _ cleared.laws aside.slots)

/-- VOID (R149 to R151). -/
theorem Lawful.voidMessage (laws : s.StoreLaws) (record : s.record k = some m) (traffic : Message.inTraffic m = true)
    (p : Port) : Lawful s (voidMessage k p m s) := by
  have alone (waits : m.Waits) (t : State) (sound : t.StoreLaws) (slots : t.slots = s.slots) :
      Lawful t (Machine.becomeVoid k p t) :=
    .becomeVoid sound ((State.record_congr slots k).trans record) waits p
  have entered (not : m.custody ≠ .filling) : (Message.voided s.seconds p m).Entered := (laws.entered record not).voided ..
  have retained : (Message.voided s.seconds p m).retainedRecord = true :=
    Message.retainedRecord_iff.mpr (.inr (Message.voided_custody ..))
  have content := Message.voided_content s.seconds p m
  unfold Machine.voidMessage
  dsimp only
  cases custody : m.custody with
  | queued =>
    dsimp only
    split
    · exact .leaveQueue laws _ _ (alone (.inl custody))
    · exact alone (.inl custody) s laws rfl
  | held r => exact alone (.inr ⟨r, custody⟩) s laws rfl
  | handed q d mark =>
    have same : (post q .revoked (some (s.handleOf k)) (.token m.token) (clearActive q s)).ledger
        = (s.withoutActive q).ledger := by
      rw [(Aside.post ..).ledger, clearActive_eq]
    have frame : (post q .revoked (some (s.handleOf k)) (.token m.token) (clearActive q s)).fences = s.fences := by
      rw [(Aside.post ..).fences, clearActive_eq, fences_withoutActive]
    refine .retired laws record custody (entered (by simp [custody])) retained content same frame ?_
    have slots : (post q .revoked (some (s.handleOf k)) (.token m.token) (clearActive q s)).slots = s.slots :=
      (congrArg Ledger.slots same).trans (s.withoutActive_slots q)
    have now : (post q .revoked (some (s.handleOf k)) (.token m.token) (clearActive q s)).seconds = s.seconds := by
      rw [(Aside.post ..).frame, clearActive_eq]
      exact s.withoutActive_seconds q
    have list : (post q .revoked (some (s.handleOf k)) (.token m.token) (clearActive q s)).retained = s.retained :=
      (congrArg Ledger.retained same).trans (congrArg Ledger.retained (ledger_withoutActive s q))
    rw [becomeVoid_eq record slots now list p]
    exact .told ..
  | suspended q d mark =>
    obtain ⟨u, isU⟩ : ∃ u, u = revokeRecord q (s.handleOf k) s := ⟨_, rfl⟩
    have flagged : u.ledger = { s.ledger with
        stack := fun x => if q = x then (s.breakin x).stack.map (Suspension.flagged (s.handleOf k))
          else (s.breakin x).stack } := by
      have active : (fun x => if q = x then (s.breakin x).active else (s.breakin x).active) = s.ledger.active := by
        funext x
        exact ite_self _
      rw [isU, revokeRecord_eq, ledger_modBreakin_eq, active]
      rfl
    have frame : u.fences = s.fences ∧ u.seconds = s.seconds := by
      rw [isU]
      exact ⟨rfl, rfl⟩
    dsimp only
    rw [← isU]
    have told := Aside.post q .revoked (some (s.handleOf k)) (.token m.token) u
    have slots : (post q .revoked (some (s.handleOf k)) (.token m.token) u).slots = s.slots :=
      (congrArg Ledger.slots told.ledger).trans (congrArg Ledger.slots flagged)
    have now : (post q .revoked (some (s.handleOf k)) (.token m.token) u).seconds = s.seconds := by
      rw [told.frame]
      exact frame.2
    have list : (post q .revoked (some (s.handleOf k)) (.token m.token) u).retained = s.retained :=
      (congrArg Ledger.retained told.ledger).trans (congrArg Ledger.retained flagged)
    refine .revoke (n := Message.voided s.seconds p m) laws record custody (entered (by simp [custody]))
      (Message.segments_of_content content) retained ?_ ?_
    · rw [becomeVoid_eq record slots now list p]
      dsimp only
      rw [(Aside.told ..).ledger]
      have written := ledger_withRecord_congr told.ledger k (Message.voided s.seconds p m)
      refine (congrArg (fun x : Ledger => { x with retained := s.retained ++ [s.handleOf k] }) written).trans ?_
      rw [ledger_withRecord, flagged, State.withRecord, State.modSlot, show u.slots = s.slots from
        congrArg Ledger.slots flagged]
      rfl
    · rw [becomeVoid_eq record slots now list p]
      exact told.fences.trans frame.1
  | filling | disposed | void => simp [Message.inTraffic, custody] at traffic

theorem clampAdjust_range (x : Int) : -4096 ≤ clampAdjust x ∧ clampAdjust x ≤ 4095 := by
  rw [clampAdjust_eq]
  split
  · omega
  · split <;> omega

theorem amendClass_aside (record : s.record k = some m) (c : Class) (old : Message) :
    Aside (s.withRecord k { m with klass := c, pendingUpgrade := none }) (amendClass k c old s) := by
  unfold amendClass
  rw [modRecord_eq_withRecord _ record]
  dsimp only
  obtain ⟨t, is, told⟩ : ∃ t, t = (if c ≠ old.klass ∨ old.pendingUpgrade ≠ none
      then notifyWatchers k (s.withRecord k { m with klass := c, pendingUpgrade := none })
      else s.withRecord k { m with klass := c, pendingUpgrade := none })
        ∧ Aside (s.withRecord k { m with klass := c, pendingUpgrade := none }) t := by
    refine ⟨_, rfl, ?_⟩
    split
    · exact .notifyWatchers ..
    · exact .refl _
  rw [← is]
  split
  · exact told
  · split
    · exact told.trans (.breakInCheck ..)
    · split
      · split
        · exact told
        · split
          · exact told
          · exact told.trans (.departed ..)
      · exact told

/-- AMEND: the class only of a message that is not in hand (R152 to R154). -/
theorem Lawful.amendMessage (laws : s.StoreLaws) (f : AmendFields) (record : s.record k = some m)
    (traffic : Message.inTraffic m = true) (free : AmendFields.hasClass f = true → Message.inHand m = false) :
    Lawful s (amendMessage k f m s) := by
  have entered := laws.entered record fun filling => by rw [Message.inTraffic, filling] at traffic; cases traffic
  obtain ⟨low, high⟩ := clampAdjust_range f.adjust.toInt
  obtain ⟨u, is, adjusted, n, there, custody, entered'⟩ : ∃ u, u = (if AmendFields.hasAdjust f = true
      then s.modRecord k (fun m => { m with adjust := clampAdjust f.adjust.toInt }) else s) ∧ Lawful s u
        ∧ ∃ n, u.record k = some n ∧ n.custody = m.custody ∧ n.Entered := by
    refine ⟨_, rfl, ?_⟩
    split
    · refine ⟨.modRecord laws record (.of_custody rfl rfl (fun _ => rfl) rfl rfl) (entered.withAdjust low high).sound,
        { m with adjust := clampAdjust f.adjust.toInt }, ?_, rfl, entered.withAdjust low high⟩
      rw [modRecord_eq_withRecord _ record]
      exact State.record_withRecord_same ..
    · exact ⟨.refl laws, m, record, rfl, entered⟩
  unfold Machine.amendMessage
  dsimp only
  rw [← is]
  split
  · next c given _ =>
    refine adjusted.trans (.write_aside (n := { n with klass := c, pendingUpgrade := none }) adjusted.laws there
      (.of_custody rfl rfl (fun held => ?_) rfl rfl) (entered'.withClass ..).sound (amendClass_aside there c m))
    have loose := free (by assumption)
    rw [Message.inHand, ← custody, held] at loose
    cases loose
  · exact adjusted

end

end Sys2Proof.Machine
end

section
/-! Notes, watches, routing changes and the ticks keep the laws; with them every request (R47, R74 to R76, R114, R116, R155,
R159). -/

namespace Sys2Proof.Machine

section
variable {s t u : State} {k : SlotNo} {m n : Message} {p : Port}

/-! ### Notes and watches -/

theorem segments_noted (chars : List Byte) (m : Message) : (noted chars m).segments = m.segments + 1 := by
  simp [Message.segments, noted, Nat.add_assoc]

theorem Message.live_of_traffic (traffic : m.inTraffic = true) : m.retainedRecord = false := by
  rw [Bool.eq_false_iff, ne_eq, Message.retainedRecord_iff]
  rintro (⟨o, time, custody⟩ | custody) <;> rw [Message.inTraffic, custody] at traffic <;> cases traffic

/-- ADD-NOTE takes a segment and gives it to the note (R155). -/
theorem Lawful.note (laws : s.StoreLaws) (record : s.record k = some m) (traffic : Message.inTraffic m = true)
    (room : m.notes.length < 4) (segment : 1 ≤ s.freeSegments + s.retainedSegments) (chars : List Byte) :
    Lawful s (notifyWatchers k ((takeSegments 1 s).modRecord k (noted chars))) := by
  have live := Message.live_of_traffic traffic
  have entered := laws.entered record fun filling => by rw [Message.inTraffic, filling] at traffic; cases traffic
  obtain ⟨u, before, holds, taken, slots⟩ := laws.takeSegments (Nat.le_refl 1) (.inr segment)
  have still : (takeSegments 1 s).record k = some m :=
    (congrArg Slot.record (slot_takeSegments laws.retained record live)).trans record
  have there : u.record k = some m := (State.record_congr slots k).trans still
  have wrote : Wrote u k (noted chars m) ((takeSegments 1 s).modRecord k (noted chars)) := by
    refine ⟨?_⟩
    rw [modRecord_eq_withRecord _ still, State.withRecord, State.withRecord, State.modSlot, State.modSlot, slots]
  have frame : ((takeSegments 1 s).modRecord k (noted chars)).freeSegments = u.freeSegments - 1
      ∧ ((takeSegments 1 s).modRecord k (noted chars)).entries = u.entries
      ∧ ((takeSegments 1 s).modRecord k (noted chars)).retained = u.retained
      ∧ ∀ q, ((takeSegments 1 s).modRecord k (noted chars)).breakin q = u.breakin q := by
    rw [taken]
    exact ⟨rfl, rfl, rfl, fun _ => rfl⟩
  obtain ⟨free, entries, list, hands⟩ := frame
  have akin : (noted chars m).grip = m.grip := rfl
  refine Lawful.aside (.of_steady laws (before.put there wrote (entered.noted room chars).sound ?_ rfl entries
    (.inl ⟨rfl, list⟩) ?_) ((takeSegments_steady laws 1).trans (.wrote still (n := noted chars m) ⟨?_⟩
      (fun held => ⟨held, rfl, id⟩) (fun _ => rfl) (fun _ => rfl) rfl))) (.notifyWatchers ..)
  · rw [free, segments_noted]
    omega
  · exact before.grips.of_same (wrote.grip there akin) (fun j _ => wrote.handle j) (fun q => by rw [hands])
      (fun q => by rw [State.openRecords, hands]; rfl)
  · exact congrArg State.slots (modRecord_eq_withRecord (noted chars) still)

theorem Lawful.watch (laws : s.StoreLaws) (record : s.record k = some m) (entered : m.custody ≠ .filling) (p : Port)
    (on : Bool) : Lawful s (s.modRecord k (setWatcher p on)) :=
  .modRecord laws record (.of_custody rfl rfl (fun _ => rfl) rfl rfl)
    ((laws.entered record entered).withWatchers (m.watchers.set p.val on p.isLt)).sound

/-! ### Routing changes (R74 to R76) -/

theorem Message.Akin.rerouted (now : Nat) (p : Port) (resolves : Bool) (m : Message) :
    m.Akin (rerouted now p resolves m) := by
  have segments := Message.segments_of_content (content_rerouted now p resolves m)
  cases custody : m.custody with
  | filling =>
    rw [rerouted_of_filling custody]
    exact .refl m
  | handed q d mark =>
    have marked : Machine.rerouted now p resolves m = { m with custody := .handed q d true } := by
      rw [Machine.rerouted, custody]
    rw [marked]
    refine ⟨⟨by simp [Message.grip, custody], by simp [Message.fills, custody], ?_, rfl⟩, fun _ => rfl, fun _ => rfl⟩
    rw [Message.live_of_holder (m := m) (by rw [custody]; rfl)]
    exact Message.live_of_holder rfl
  | suspended q d mark =>
    have marked : Machine.rerouted now p resolves m = { m with custody := .suspended q d true } := by
      rw [Machine.rerouted, custody]
    rw [marked]
    refine ⟨⟨by simp [Message.grip, custody], by simp [Message.fills, custody], ?_, rfl⟩, fun _ => rfl, fun _ => rfl⟩
    rw [Message.live_of_holder (m := m) (by rw [custody]; rfl)]
    exact Message.live_of_holder rfl
  | queued =>
    refine .of_waits (.inl custody) ?_ segments
    rw [Machine.rerouted, custody]
    cases resolves with
    | true => exact .inl custody
    | false => exact .inr ⟨_, Message.log_custody ..⟩
  | held r =>
    refine .of_waits (.inr ⟨r, custody⟩) ?_ segments
    rw [Machine.rerouted, custody]
    cases r with
    | unrouted =>
      cases resolves with
      | false => exact .inr ⟨_, custody⟩
      | true =>
        simp only [if_true]
        split
        · exact .inr ⟨_, Message.log_custody ..⟩
        · exact .inl rfl
    | bounceLimit | refused | deadlinePassed | control => exact .inr ⟨_, custody⟩
  | disposed | void =>
    rw [Machine.rerouted, custody]
    exact .refl m

/-- Every record written with a message akin. -/
theorem Lawful.map {f : SlotNo → Message → Message} (laws : s.StoreLaws)
    (slot : ∀ k, t.slot k = { s.slot k with record := (s.record k).map (f k) })
    (each : ∀ k m, s.record k = some m → m.Akin (f k m) ∧ (f k m).Sound)
    (rest : t.ledger = { s.ledger with slots := t.slots }) (fences : t.fences = s.fences) : Lawful s t := by
  refine .of_steady laws (laws.map slot (fun k m record => (each k m record).imp_left fun akin => akin.toAlike) rest)
    ⟨fun p => congrFun (congrArg Ledger.active rest) p, fun p => congrFun (congrArg Ledger.stack rest) p, fences,
      fun k m record held => ⟨f k m, ?_, ?_, ?_, ?_⟩⟩
  · rw [State.record_eq, slot, record]
    rfl
  · exact (each k m record).1.toAlike.holder held
  · exact (each k m record).1.klass held
  · exact (each k m record).1.marked

theorem Lawful.rerouting (laws : s.StoreLaws) {s₁ : State} (only : RoutingOnly s s₁) : Lawful s (s.rerouting p s₁) := by
  have written : Lawful s (s.replacedAll s₁ p) := by
    refine .map (f := fun _ => s.changed s₁ p) laws (fun k => get_vmap ..) (fun k m record => ?_) ?_ ?_
    · exact ⟨.rerouted .., (laws.records k m record).rerouted ..⟩
    · rw [State.replacedAll, only.only]
      rfl
    · rw [State.replacedAll, only.only]
  exact written.aside (rerouting_aside only)

/-! ### The ticks (R47, R114, R116) -/

theorem Lawful.foldl {α : Type} {f : State → α → State} (each : ∀ t x, t.StoreLaws → Lawful t (f t x)) (xs : List α)
    (before : Lawful s t) : Lawful s (xs.foldl f t) := by
  induction xs generalizing t with
  | nil => exact before
  | cons x xs ih => exact ih (before.trans (each t x before.laws))

theorem Lawful.timeOutEntry (laws : s.StoreLaws) (p : Port) : Lawful s (timeOutEntry s p) := by
  unfold Machine.timeOutEntry
  split
  · exact .refl laws
  · next o entry =>
    split
    · obtain ⟨handle, fills⟩ := laws.fills.named p o entry
      obtain ⟨m, filling⟩ := State.fillsAt_eq_some_iff.mp fills
      exact (Lawful.cancel laws filling).aside (.post ..)
    · exact .refl laws

theorem Lawful.lapseIfDue (laws : s.StoreLaws) (k : SlotNo) : Lawful s (lapseIfDue s k) := by
  unfold Machine.lapseIfDue
  split
  · exact .refl laws
  · next m record =>
    split
    · next q d mark handed =>
      split
      · obtain ⟨u, isU⟩ : ∃ u, u = post q .lapsed (some (s.handleOf k)) (.token m.token) (Machine.clearActive q s) := ⟨_, rfl⟩
        have told := Aside.post q .lapsed (some (s.handleOf k)) (.token m.token) (Machine.clearActive q s)
        rw [← isU, clearActive_eq] at told
        have there : u.record k = some m := (told.record k).trans ((s.withoutActive_record q k).trans record)
        obtain ⟨entered, few⟩ := Message.Entered.of_holder (laws.records k m record) (by rw [handed]; rfl)
        rw [← isU, bounce_eq q .lapsed there]
        exact .released laws record handed (entered.bounced few ..) (Message.bounced_waits ..) (content_bounced ..)
          told.ledger (told.fences.trans (fences_withoutActive s q)) (leftAs_aside ..)
      · exact .refl laws
    all_goals exact .refl laws

theorem Lawful.expireIfDue (laws : s.StoreLaws) (k : SlotNo) : Lawful s (expireIfDue s k) := by
  unfold Machine.expireIfDue
  split
  · exact .refl laws
  · next m record =>
    split
    · next due =>
      have held (t : State) (sound : t.StoreLaws) (slots : t.slots = s.slots) :
          Lawful t (holdAndTell k .deadlinePassed none t) := by
        have there : t.record k = some m := (State.record_congr slots k).trans record
        have entered := sound.entered there (by simp [due.1])
        refine .write_aside sound there (.of_waits (.inl due.1) (.inr ⟨_, Message.log_custody ..⟩) ?_) ?_
          (holdAndTell_aside there ..)
        · exact Message.segments_of_content (by rw [Message.content_log, Message.content_custody])
        · exact (entered.held (entered.bounces_le (by simp [due.1]) (by simp [due.1])) ..).sound
      split
      · exact .leaveQueue laws _ _ held
      · exact held s laws rfl
    · exact .refl laws

theorem Lawful.takeEntryTick (laws : s.StoreLaws) : Lawful s (takeEntryTick s) := by
  have taken : Lawful s { s with entryTick := false } := .still laws rfl rfl
  unfold Machine.takeEntryTick
  split
  · exact .foldl (fun t q sound => .timeOutEntry sound q) allPorts taken
  · exact .refl laws

theorem Lawful.takeLeaseTick (laws : s.StoreLaws) (slots : List SlotNo) : Lawful s (takeLeaseTick slots s) := by
  have taken : Lawful s { s with leaseTick := false } := .still laws rfl rfl
  unfold Machine.takeLeaseTick
  split
  · exact .foldl (fun t k sound => .lapseIfDue sound k) slots taken
  · exact .refl laws

theorem Lawful.takeDeadlineTick (laws : s.StoreLaws) (leases : List SlotNo) : Lawful s (takeDeadlineTick leases s) := by
  have leased := Lawful.takeLeaseTick laws leases
  have taken : Lawful s { Machine.takeLeaseTick leases s with deadlineTick := false } :=
    leased.trans (.still leased.laws rfl rfl)
  unfold Machine.takeDeadlineTick
  dsimp only
  split
  · exact .foldl (fun t k sound => .expireIfDue sound k) allSlots taken
  · exact leased

theorem Lawful.takeTicksAt (laws : s.StoreLaws) (leases : List SlotNo) : Lawful s (takeTicksAt leases s) := by
  have entries := Lawful.takeEntryTick laws
  exact entries.trans (.takeDeadlineTick entries.laws leases)

theorem Lawful.ticksBefore (laws : s.StoreLaws) (c : Instr) : Lawful s (ticksBefore c s) := by
  unfold Machine.ticksBefore
  split
  · next p h token =>
    obtain e | ⟨k, -, -, e⟩ := ticksBeforeBreakin_cases p (nextBreakin p h token) s
    · rw [e]
      exact .takeTicksAt laws allSlots
    · rw [e]
      exact .takeTicksAt laws _
  · exact .takeTicksAt laws allSlots

/-! ### The requests -/

theorem queued_of_ranked {e : Evaluation} {es : List Evaluation} (ranked : s.ranked (s.queue p) = e :: es) :
    ∃ m, s.record e.slot = some m ∧ m.custody = .queued := by
  obtain ⟨m, record, queued, -⟩ := State.queueOf_eq_some (queueOf_of_ranked ranked)
  exact ⟨m, record, queued⟩

theorem entries_makeRoom (s : State) : (makeRoom s).entries = s.entries := by
  unfold makeRoom
  split
  · rfl
  · split
    · rfl
    · rw [reclaim_frame]

/-- The active handoff is suspended and a higher message of the queue handed out (R131, R132). -/
theorem Lawful.suspendAndHandOut (laws : s.StoreLaws) {h : Handle} {token : Byte} {j : SlotNo}
    (record : s.record h.slot = some m) (active : (s.breakin p).active = some { handle := h, token := token })
    (eligible : j ∈ s.eligible p m.klass) :
    Lawful s (Machine.handOut j p (Machine.suspend h.slot p { handle := h, token := token } m s)) := by
  obtain ⟨queueOf, n, there, higher⟩ := State.mem_eligible.mp eligible
  obtain ⟨v, there', queued, -⟩ := State.queueOf_eq_some queueOf
  obtain rfl : n = v := Option.some.inj (there.symm.trans there')
  obtain ⟨v, d, mark, -, found, -, handed⟩ := laws.handed_of_active active
  obtain rfl : m = v := Option.some.inj (record.symm.trans found)
  have other : j ≠ h.slot := by
    rintro rfl
    rw [record, Option.some.injEq] at there
    rw [there, queued] at handed
    cases handed
  have ledger := ledger_suspend (a := { handle := h, token := token }) record handed
  have suspended := Lawful.suspend laws record active higher
  obtain ⟨u, isU⟩ : ∃ u, u = Machine.suspend h.slot p { handle := h, token := token } m s := ⟨_, rfl⟩
  have pushed : (u.breakin p).stack.map (fun r => r.klass.code)
      = m.klass.code :: (s.breakin p).stack.map (fun r => r.klass.code) := by
    rw [isU, stack_suspend, List.map_cons]
  rw [← isU] at ledger suspended ⊢
  have idle : (u.breakin p).active = none := (congrFun (congrArg Ledger.active ledger) p).trans (if_pos rfl)
  refine suspended.trans (.handOut suspended.laws (m := n) ?_ queued idle fun ordered c member => ?_)
  · rw [State.record_congr (congrArg Ledger.slots ledger) j]
    exact (State.record_withRecord_other (Ne.symm other)).trans there
  · have rises := (ordered p).2
    rw [classesInHand_eq, activeClass_of_idle idle, pushed] at rises
    rw [pushed] at member
    obtain rfl | below := List.mem_cons.mp member
    · exact higher
    · have sorted : ((s.breakin p).stack.map (fun r => r.klass.code)).reverse ++ [m.klass.code] |>.Pairwise (fun a b => a < b) := by
        simpa using rises
      exact ((List.pairwise_append.mp sorted).2.2 c (List.mem_reverse.mpr below) _ (by simp)).trans higher

/-- What a block does keeps the laws. -/
theorem BlockEffect.lawful {c : Instr} (effect : BlockEffect s c t) (laws : s.StoreLaws) : Lawful s t := by
  cases effect with
  | refresh p k => exact .of_steady laws (laws.refreshEntry p k) (refreshEntry_steady p k s)
  | enterBegin p f hd k closed fields allowed empty =>
    have room := Lawful.makeRoom laws
    have closed' : ((makeRoom s).entryOf p).filling = none := by
      rw [State.entryOf, entries_makeRoom]
      exact closed
    have gone : (makeRoom s).record k = none := by simpa using List.find?_some empty
    exact room.trans (.openEntry room.laws closed' gone hd)
  | append p k m chars short filling allowed =>
    exact .of_steady laws (laws.append short filling allowed) (appendAccepted_steady laws filling chars)
  | duplicate p k j m filling held => exact .duplicate laws filling held
  | accept p k m filling free => exact .accepted laws filling
  | cancel p k m filling => exact .cancel laws filling
  | purge k m record retained =>
    refine .reclaim laws fun v there => ?_
    obtain rfl : m = v := Option.some.inj (record.symm.trans there)
    exact retained
  | reroute p s₁ update =>
    rw [routingEffects_eq update.only]
    exact .rerouting laws update.only
  | fence p marks =>
    have sound : State.StoreLaws { s with fences := vmod s.fences p (fun _ => true) } := laws.of_ledger rfl
    exact ⟨sound, fun _ q _ => Nat.one_le_iff_ne_zero.mpr marks, id⟩
  | configure f => exact .still laws rfl rfl
  | list q es => exact .still laws rfl rfl
  | next p e es idle stack ranked =>
    obtain ⟨m, record, queued⟩ := queued_of_ranked ranked
    have flagged := (Lawful.refl laws).aside (.setStickyFlags p (e :: es) s)
    refine flagged.trans (.handOut (s := setStickyFlags p (e :: es) s) flagged.laws record queued idle fun _ c member => ?_)
    rw [show ((setStickyFlags p (e :: es) s).breakin p).stack = [] from stack] at member
    cases member
  | extend p k m d mark record handed deadline => exact .extend laws record handed deadline
  | dispose p k m d mark record handed r => exact .reported laws record handed r
  | enable p on => exact .switchEnable laws p on
  | suspend p h named token m e es pending active record ranked =>
    have flagged := (Lawful.refl laws).aside (.setStickyFlags p (e :: es) s)
    exact flagged.trans (.suspendAndHandOut (s := setStickyFlags p (e :: es) s) flagged.laws record active
      (State.slot_mem_of_ranked (ranked ▸ List.mem_cons_self)))
  | pop p r rest idle stack revoked => exact (Lawful.pop laws stack revoked).aside (.breakInCheck ..)
  | resume p r rest idle stack standing => exact .resume laws idle stack standing
  | hold p k m record queued => exact .holdMessage laws record queued p
  | release p k m r record held => exact .releaseMessage laws record held p
  | void p k m record traffic => exact .voidMessage laws record traffic p
  | amend k f m record traffic free => exact .amendMessage laws f record traffic free
  | note k m chars record traffic room segment => exact .note laws record traffic room segment chars
  | watch p on k m record entered => exact .watch laws record entered p on
  | fetch p => exact .still laws rfl rfl

end

end Sys2Proof.Machine
end

section
/-! The resets keep the laws, and with them every step (R48, R49, R119, R120, R182, R187, R188). -/

namespace Sys2Proof.Machine

section
variable {s t u : State} {k : SlotNo} {m n : Message} {p : Port}

/-! ### A record at a port reset -/

theorem Message.Waits.withWatchers (waits : m.Waits) (ports : PortSet) : ({ m with watchers := ports } : Message).Waits :=
  waits

theorem Message.Akin.withWatchers (akin : m.Akin n) (ports : PortSet) : m.Akin { n with watchers := ports } :=
  akin.trans (.of_custody rfl rfl (fun _ => rfl) rfl rfl)

/-- A message in p's custody waits after p's reset (R119). -/
theorem Message.afterPortReset_waits (held : m.custody.holder = some p) (now : Nat) (linkUp resolves : Bool) :
    (afterPortReset now p linkUp resolves m).Waits := by
  unfold Machine.afterPortReset
  dsimp only
  rw [if_pos held]
  exact (Message.returned_waits ..).withWatchers _

/-- Any other message is in the same hands after p's reset. -/
theorem Message.Akin.afterPortReset (other : m.custody.holder ≠ some p) (now : Nat) (linkUp resolves : Bool) :
    m.Akin (afterPortReset now p linkUp resolves m) := by
  have linked : m.Akin (if linkUp = true then m else Machine.rerouted now p resolves m) := by
    split
    · exact .refl m
    · exact .rerouted ..
  unfold Machine.afterPortReset
  dsimp only
  rw [if_neg other]
  exact linked.withWatchers _

/-- What leaves custody for a queue or a hold is entered and live before and after. -/
theorem Message.views_of_released (held : m.custody.holder.isSome = true) (waits : n.Waits) :
    n.fills = m.fills ∧ n.retainedRecord = m.retainedRecord := by
  have entered : m.custody ≠ .filling := fun filling => by rw [filling] at held; cases held
  rw [Message.fills_of_entered waits.entered, Message.fills_of_entered entered, waits.live, Message.live_of_holder held]
  exact ⟨rfl, rfl⟩

theorem Message.views_afterPortReset (now : Nat) (p : Port) (linkUp resolves : Bool) (m : Message) :
    (afterPortReset now p linkUp resolves m).fills = m.fills
      ∧ (afterPortReset now p linkUp resolves m).retainedRecord = m.retainedRecord := by
  by_cases held : m.custody.holder = some p
  · exact Message.views_of_released (by rw [held]; rfl) (Message.afterPortReset_waits held ..)
  · have akin := Message.Akin.afterPortReset held now linkUp resolves
    exact ⟨akin.fills, akin.retained⟩

theorem Message.holder_eq_of_grip {g : Port × Byte × Option (Class × Nat)} (grip : m.grip = some g) :
    m.custody.holder = some g.1 := by
  unfold Message.grip at grip
  cases custody : m.custody with
  | handed | suspended =>
    rw [custody, Option.some.injEq] at grip
    rw [← grip]
    rfl
  | filling | queued | held | disposed | void => rw [custody] at grip; cases grip

/-! ### The port reset (R182) -/

theorem entryAbandoned_steady (laws : s.StoreLaws) (p : Port) : Steady s (s.entryAbandoned p) := by
  obtain ⟨k, m, record, custody, port, eq⟩ | ⟨-, eq⟩ := entryAbandoned_cases laws.entriesAgree p
  · rw [eq]
    exact .freed (k := k) (m := m) ⟨record, rfl, rfl, rfl⟩ (Message.loose_of_filling custody).1 (fun _ => rfl)
      (fun _ => rfl) rfl
  · rw [eq]
    exact .of_slots rfl (fun _ => rfl) (fun _ => rfl) rfl

theorem Lawful.portSilenced (laws : s.StoreLaws) (p : Port) : Lawful s (s.portSilenced p) := by
  unfold State.portSilenced
  have ports (f : StationPort → StationPort) : Lawful s (s.modPort p f) := .still laws rfl rfl
  exact (ports _).trans (.of_steady (ports _).laws ((ports _).laws.entryAbandoned p) (entryAbandoned_steady (ports _).laws p))

/-- A record that stands once p's entry has ended stood before. -/
theorem record_of_portSilenced (laws : s.StoreLaws) (there : (s.portSilenced p).record k = some m) :
    s.record k = some m := by
  obtain ⟨freed, still⟩ := portSilenced_slot (p := p) laws.entriesAgree k
  by_cases fills : s.FillsOn p k
  · rw [State.record_eq, freed fills] at there
    cases there
  · rw [State.record_eq, still fills] at there
    exact there

/-- A record after the port reset, from what it was before. -/
theorem record_portReset (laws : s.StoreLaws) (there : (s.portSilenced p).record k = some m) :
    (s.portReset p).record k
      = some (afterPortReset s.seconds p (s.links.get p) ((setLink p true s).resolve m.area).isSome m) := by
  rw [State.record_eq, portReset_slot laws.handoffsAgree k]
  change ((s.portSilenced p).record k).map _ = _
  rw [there, Option.map_some, Message.throughPortReset_eq laws.handoffsAgree (record_of_portSilenced laws there)]

/-- A message in hand stands while p's entry ends. -/
theorem record_portSilenced_of_holder (laws : s.StoreLaws) (record : s.record k = some m)
    (held : m.custody.holder.isSome = true) : (s.portSilenced p).record k = some m := by
  have not : ¬ s.FillsOn p k := by
    rintro ⟨v, there, filling, -⟩
    obtain rfl : m = v := Option.some.inj (record.symm.trans there)
    rw [filling] at held
    cases held
  rw [State.record_eq, (portSilenced_slot laws.entriesAgree k).2 not]
  exact record

/-- The handoffs of the other ports stand at a port reset, and those of p end (R119, R140). -/
theorem grips_portReset (laws : s.StoreLaws) (p : Port) : (s.portReset p).GripsAgree := by
  have silenced := Lawful.portSilenced laws p
  have hands (q : Port) : (s.portSilenced p).breakin q = s.breakin q := by
    rw [State.portSilenced, entryAbandoned_frame]
    rfl
  refine silenced.laws.grips.releaseAll (ended := fun q => q = p) (fun k g => ?_) (fun k _ => ?_) (fun q same => ?_)
    (fun q other => ?_)
  · cases there : (s.portSilenced p).record k with
    | none =>
      have gone : (s.portReset p).record k = none := by
        rw [State.record_eq, portReset_slot laws.handoffsAgree k]
        change ((s.portSilenced p).record k).map _ = _
        rw [there]
        rfl
      rw [State.gripAt, gone, State.gripAt, there]
      simp
    | some m =>
      rw [State.gripAt_of_record there, State.gripAt_of_record (record_portReset laws there)]
      by_cases held : m.custody.holder = some p
      · rw [Message.grip_of_loose (Message.afterPortReset_waits held ..).loose]
        refine ⟨nofun, fun ⟨grip, other⟩ => absurd ?_ other⟩
        exact Option.some.inj ((Message.holder_eq_of_grip grip).symm.trans held)
      · rw [(Message.Akin.afterPortReset held ..).grip]
        exact ⟨fun grip => ⟨grip, fun same => held (same ▸ Message.holder_eq_of_grip grip)⟩, fun both => both.1⟩
  · rw [State.handleOf, portReset_slot laws.handoffsAgree k]
    rfl
  · rw [State.openRecords, (portReset_breakin q).1 same]
    exact ⟨rfl, rfl⟩
  · have handling := (portReset_breakin (s := s) q).2 other
    rw [State.openRecords, active_of_handling handling, stack_of_handling handling, hands]
    exact ⟨rfl, by rw [State.openRecords, hands]⟩

theorem State.StoreLaws.portReset (laws : s.StoreLaws) (p : Port) : (s.portReset p).StoreLaws := by
  have silenced := (Lawful.portSilenced laws p).laws
  obtain ⟨free, list⟩ := portReset_pool (p := p) (s := s)
  have entries : (s.portReset p).entries = (s.portSilenced p).entries := by
    rw [portReset_frame, State.portSilenced, entryAbandoned_frame]
    rfl
  refine silenced.putAll (portReset_slot laws.handoffsAgree) (fun k m there => ?_) free entries list (grips_portReset laws p)
  rw [Message.throughPortReset_eq laws.handoffsAgree (record_of_portSilenced laws there)]
  exact ⟨(silenced.records k m there).afterPortReset .., afterPortReset_segments .., Message.views_afterPortReset ..⟩

/-- A pending fence of another port waits through the port reset of p; p's own is cleared (R81, R119). -/
theorem fencesWait_portReset (laws : s.StoreLaws) (p : Port) (waits : s.fencesWait) : (s.portReset p).fencesWait := by
  have frame := portLinked_recordsOnly (p := p) (s := s)
  have linked : (s.portLinked p).fencesWait := by
    refine fencesWait_of_marked (s := s) (fun q pending => ?_) (fun k m record marked => ?_) waits
    · rw [show (s.portLinked p).fences = vmod s.fences p (fun _ => false) by rw [frame.frame]; rfl, get_vmod] at pending
      split at pending
      · cases pending
      · exact pending
    · have there := record_portSilenced_of_holder (p := p) laws record (Message.holder_of_marked marked)
      rw [State.record_eq, portLinked_slot k]
      change ∃ n, ((s.portSilenced p).record k).map _ = some n ∧ _
      rw [there, Option.map_some]
      refine ⟨_, rfl, ?_⟩
      split
      · exact marked
      · exact (Message.Akin.rerouted ..).marked marked
  have returned : (s.portReturned p).fencesWait := by
    unfold State.portReturned
    rw [← settleFences_eq]
    refine fencesWait_settled ?_ linked
    rw [(foldl_handedBack_recordsOnly p (s.handoffsOf p) _).frame]
    rfl
  refine fencesWait_of_marked (s := s.portReturned p) (fun _ => id) (fun k m record marked => ?_) returned
  refine ⟨{ m with watchers := m.watchers.set p.val false p.isLt }, ?_, marked⟩
  have slot : (s.portReset p).slot k = { (s.portReturned p).slot k with
      record := ((s.portReturned p).slot k).record.map (fun m =>
        { m with watchers := m.watchers.set p.val false p.isLt }) } := get_vmap ..
  rw [State.record_eq, slot]
  change ((s.portReturned p).record k).map _ = _
  rw [record]
  rfl

theorem Lawful.portReset (laws : s.StoreLaws) (p : Port) : Lawful s (s.portReset p) := by
  refine ⟨laws.portReset p, fencesWait_portReset laws p, stacksOrdered_of_sublist fun q => ?_⟩
  by_cases same : q = p
  · rw [classesInHand_eq, (portReset_breakin q).1 same, activeClass_of_idle (by rw [(portReset_breakin q).1 same]; rfl)]
    exact ⟨Nat.zero_le _, List.nil_sublist _⟩
  · have handling := (portReset_breakin (s := s) q).2 same
    have stack := stack_of_handling handling
    rw [classesInHand_congr (by rw [stack]) (activeClass_congr (active_of_handling handling) fun a active => ?_), stack]
    · exact ⟨Nat.le_refl _, List.Sublist.refl _⟩
    · obtain ⟨m, d, mark, -, record, -, handed⟩ := laws.handed_of_active active
      have there := record_portSilenced_of_holder (p := p) laws record (by rw [handed]; rfl)
      have other : m.custody.holder ≠ some p := by
        rw [handed]
        exact fun is => same (Option.some.inj is)
      rw [record, record_portReset laws there, Option.map_some, Option.map_some,
        (Message.Akin.afterPortReset other ..).klass (by rw [handed]; rfl)]

/-! ### The warm reset (R188) -/

theorem Message.Akin.warmResolve (now : Nat) (resolves : Bool) (m : Message) : m.Akin (warmResolve now resolves m) := by
  have segments := Message.segments_of_content (warmResolve_content now resolves m)
  unfold Machine.warmResolve at segments ⊢
  cases custody : m.custody with
  | queued =>
    rw [custody] at segments
    refine .of_waits (.inl custody) ?_ segments
    cases resolves with
    | true => exact .inl custody
    | false => exact .inr ⟨_, Message.log_custody ..⟩
  | held r =>
    rw [custody] at segments
    refine .of_waits (.inr ⟨r, custody⟩) ?_ segments
    cases r with
    | unrouted =>
      cases resolves with
      | false => exact .inr ⟨_, custody⟩
      | true =>
        simp only [if_true]
        split
        · exact .inr ⟨_, Message.log_custody ..⟩
        · exact .inl rfl
    | bounceLimit | refused | deadlinePassed | control => exact .inr ⟨_, custody⟩
  | filling | handed | suspended | disposed | void => exact .refl m

theorem Message.warmReturn_waits (held : m.custody.holder.isSome = true) (now : Nat) : (warmReturn now m).Waits := by
  obtain ⟨p, holder⟩ := Option.isSome_iff_exists.mp held
  rw [warmReturn_of_held now holder]
  split
  · exact .inr ⟨_, Message.log_custody ..⟩
  · exact .inl rfl

/-- After a warm reset no message is in custody; a message is FILLING or retained as it was. -/
theorem Message.views_warmRecord (s : State) (m : Message) : (warmRecord s m).custody.holder = none
    ∧ (warmRecord s m).fills = m.fills ∧ (warmRecord s m).retainedRecord = m.retainedRecord := by
  have akin : (warmReturn s.seconds m).Akin (warmRecord s m) := (Message.Akin.warmResolve ..).withWatchers _
  cases holder : m.custody.holder with
  | none =>
    rw [warmReturn_of_loose s.seconds holder] at akin
    refine ⟨?_, akin.fills, akin.retained⟩
    by_contra held
    have grip := Message.holder_of_grip (m := warmRecord s m) (akin.grip.trans (Message.grip_of_loose holder))
    exact grip (Option.isSome_iff_ne_none.mpr held)
  | some p =>
    have held : m.custody.holder.isSome = true := by rw [holder]; rfl
    have waits := Message.warmReturn_waits held s.seconds
    obtain ⟨fills, retained⟩ := Message.views_of_released held waits
    refine ⟨?_, akin.fills.trans fills, akin.retained.trans retained⟩
    by_contra held'
    have grip := Message.holder_of_grip (m := warmRecord s m) (akin.grip.trans (Message.grip_of_loose waits.loose))
    exact grip (Option.isSome_iff_ne_none.mpr held')

theorem State.StoreLaws.warmReset (laws : s.StoreLaws) (straps : Straps) : (warmReset straps s).StoreLaws := by
  obtain ⟨ended, -, -⟩ := foldl_entryAbandoned nodup_allPorts laws
  obtain ⟨u, isU⟩ : ∃ u, u = allPorts.foldl State.entryAbandoned s := ⟨_, rfl⟩
  have entries : u.entries = Vector.replicate 4 EntryContext.closed := by
    apply vector_ext
    intro q
    rw [isU]
    refine ((foldl_entryAbandoned_frame allPorts s).2 q).trans ((if_pos (mem_allPorts q)).trans ?_)
    simp [Vector.get_eq_getElem]
  have frame := warmReset_eq (s := s) straps
  rw [← isU] at ended frame
  have slot (k : SlotNo) : (Machine.warmReset straps s).slot k
      = { u.slot k with record := (u.record k).map (warmRecord s.warmLinked) } := by
    rw [frame]
    exact get_vmap ..
  have record (k : SlotNo) : (Machine.warmReset straps s).record k = (u.record k).map (warmRecord s.warmLinked) :=
    congrArg Slot.record (slot k)
  have cleared (q : Port) : (Machine.warmReset straps s).breakin q = BreakIn.cleared := by
    rw [frame]
    simp [State.breakin, Vector.get_eq_getElem, BreakIn.cleared]
  have loose (k : SlotNo) : (Machine.warmReset straps s).gripAt k = none := by
    rw [State.gripAt, record]
    cases u.record k with
    | none => rfl
    | some m => exact Message.grip_of_loose (Message.views_warmRecord ..).1
  refine ended.putAll (f := fun _ => warmRecord s.warmLinked) slot (fun k m there => ?_) (by rw [frame]) ?_ (by rw [frame]) ?_
  · obtain ⟨-, fills, retained⟩ := Message.views_warmRecord s.warmLinked m
    refine ⟨(ended.records k m there).warmRecord _, ?_, fills, retained⟩
    rw [warmRecord_eq, afterWarmReset_segments]
  · rw [entries, frame]
    rfl
  · refine ended.grips.releaseAll (ended := fun _ => True) (fun k g => ?_) (fun k _ => ?_) (fun q _ => ?_)
      (fun q other => absurd trivial other)
    · rw [loose]
      simp
    · rw [State.handleOf, slot]
      rfl
    · rw [State.openRecords, cleared]
      exact ⟨rfl, rfl⟩

theorem Lawful.warmReset (laws : s.StoreLaws) (straps : Straps) : Lawful s (warmReset straps s) := by
  have cleared (q : Port) : (Machine.warmReset straps s).breakin q = BreakIn.cleared := by
    rw [warmReset_eq]
    simp [State.breakin, Vector.get_eq_getElem, BreakIn.cleared]
  refine ⟨laws.warmReset straps, fun _ q pending => ?_, stacksOrdered_of_sublist fun q => ?_⟩
  · have none : (Machine.warmReset straps s).fences.get q = false := by
      rw [warmReset_eq]
      simp [Vector.get_eq_getElem]
    rw [none] at pending
    cases pending
  · rw [classesInHand_eq, cleared, activeClass_of_idle (by rw [cleared]; rfl)]
    exact ⟨Nat.zero_le _, List.nil_sublist _⟩

/-! ### Every command (R182 to R188) -/

theorem Lawful.eventEffect (laws : s.StoreLaws) {c : Instr} (notCold : ∀ straps lines, c ≠ .coldReset straps lines) :
    Lawful s (eventEffect c s) := by
  have ticked := Lawful.takeTicksAt laws allSlots
  cases c with
  | coldReset straps lines => exact absurd rfl (notCold straps lines)
  | selectFall p =>
    change Lawful s (beginExchange p s)
    unfold beginExchange
    split
    · exact .still laws rfl rfl
    · exact .refl laws
  | exchange p bytes extraBits =>
    change Lawful s (endExchange p bytes s)
    unfold endExchange
    split
    · exact .refl laws
    · exact .still laws rfl rfl
  | tick =>
    change Lawful s (tickOnce s)
    unfold tickOnce
    split
    · exact ticked.trans (.still ticked.laws rfl rfl)
    · exact .refl laws
  | entryIdleTimeout => exact .takeEntryTick laws
  | leaseExpiry => exact .takeLeaseTick laws allSlots
  | deliveryDeadlineExpiry => exact .takeDeadlineTick laws allSlots
  | portReset p =>
    change Lawful s (assertPortReset p s)
    unfold assertPortReset
    rw [resetPort_eq]
    split
    · exact .refl laws
    · exact ticked.trans (.portReset ticked.laws p)
  | warmReset straps =>
    change Lawful s (assertDeviceReset straps s)
    unfold assertDeviceReset
    split
    · exact .refl laws
    · exact ticked.trans (.warmReset ticked.laws straps)
  | supplyBelowWorkingLevel seen => cases seen <;> exact .still laws rfl rfl
  | _ => exact .still laws rfl rfl

/-- Every command but the cold reset keeps the laws. -/
theorem exec_lawful (laws : s.StoreLaws) {c : Instr} (notCold : ∀ straps lines, c ≠ .coldReset straps lines)
    (next : exec c s = .next t) : Lawful s t := by
  obtain still | ⟨p, rq, -, -, acted⟩ | ⟨-, event⟩ := exec_cases c s
  · rw [still, Host.Outcome.next.injEq] at next
    exact next ▸ .refl laws
  · rw [acted, Host.Outcome.next.injEq] at next
    subst next
    have before := Lawful.ticksBefore laws c
    obtain same | ⟨-, effect⟩ := blockAct_outcome c (ticksBefore c s)
    · rw [same]
      exact before.trans (.still before.laws rfl rfl)
    · have after := before.trans (effect.lawful before.laws)
      exact after.trans (.still after.laws rfl rfl)
  · rw [event, Host.Outcome.next.injEq] at next
    exact next ▸ .eventEffect laws notCold

/-- Settles O58: each command's effect is one of the changes with a rule of its own. -/
theorem everyStepKeepsTheStoreSound : Obligations.EveryStepKeepsTheStoreSound := by
  intro s t sound next
  rw [State.storeSound_iff] at sound ⊢
  refine law_of_step (law := State.StoreLaws) (fun s cs laws => laws.of_ledger rfl) (fun straps lines cs => ?_)
    (fun c s t notCold next laws => (exec_lawful laws notCold next).laws) sound next
  exact ((State.storeSound_iff _).mp (storeSound_cold straps lines)).of_ledger rfl

end

end Sys2Proof.Machine
end

section
/-! Entry numbers and duplicate keys stay distinct through every move (R8, R17). -/

namespace Sys2Proof.Machine

section
variable {s t u : State} {k : SlotNo} {m n : Message} {p : Port}

/-! ### Entry numbers (R8) -/

/-- Each entry of t is an entry of the same slot in s. -/
theorem numbersDistinct_of_entries (next : 1 ≤ t.nextEntryNumber ∧ t.nextEntryNumber ≤ 4294967295)
    (each : ∀ k n, t.record k = some n → n.entry = none ∨ ∃ m, s.record k = some m ∧ n.entry = m.entry)
    (distinct : s.numbersDistinct) : t.numbersDistinct := by
  obtain ⟨-, -, apart⟩ := distinct
  refine ⟨next.1, next.2, fun j a recordA k b recordB other live same => ?_⟩
  obtain none | ⟨m, was, entry⟩ := each j a recordA
  · rw [none] at live
    cases live
  · obtain none | ⟨v, was', entry'⟩ := each k b recordB
    · rw [none, Option.map_none, Option.map_eq_none_iff] at same
      rw [same] at live
      cases live
    · rw [entry] at live same
      rw [entry'] at same
      exact apart j m was k v was' other live same

/-- A message that gets a number that none has. -/
theorem numbersDistinct_numbered (wrote : Wrote s k n t) {e : Entry} (entry : n.entry = some e)
    (fresh : s.numberInUse e.number = false) (next : 1 ≤ t.nextEntryNumber ∧ t.nextEntryNumber ≤ 4294967295)
    (distinct : s.numbersDistinct) : t.numbersDistinct := by
  have unused {j : SlotNo} {a : Message} (record : s.record j = some a) :
      a.entry.map (fun e => e.number) ≠ some e.number := by
    intro same
    obtain ⟨x, is, number⟩ := Option.map_eq_some_iff.mp same
    have inUse := (numberInUse_iff s e.number).mpr ⟨j, a, x, record, is, number⟩
    rw [fresh] at inUse
    cases inUse
  obtain ⟨-, -, apart⟩ := distinct
  refine ⟨next.1, next.2, fun j a recordA i b recordB other live same => ?_⟩
  by_cases jk : j = k
  · rw [jk, wrote.record_same, Option.some.injEq] at recordA
    rw [wrote.record_other (fun ik => other (jk.trans ik.symm))] at recordB
    rw [← recordA, entry, Option.map_some] at same
    exact unused recordB same.symm
  · rw [wrote.record_other jk] at recordA
    by_cases ik : i = k
    · rw [ik, wrote.record_same, Option.some.injEq] at recordB
      rw [← recordB, entry, Option.map_some] at same
      exact unused recordA same
    · rw [wrote.record_other ik] at recordB
      exact apart j a recordA i b recordB other live same

/-! ### Duplicate keys (R17) -/

theorem Message.key_of_identity (same : n.identity = m.identity) :
    n.origin = m.origin ∧ n.serial = m.serial ∧ n.day = m.day ∧ n.entry = m.entry := by
  simp only [Message.identity, Prod.mk.injEq] at same
  exact same.2

/-- Each message of t that holds its key held it in s. -/
theorem keysDistinct_of_holders (each : ∀ k n, t.record k = some n → n.holdsKey = true →
      ∃ m, s.record k = some m ∧ m.holdsKey = true ∧ n.origin = m.origin ∧ n.serial = m.serial ∧ n.day = m.day)
    (distinct : s.keysDistinct) : t.keysDistinct := by
  intro j a recordA k b recordB other holdsA holdsB same
  obtain ⟨m, was, holds, origin, serial, day⟩ := each j a recordA holdsA
  obtain ⟨v, was', holds', origin', serial', day'⟩ := each k b recordB holdsB
  refine distinct j m was k v was' other holds holds' ?_
  rw [← origin, ← serial, ← day, ← origin', ← serial', ← day']
  exact same

/-- A message that comes to hold a key that none holds. -/
theorem keysDistinct_entered (wrote : Wrote s k n t) (free : ∀ j u, s.record j = some u → u.holdsKey = true →
      ¬ (u.origin = n.origin ∧ u.serial = n.serial ∧ u.day = n.day)) (distinct : s.keysDistinct) : t.keysDistinct := by
  intro j a recordA i b recordB other holdsA holdsB same
  by_cases jk : j = k
  · rw [jk, wrote.record_same, Option.some.injEq] at recordA
    rw [wrote.record_other (fun ik => other (jk.trans ik.symm))] at recordB
    rw [← recordA] at same
    exact free i b recordB holdsB ⟨same.1.symm, same.2.1.symm, same.2.2.symm⟩
  · rw [wrote.record_other jk] at recordA
    by_cases ik : i = k
    · rw [ik, wrote.record_same, Option.some.injEq] at recordB
      rw [← recordB] at same
      exact free j a recordA holdsA same
    · rw [wrote.record_other ik] at recordB
      exact distinct j a recordA i b recordB other holdsA holdsB same

/-! ### Every move -/

/-- The entry numbers and the keys of t are distinct where those of s are. -/
structure Distinguishes (s t : State) : Prop where
  numbers : s.numbersDistinct → t.numbersDistinct
  keys : s.keysDistinct → t.keysDistinct

theorem Distinguishes.trans (first : Distinguishes s t) (second : Distinguishes t u) : Distinguishes s u :=
  ⟨fun distinct => second.numbers (first.numbers distinct), fun distinct => second.keys (first.keys distinct)⟩

/-- The messages of t follow messages of s in the same slots. -/
theorem Distinguishes.of_follows (next : t.nextEntryNumber = s.nextEntryNumber)
    (each : ∀ k n, t.record k = some n → ∃ m, s.record k = some m ∧ n.identity = m.identity
      ∧ (n.holdsKey = true → m.holdsKey = true)) : Distinguishes s t := by
  refine ⟨fun distinct => numbersDistinct_of_entries (s := s) ?_ (fun k n record => .inr ?_) distinct,
    keysDistinct_of_holders fun k n record holds => ?_⟩
  · rw [next]
    exact ⟨distinct.1, distinct.2.1⟩
  · obtain ⟨m, was, identity, -⟩ := each k n record
    exact ⟨m, was, (Message.key_of_identity identity).2.2.2⟩
  · obtain ⟨m, was, identity, held⟩ := each k n record
    obtain ⟨origin, serial, day, -⟩ := Message.key_of_identity identity
    exact ⟨m, was, held holds, origin, serial, day⟩

theorem Distinguishes.of_slots (slots : t.slots = s.slots) (next : t.nextEntryNumber = s.nextEntryNumber) :
    Distinguishes s t :=
  .of_follows next fun k n record => ⟨n, (State.record_congr slots k).symm.trans record, rfl, id⟩

theorem Maps.distinguishes {f : SlotNo → Message → Message} (maps : Maps s f t)
    (next : t.nextEntryNumber = s.nextEntryNumber)
    (each : ∀ k m, s.record k = some m → (f k m).identity = m.identity ∧ ((f k m).holdsKey = true → m.holdsKey = true)) :
    Distinguishes s t := by
  refine .of_follows next fun k n record => ?_
  rw [State.record_eq, maps k] at record
  obtain ⟨m, was, rfl⟩ := Option.map_eq_some_iff.mp record
  exact ⟨m, was, each k m was⟩

theorem Move.distinguishes (move : Move True s t) : Distinguishes s t := by
  cases move with
  | records f maps each settings =>
    exact maps.distinguishes (congrArg Settings.nextEntryNumber settings) fun k m record =>
      ⟨(each k m record).identity, (each k m record).holds trivial⟩
  | routing f maps each placed next =>
    exact maps.distinguishes next fun k m record => ⟨(each k m record).identity, (each k m record).holds trivial⟩
  | scored slots settings => exact .of_slots slots (congrArg Settings.nextEntryNumber settings)
  | freed k full slot settings =>
    refine .of_follows (congrArg Settings.nextEntryNumber settings) fun j n record => ?_
    rw [State.record_eq, slot] at record
    split at record
    · cases record
    · exact ⟨n, record, rfl, id⟩
  | numbered k m n e record filling entry fresh slots next settings =>
    have wrote : Wrote s k n t := ⟨slots⟩
    refine ⟨numbersDistinct_numbered wrote entry fresh next, keysDistinct_of_holders fun j v there holds => ?_⟩
    by_cases at_k : j = k
    · rw [at_k, wrote.record_same, Option.some.injEq] at there
      rw [← there, Message.holdsKey, filling] at holds
      cases holds
    · rw [wrote.record_other at_k] at there
      exact ⟨v, there, holds, rfl, rfl, rfl⟩
  | entered k m n record identity queued free slots settings =>
    have wrote : Wrote s k n t := ⟨slots⟩
    have next : t.nextEntryNumber = s.nextEntryNumber := congrArg Settings.nextEntryNumber settings
    refine ⟨fun distinct => numbersDistinct_of_entries (s := s) (by rw [next]; exact ⟨distinct.1, distinct.2.1⟩)
      (fun j v there => .inr ?_) distinct, keysDistinct_entered wrote free⟩
    by_cases at_k : j = k
    · rw [at_k, wrote.record_same, Option.some.injEq] at there
      exact ⟨m, at_k ▸ record, there ▸ (Message.key_of_identity identity).2.2.2⟩
    · rw [wrote.record_other at_k] at there
      exact ⟨v, there, rfl⟩

theorem Moves.distinguishes (moves : Moves True s t) : Distinguishes s t :=
  moves.induct (law := Distinguishes s) (fun move before => before.trans move.distinguishes) ⟨id, id⟩

/-- The entry that is opened has no number and holds no key. -/
theorem Opens.distinguishes {c : Instr} {f : EnterBeginFields} {hd : Header} (opens : Opens True c s t p f hd k u) :
    Distinguishes s t := by
  refine opens.moves.distinguishes.trans ⟨fun distinct => numbersDistinct_of_entries (s := u) ?_ (fun j n record => ?_)
    distinct, keysDistinct_of_holders fun j n record holds => ?_⟩
  · rw [show t.nextEntryNumber = u.nextEntryNumber from congrArg Settings.nextEntryNumber opens.settings]
    exact ⟨distinct.1, distinct.2.1⟩
  · rw [State.record_eq, opens.slot] at record
    split at record
    · rw [← Option.some.inj record]
      exact .inl rfl
    · exact .inr ⟨n, record, rfl⟩
  · rw [State.record_eq, opens.slot] at record
    split at record
    · rw [← Option.some.inj record] at holds
      cases holds
    · exact ⟨n, record, holds, rfl, rfl, rfl⟩

/-! ### O60 -/

theorem exec_distinguishes (laws : s.StoreLaws) {c : Instr} (notCold : ∀ straps lines, c ≠ .coldReset straps lines)
    (next : exec c s = .next t) : Distinguishes s t := by
  have ticked := (Lawful.takeTicksAt laws allSlots).laws
  have before := (Lawful.ticksBefore laws c).laws
  obtain moves | ⟨p, f, hd, k, u, opens⟩ := exec_moves (strict := True) notCold
    (fun _ => ⟨(State.storeSound_iff _).mpr ticked, (State.storeSound_iff _).mpr before⟩) next
  · exact moves.distinguishes
  · exact opens.distinguishes

/-- A law that every command keeps in a sound store, and that a cold reset establishes. -/
theorem sound_law_of_step {law : State → Prop} (waiting : ∀ u cs, law u → law { u with pending := cs })
    (cold : ∀ straps lines, law (State.cold straps lines))
    (each : ∀ c u v, u.StoreLaws → (∀ straps lines, c ≠ .coldReset straps lines) → exec c u = .next v → law u → law v)
    (laws : s.StoreLaws) (before : law s) (next : step s = .next t) : law t := by
  refine (law_of_step (law := fun u => u.StoreLaws ∧ law u) (fun u cs both => ⟨both.1.of_ledger rfl, waiting u cs both.2⟩)
    (fun straps lines cs => ⟨?_, waiting _ cs (cold straps lines)⟩) (fun c u v notCold next both => ?_) ⟨laws, before⟩ next).2
  · exact ((State.storeSound_iff _).mp (storeSound_cold straps lines)).of_ledger rfl
  · exact ⟨(exec_lawful both.1 notCold next).laws, each c u v both.1 notCold next both.2⟩

/-- Settles O60: the numbers and keys by the moves of every command, the fences with the laws of the store. -/
theorem everyStepKeepsMarksNumbersAndKeys : Obligations.EveryStepKeepsMarksNumbersAndKeys := by
  intro s t sound next
  have laws := (State.storeSound_iff s).mp sound
  refine ⟨fun waits => ?_, fun distinct => ?_, fun distinct => ?_⟩
  · exact sound_law_of_step (law := State.fencesWait) (fun _ _ => id) (fun _ _ => (lawful_cold ..).fences)
      (fun c u v laws notCold next => (exec_lawful laws notCold next).fences) laws waits next
  · exact sound_law_of_step (law := State.numbersDistinct) (fun _ _ => id) (fun _ _ => (lawful_cold ..).numbers)
      (fun c u v laws notCold next => (exec_distinguishes laws notCold next).numbers) laws distinct next
  · exact sound_law_of_step (law := State.keysDistinct) (fun _ _ => id) (fun _ _ => (lawful_cold ..).keys)
      (fun c u v laws notCold next => (exec_distinguishes laws notCold next).keys) laws distinct next

end

end Sys2Proof.Machine
end

section
/-! What keeps every port's call in order: the rules for a record written, a slot freed, an active handoff given, taken or
suspended, and a message that leaves its queue (R99, R126 to R128, R164). -/

namespace Sys2Proof.Machine

section
variable {s t u : State} {k : SlotNo} {m n : Message} {p q : Port}

/-! ### One port's call -/

/-- A handle that is not pending has not ceased to qualify. -/
theorem State.Called.of_other {h : Handle} {named : Option Handle} (called : s.Called p (some h) named)
    (other : (s.breakin p).pending ≠ some h) : s.Called p none named :=
  ⟨fun j is _ => called.pending j is fun same => other (is.trans same.symm), called.notices⟩

/-- Where the port has no active handoff nothing is pending (R126). -/
theorem State.Called.pending_of_idle {named : Option Handle} (called : s.Called p none named)
    (idle : (s.breakin p).active = none) : (s.breakin p).pending = none := by
  cases pending : (s.breakin p).pending with
  | none => rfl
  | some h =>
    obtain ⟨m, c, -, active, -⟩ := (called.pending h pending nofun).higher
    rw [activeClass_of_idle idle] at active
    cases active

/-- The notices of a call, where what is pending stands, whether it qualifies or not. -/
theorem State.Called.of_notices {ceased named : Option Handle} (called : s.Called p ceased named)
    (pending : (t.breakin p).pending = (s.breakin p).pending)
    (notices : ∀ n ∈ (t.noticeQueue p).items, n.kind = .breakIn → n ∈ (s.noticeQueue p).items) :
    t.Called p (t.breakin p).pending named := by
  refine ⟨fun h is other => absurd is other, fun n member kind => ?_⟩
  rw [pending]
  exact called.notices n (notices n member kind) kind

/-- What p's call reads of s and finds in t: its break-in state and its notices. -/
structure Within (s t : State) (p : Port) : Prop where
  enable : (t.breakin p).enable = (s.breakin p).enable
  pending : (t.breakin p).pending = (s.breakin p).pending
  notices : ∀ n ∈ (t.noticeQueue p).items, n.kind = .breakIn → n ∈ (s.noticeQueue p).items
  resolve : ∀ area, t.resolve area = s.resolve area

theorem Within.of_eq (breakins : t.breakins = s.breakins) (queues : t.noticeQueues = s.noticeQueues)
    (settings : t.settings = s.settings) (p : Port) : Within s t p := by
  have breakin : t.breakin p = s.breakin p := by rw [State.breakin, breakins]; rfl
  have queue : t.noticeQueue p = s.noticeQueue p := by rw [State.noticeQueue, queues]; rfl
  exact ⟨by rw [breakin], by rw [breakin], fun n member _ => queue ▸ member, State.resolve_of_settings settings⟩

/-- The call of p where its queue stands or rises in class. -/
theorem State.Called.of_queued {ceased named : Option Handle} (called : s.Called p ceased named) (within : Within s t p)
    (active : t.activeClass p = s.activeClass p)
    (queued : ∀ k m, s.record k = some m → m.custody = .queued → ceased ≠ some (s.handleOf k) →
      t.handleOf k = s.handleOf k
      ∧ ∃ n, t.record k = some n ∧ n.custody = .queued ∧ n.area = m.area ∧ m.klass.code ≤ n.klass.code) :
    t.Called p ceased named := by
  refine called.of_same within.pending within.notices fun h is other qualifies => ?_
  obtain ⟨on, current, member, m, c, record, hand, higher⟩ := qualifies
  obtain ⟨v, there, queue, resolves⟩ := State.queueOf_eq_some member
  obtain rfl : m = v := Option.some.inj (record.symm.trans there)
  obtain ⟨handle, n, record', queue', area, rises⟩ := queued h.slot m record queue (by rw [current]; exact other)
  refine ⟨within.enable.trans on, handle.trans current, ?_, n, c, record', active.trans hand, by omega⟩
  rw [State.queueOf, record']
  dsimp only
  rw [if_pos queue', area, within.resolve]
  exact resolves

/-! ### Records -/

/-- The active handoffs are not of the message in slot k, or its class stands. -/
theorem activeClass_of_wrote_away (wrote : Wrote s k n t) (record : s.record k = some m)
    (active : (t.breakin p).active = (s.breakin p).active)
    (away : ∀ a, (s.breakin p).active = some a → a.handle.slot = k → n.klass = m.klass) :
    t.activeClass p = s.activeClass p := by
  refine activeClass_congr active fun a is => ?_
  by_cases at_k : a.handle.slot = k
  · rw [at_k, wrote.record_same, record, Option.map_some, Option.map_some, away a is at_k]
  · rw [wrote.record_other at_k]

/-- A record is written that was not QUEUED, or stays in its queue and falls not in class. -/
theorem State.Called.wrote {ceased named : Option Handle} (called : s.Called p ceased named) (record : s.record k = some m)
    (wrote : Wrote s k n t) (within : Within s t p) (active : (t.breakin p).active = (s.breakin p).active)
    (stays : m.custody = .queued → ceased ≠ some (s.handleOf k) →
      n.custody = .queued ∧ n.area = m.area ∧ m.klass.code ≤ n.klass.code)
    (away : ∀ a, (s.breakin p).active = some a → a.handle.slot = k → n.klass = m.klass) : t.Called p ceased named := by
  refine called.of_queued within (activeClass_of_wrote_away wrote record active away) fun j v there queued other =>
    ⟨wrote.handle j, ?_⟩
  by_cases at_k : j = k
  · subst at_k
    obtain rfl : m = v := Option.some.inj (record.symm.trans there)
    exact ⟨n, wrote.record_same, stays queued other⟩
  · exact ⟨v, (wrote.record_other at_k).trans there, queued, rfl, Nat.le_refl _⟩

/-- A record is written: what it held in its queue may have ceased to qualify. -/
theorem State.Called.ceases {named : Option Handle} (called : s.Called p none named) (record : s.record k = some m)
    (wrote : Wrote s k n t) (within : Within s t p) (active : (t.breakin p).active = (s.breakin p).active)
    (away : ∀ a, (s.breakin p).active = some a → a.handle.slot = k → n.klass = m.klass) :
    t.Called p (some (s.handleOf k)) named := by
  have weaker : s.Called p (some (s.handleOf k)) named := ⟨fun h is _ => called.pending h is nofun, called.notices⟩
  exact weaker.wrote record wrote within active (fun _ other => absurd rfl other) away

/-- No active handoff is of a message that is not HANDED (R122). -/
theorem State.StoreLaws.away (laws : s.StoreLaws) (record : s.record k = some m)
    (not : ∀ d mark, m.custody ≠ .handed p d mark) {α : Prop} (a : Handoff) (active : (s.breakin p).active = some a)
    (at_k : a.handle.slot = k) : α := by
  obtain ⟨v, d, mark, -, there, -, handed⟩ := laws.handed_of_active active
  rw [at_k, record, Option.some.injEq] at there
  exact absurd (there ▸ handed) (not d mark)

/-- A record written beside the breakins and the notices. -/
structure Written (s : State) (k : SlotNo) (n : Message) (t : State) : Prop extends Wrote s k n t where
  breakins : t.breakins = s.breakins
  queues : t.noticeQueues = s.noticeQueues
  settings : t.settings = s.settings

theorem Written.within (written : Written s k n t) (p : Port) : Within s t p :=
  .of_eq written.breakins written.queues written.settings p

theorem Written.active (written : Written s k n t) (p : Port) : (t.breakin p).active = (s.breakin p).active := by
  rw [State.breakin, written.breakins]
  rfl

theorem written_withRecord (s : State) (k : SlotNo) (n : Message) : Written s k n (s.withRecord k n) :=
  ⟨⟨rfl⟩, rfl, rfl, rfl⟩

theorem written_retained (s : State) (k : SlotNo) (n : Message) (hs : List Handle) :
    Written s k n { s.withRecord k n with retained := hs } :=
  ⟨⟨rfl⟩, rfl, rfl, rfl⟩

theorem Heeds.wrote (record : s.record k = some m) (written : Written s k n t)
    (stays : m.custody = .queued → n.custody = .queued ∧ n.area = m.area ∧ m.klass.code ≤ n.klass.code)
    (away : ∀ p a, (s.breakin p).active = some a → a.handle.slot = k → n.klass = m.klass) : Heeds s t :=
  fun p _ _ called => called.wrote record written.toWrote (written.within p) (written.active p) (fun queued _ => stays queued)
    (away p)

/-- The message written keeps its class where it is in hand. -/
theorem Heeds.wrote_inHand (laws : s.StoreLaws) (record : s.record k = some m) (written : Written s k n t)
    (stays : m.custody = .queued → n.custody = .queued ∧ n.area = m.area ∧ m.klass.code ≤ n.klass.code)
    (klass : m.custody.holder.isSome = true → n.klass = m.klass) : Heeds s t := by
  refine .wrote record written stays fun p a active at_k => ?_
  obtain ⟨v, d, mark, -, there, -, handed⟩ := laws.handed_of_active active
  rw [at_k, record, Option.some.injEq] at there
  exact klass (by rw [there, handed]; rfl)

/-- The message written was not QUEUED, and keeps its class where it is in hand. -/
theorem Heeds.wrote_loose (laws : s.StoreLaws) (record : s.record k = some m) (written : Written s k n t)
    (loose : m.custody ≠ .queued) (klass : m.custody.holder.isSome = true → n.klass = m.klass) : Heeds s t :=
  .wrote_inHand laws record written (fun queued => absurd queued loose) klass

/-- The message written keeps its custody, its area and its class. -/
theorem Heeds.wrote_same (record : s.record k = some m) (written : Written s k n t) (custody : n.custody = m.custody)
    (area : n.area = m.area) (klass : n.klass = m.klass) : Heeds s t :=
  .wrote record written (fun queued => ⟨custody.trans queued, area, Nat.le_of_eq (by rw [klass])⟩) fun _ _ _ _ => klass

/-- What leaves the break-in states, the notices and the queued messages. -/
theorem Heeds.of_steady (laws : s.StoreLaws) (steady : Steady s t) (within : ∀ p, Within s t p)
    (queued : ∀ k m, s.record k = some m → m.custody = .queued → t.slot k = s.slot k) : Heeds s t := by
  intro p ceased named called
  refine called.of_queued (within p) (laws.activeClass_of_steady steady p) fun k m record queue _ => ?_
  have same := queued k m record queue
  refine ⟨by rw [State.handleOf, same]; rfl, m, ?_, queue, rfl, Nat.le_refl _⟩
  rw [State.record_eq, same]
  exact record

theorem Heeds.freed (laws : s.StoreLaws) (freed : Freed s k m t) (loose : m.grip = none) (not : m.custody ≠ .queued)
    (breakins : t.breakins = s.breakins) (queues : t.noticeQueues = s.noticeQueues) (settings : t.settings = s.settings)
    (fences : t.fences = s.fences) : Heeds s t := by
  refine .of_steady laws (.freed freed loose (fun p => by rw [State.breakin, breakins]; rfl)
    (fun p => by rw [State.breakin, breakins]; rfl) fences) (fun p => .of_eq breakins queues settings p)
    fun j v record queued => ?_
  rw [freed.slot, if_neg]
  rintro rfl
  rw [freed.record, Option.some.injEq] at record
  exact not (record ▸ queued)

/-! ### Fences and active handoffs -/

theorem Heeds.settleFences (before : Nat) (s : State) : Heeds s (settleFences before s) := by
  rw [settleFences_eq, State.fencesSettled]
  split
  · exact (Heeds.told s s.fences (n := bareNotice s .fenceDone) nofun).trans
      (.of_slots rfl rfl ⟨rfl, rfl, rfl⟩ fun _ _ member _ => member)
  · exact .refl s

/-- A change of p's break-in state, but for what is pending, before that is cleared. -/
theorem State.Called.modBreakin_withoutPending {ceased named : Option Handle} {f : BreakIn → BreakIn}
    (called : s.Called q ceased named) (pending : ∀ b, (f b).pending = b.pending) :
    ((s.modBreakin p f).withoutPending p).Called q ceased named := by
  by_cases same : p = q
  · subst same
    refine State.Called.withoutPending (ceased := ((s.modBreakin p f).breakin p).pending) (called.of_notices ?_ fun _ member _ =>
      member)
    rw [State.breakin_modBreakin_same, pending]
  · exact Heeds.withoutPending (s.modBreakin p f) p q ceased named (called.modBreakin_other same f)

theorem Heeds.withoutActive (s : State) (p : Port) : Heeds s (s.withoutActive p) :=
  fun _ _ _ called => called.modBreakin_withoutPending fun _ => rfl

/-- An idle port's break-in state changes while nothing is pending there. -/
theorem State.Called.modBreakin_idle {ceased named : Option Handle} {f : BreakIn → BreakIn} (called : s.Called q ceased named)
    (idle : p = q → (s.breakin q).pending = none) (pending : ∀ b, (f b).pending = b.pending) :
    (s.modBreakin p f).Called q ceased named := by
  by_cases same : p = q
  · subst same
    have none : ((s.modBreakin p f).breakin p).pending = none := by
      rw [State.breakin_modBreakin_same, pending, idle rfl]
    refine (called.of_notices (t := s.modBreakin p f) ?_ fun _ member _ => member).of_idle none
    rw [none, idle rfl]
  · exact called.modBreakin_other same f

end

end Sys2Proof.Machine
end

section
/-! Every port's call stays in order through the requests of the Entry Unit, the ends of handoffs and the ticks (R126, R164). -/

namespace Sys2Proof.Machine

/-- Every port's call is in order. -/
def State.InCall (s : State) : Prop := ∀ p, s.Called p none none

section
variable {s t u v : State} {k : SlotNo} {m n : Message} {p q : Port}

theorem State.InCall.heeds (inCall : s.InCall) (heeds : Heeds s t) : t.InCall := fun p => heeds p none none (inCall p)

/-- A change that the calls do not read. -/
theorem Heeds.still (slots : t.slots = s.slots) (breakins : t.breakins = s.breakins) (queues : t.noticeQueues = s.noticeQueues)
    (routing : t.routes = s.routes ∧ t.defaultRoute = s.defaultRoute ∧ t.links = s.links) : Heeds s t :=
  .of_slots slots breakins routing fun p n member _ => by
    rw [State.noticeQueue, queues] at member
    exact member

/-! ### Slots freed and segments taken -/

theorem retained_not_queued (retained : m.retainedRecord = true) : m.custody ≠ .queued := by
  obtain ⟨o, time, custody⟩ | custody := Message.retainedRecord_iff.mp retained <;> simp [custody]

theorem Heeds.reclaim (laws : s.StoreLaws) (only : s.OnlyRetained k) : Heeds s (reclaim k s) := by
  cases record : s.record k with
  | none =>
    rw [Machine.reclaim, record]
    exact .refl s
  | some m =>
    rw [reclaim_eq record]
    have told := Aside.told s m.watchers
      { kind := .reclaimed, handle := some (s.handleOf k), detail := .nothing, time := s.seconds }
    exact told.heeds.trans (.freed (laws.aside told) (k := k) (m := m) ⟨record, rfl, rfl, rfl⟩
      (Message.loose_of_retained (only m record)).1 (retained_not_queued (only m record)) rfl rfl rfl rfl)

theorem Heeds.reclaimForSegment {hs : List Handle} (laws : s.StoreLaws) (only : ∀ h ∈ hs, s.OnlyRetained h.slot) :
    Heeds s (reclaimForSegment hs s) := by
  induction hs generalizing s with
  | nil => exact .refl s
  | cons h hs ih =>
    unfold Machine.reclaimForSegment
    split
    · exact .refl s
    · have first := only h List.mem_cons_self
      exact (Heeds.reclaim laws first).trans (ih (laws.reclaim first) fun x member =>
        (only x (List.mem_cons_of_mem h member)).reclaim)

theorem Heeds.takeSegments (laws : s.StoreLaws) (count : Nat) : Heeds s (takeSegments count s) := by
  unfold Machine.takeSegments
  split
  · exact .refl s
  · exact (Heeds.reclaimForSegment laws fun h member => laws.onlyRetained member).trans (.still rfl rfl rfl ⟨rfl, rfl, rfl⟩)

theorem Heeds.makeRoom (laws : s.StoreLaws) : Heeds s (makeRoom s) := by
  unfold Machine.makeRoom
  split
  · exact .refl s
  · split
    · exact .refl s
    · next h hs retained => exact .reclaim laws (laws.onlyRetained (retained ▸ List.mem_cons_self))

/-! ### The requests of an entry -/

theorem Heeds.openEntry (laws : s.StoreLaws) (empty : s.record k = none) (hd : Header) : Heeds s (openEntry p hd k s) := by
  have slot (j : SlotNo) (away : j ≠ k) : (Machine.openEntry p hd k s).slot j = s.slot j :=
    (State.slot_modSlot ..).trans (if_neg (Ne.symm away))
  have other {j : SlotNo} {v : Message} (record : s.record j = some v) : j ≠ k := by
    rintro rfl
    rw [empty] at record
    cases record
  refine .of_steady laws ⟨fun _ => rfl, fun _ => rfl, rfl, fun j v record held => ⟨v, ?_, held, rfl, id⟩⟩
    (.of_eq rfl rfl rfl) fun j v record _ => slot j (other record)
  rw [State.record_eq, slot j (other record)]
  exact record

theorem Heeds.refreshEntry (p : Port) (k : SlotNo) (s : State) : Heeds s (refreshEntry p k s) := by
  unfold Machine.refreshEntry
  split
  · exact .refl s
  · split
    · exact .still rfl rfl rfl ⟨rfl, rfl, rfl⟩
    · exact .refl s

theorem Heeds.append (laws : s.StoreLaws) (filling : FillingOn s k m p) (chars : List Byte) :
    Heeds s (appendAccepted p k m chars s).2 := by
  obtain ⟨record, custody, -⟩ := filling
  have there : (Machine.takeSegments (segmentNeed m chars) s).record k = some m :=
    (congrArg Slot.record (slot_takeSegments laws.retained record (Message.loose_of_filling custody).2)).trans record
  have written := modRecord_eq_withRecord (fun m => storeChars m chars (s.entryOf p).spaceCarry) there
  have stored : Heeds (Machine.takeSegments (segmentNeed m chars) s) ((Machine.takeSegments (segmentNeed m chars) s).modRecord k
      (fun m => storeChars m chars (s.entryOf p).spaceCarry)) := by
    rw [written]
    exact .wrote_same there (written_withRecord ..) rfl rfl rfl
  exact ((Heeds.takeSegments laws _).trans stored).trans (.still rfl rfl rfl ⟨rfl, rfl, rfl⟩)

theorem Heeds.cancel (laws : s.StoreLaws) (filling : FillingOn s k m p) : Heeds s (closeEntry p (freeSlot k s)) := by
  obtain ⟨record, custody, -⟩ := filling
  have freed : closeEntry p (freeSlot k s) = (s.withoutRecord k m).withoutEntry p := by
    rw [freeSlot_eq_withoutRecord record]
    rfl
  rw [freed]
  exact .freed laws (k := k) (m := m) ⟨record, rfl, rfl, rfl⟩ (Message.loose_of_filling custody).1 (by simp [custody]) rfl rfl
    rfl rfl

/-- A credited copy may raise the class of a QUEUED message, and of none in hand (R42). -/
theorem Heeds.creditDuplicate (laws : s.StoreLaws) (record : s.record k = some m) (c : Class) : Heeds s (creditDuplicate k c s) := by
  refine Heeds.trans (.wrote_inHand laws record (written_withRecord s k (creditCopy c m)) (fun queued => ?_)
    (Message.Akin.creditCopy c).klass) (creditDuplicate_aside record c).heeds
  rw [creditCopy_eq]
  refine ⟨queued, rfl, ?_⟩
  dsimp only
  split
  · next higher =>
    simp only [raises, Bool.and_eq_true, decide_eq_true_eq] at higher
    omega
  · exact Nat.le_refl _

theorem Heeds.duplicate (laws : s.StoreLaws) {j : SlotNo} (filling : FillingOn s k m p)
    (held : s.keyHolder m.origin m.serial m.day = some j) :
    Heeds s (closeEntry p (freeSlot k (Machine.creditDuplicate j m.klass s))) := by
  obtain ⟨holder, record, holds⟩ := holdsKey_of_keyHolder held
  have credited := Lawful.credited laws record holds m.klass
  exact (Heeds.creditDuplicate laws record m.klass).trans (.cancel credited.laws (filling_of_credited filling record holds))

/-- A message that is accepted is not QUEUED before, nor in hand (R43, R44). -/
theorem Heeds.accepted (laws : s.StoreLaws) (filling : FillingOn s k m p) : Heeds s (place p k (accept p k s)) := by
  obtain ⟨record, custody, -⟩ := filling
  have written := modRecord_eq_withRecord (acceptMessage s.seconds s.numberToGive) record
  have slots : (accept p k s).slots = (s.withRecord k (acceptMessage s.seconds s.numberToGive m)).slots := by
    rw [← written]
    rfl
  have there : (accept p k s).record k = some (acceptMessage s.seconds s.numberToGive m) :=
    (State.record_congr slots k).trans (State.record_withRecord_same ..)
  obtain ⟨n, aside, -⟩ := place_cases (p := p) there
  refine Heeds.trans (fun q ceased named called => ?_) aside.heeds
  have wrote : Wrote s k n ((accept p k s).withRecord k n) := by
    refine ⟨?_⟩
    rw [← State.withRecord_withRecord s k (acceptMessage s.seconds s.numberToGive m) n, State.withRecord, State.withRecord,
      State.modSlot, State.modSlot, slots]
  exact called.wrote record wrote ⟨rfl, rfl, fun _ member _ => member, fun _ => rfl⟩ rfl
    (fun queued => absurd queued (by simp [custody])) fun a active at_k => laws.away record (by simp [custody]) a active at_k

/-! ### Handoffs that end -/

/-- A handoff ends, and its message waits or is retained (R108 to R110). -/
theorem Heeds.released (laws : s.StoreLaws) (record : s.record k = some m) {d : Nat} {mark : Bool}
    (handed : m.custody = .handed p d mark) (same : u.slots = s.slots) (heeds : Heeds (s.withoutActive p) u)
    (active : ∀ q, (u.breakin q).active = ((s.withoutActive p).breakin q).active) (written : Written u k n v)
    (aside : Heeds v t) : Heeds s (Machine.settleFences s.outstanding t) := by
  have there : u.record k = some m := (State.record_congr same k).trans record
  refine (((Heeds.withoutActive s p).trans heeds).trans (.wrote there written (fun queued => ?_) fun q a is at_k => ?_)).trans
    (aside.trans (.settleFences _ _))
  · rw [handed] at queued
    cases queued
  · have ended : (u.breakin q).active = if p = q then none else (s.breakin q).active :=
      (active q).trans (congrFun (congrArg Ledger.active (ledger_withoutActive s p)) q)
    rw [ended] at is
    split at is
    · cases is
    · next other =>
      refine laws.away record (fun d' mark' also => other ?_) a is at_k
      rw [handed, Custody.handed.injEq] at also
      exact also.1

theorem Heeds.reported (laws : s.StoreLaws) (record : s.record k = some m) {d : Nat} {mark : Bool}
    (handed : m.custody = .handed p d mark) (r : Report) :
    Heeds s (Machine.settleFences s.outstanding (applyReport k p r (clearActive p s))) := by
  obtain ⟨entered, few⟩ := Message.Entered.of_holder (laws.records k m record) (by rw [handed]; rfl)
  obtain ⟨n, -, -, ⟨-, aside⟩ | ⟨-, aside⟩⟩ := applyReport_cases record entered few p r
  · exact .released laws record handed (s.withoutActive_slots p) (.refl _) (fun _ => rfl) (written_withRecord _ k n) aside.heeds
  · exact .released laws record handed (s.withoutActive_slots p) (.refl _) (fun _ => rfl) (written_retained _ k n _) aside.heeds

theorem Heeds.lapseIfDue (laws : s.StoreLaws) (k : SlotNo) : Heeds s (lapseIfDue s k) := by
  unfold Machine.lapseIfDue
  split
  · exact .refl s
  · next m record =>
    split
    · next q d mark handed =>
      split
      · have told := Aside.post q .lapsed (some (s.handleOf k)) (.token m.token) (Machine.clearActive q s)
        have there := (told.record k).trans ((congrFun (congrArg State.record (clearActive_eq q s)) k).trans
          ((s.withoutActive_record q k).trans record))
        rw [bounce_eq q .lapsed there]
        rw [clearActive_eq] at told ⊢
        exact .released laws record handed (told.slots.trans (s.withoutActive_slots q)) told.heeds told.active
          (written_withRecord ..) (leftAs_aside ..).heeds
      · exact .refl s
    all_goals exact .refl s

/-! ### Handoffs that begin, pause and resume -/

theorem State.queueOf_handleOf {ceased named : Option Handle} (called : s.Called q ceased named)
    (pending : (s.breakin q).pending = some (s.handleOf k)) (standing : ceased ≠ some (s.handleOf k)) :
    s.queueOf k = some q :=
  (called.pending _ pending standing).queue

/-- A record is written that is not pending at the port. -/
theorem State.Called.wrote_apart {named : Option Handle} (called : s.Called q none named) (record : s.record k = some m)
    (written : Written s k n t) (away : ∀ a, (s.breakin q).active = some a → a.handle.slot = k → n.klass = m.klass)
    (apart : (s.breakin q).pending ≠ some (s.handleOf k)) : t.Called q none named := by
  refine (called.ceases record written.toWrote (written.within q) (written.active q) away).of_other ?_
  rw [(written.within q).pending]
  exact apart

/-- A message of p's queue is handed out to p, which has no active handoff (R103). -/
theorem State.InCall.handOut (inCall : s.InCall) (laws : s.StoreLaws) (member : s.queueOf k = some p)
    (idle : (s.breakin p).active = none) : (handOut k p s).InCall := by
  obtain ⟨m, record, queued, -⟩ := State.queueOf_eq_some member
  have free := (inCall p).pending_of_idle idle
  rw [handOut_eq record free]
  dsimp only
  refine State.InCall.heeds (fun q => ?_) (.told _ _ (by simp [stateChange]))
  have wrote := (inCall q).wrote_apart record (written_withRecord s k (Message.log s.seconds (some p) .handed
    { m with custody := .handed p (min (s.seconds + s.scoring.lease) 4294967295) false, token := m.token + 1 }))
    (laws.away record (by simp [queued])) fun pending => by
      obtain rfl := Option.some.inj (member.symm.trans (State.queueOf_handleOf (inCall q) pending nofun))
      rw [free] at pending
      cases pending
  exact wrote.modBreakin_idle (fun same => same ▸ free) fun _ => rfl

/-- A handoff is suspended (R131). -/
theorem Heeds.suspend {a : Handoff} {d : Nat} {mark : Bool} (record : s.record k = some m)
    (handed : m.custody = .handed p d mark) : Heeds s (suspend k p a m s) := by
  rw [suspend_eq record handed]
  dsimp only
  have wrote : Heeds s (s.withRecord k { m with custody := .suspended p (d - s.seconds) mark }) :=
    .wrote record (written_withRecord ..) (fun queued => by rw [handed] at queued; cases queued) fun _ _ _ _ => rfl
  intro q ceased named called
  exact (Heeds.told _ m.watchers (by simp [stateChange]) q ceased named (wrote q ceased named called)).modBreakin_withoutPending
    fun _ => rfl

/-- A record leaves a stack while its port has no active handoff (R136). -/
theorem State.InCall.popRecord (inCall : s.InCall) (idle : (s.breakin p).active = none) (r : Suspension) :
    (popRecord p r s).InCall := fun q =>
  (inCall q).modBreakin_idle (fun same => same ▸ (inCall p).pending_of_idle idle) fun _ => rfl

/-- A suspended handoff is resumed (R137). -/
theorem State.InCall.resume (inCall : s.InCall) (laws : s.StoreLaws) {r : Suspension} {rest : List Suspension}
    (idle : (s.breakin p).active = none) (stack : (s.breakin p).stack = r :: rest) (standing : r.revoked = false) :
    (resumeRecord p r (Machine.popRecord p r s)).InCall := by
  have isOpen : r ∈ s.openRecords p := by
    rw [State.openRecords, stack, List.filter_cons_of_pos (by simp [standing])]
    exact List.mem_cons_self
  obtain ⟨m, mark, -, record, -, -, suspended⟩ := laws.suspended_of_stacked isOpen
  rw [resumeRecord_popRecord_eq stack record suspended]
  dsimp only
  refine State.InCall.heeds (State.InCall.heeds (fun q => ?_) (.told _ _ (by simp [stateChange]))) (.breakInCheck p _)
  have wrote := Heeds.wrote record (written_withRecord s r.handle.slot
    { m with custody := .handed p (min (s.seconds + r.leaseRemaining) 4294967295) mark })
    (fun queued => by rw [suspended] at queued; cases queued) (fun _ _ _ _ => rfl) q none none (inCall q)
  exact wrote.modBreakin_idle (fun same => same ▸ (inCall p).pending_of_idle idle) fun _ => rfl

/-- The enable is switched (R124). -/
theorem State.InCall.switchEnable (inCall : s.InCall) (p : Port) (on : Bool) : (switchEnable p on s).InCall := by
  unfold Machine.switchEnable
  split
  · exact inCall
  · next changed =>
    split
    · next on =>
      refine State.InCall.heeds (fun q => ?_) (.breakInCheck p _)
      refine (inCall q).modBreakin_idle (f := fun b => { b with enable := true }) (fun same => ?_) fun _ => rfl
      subst same
      cases pending : (s.breakin p).pending with
      | none => rfl
      | some h => exact absurd (((inCall p).pending h pending nofun).enable.trans on.symm) changed
    · rw [clearPendingBreakIn_eq]
      exact fun q => (inCall q).modBreakin_withoutPending (f := fun b => { b with enable := false }) fun _ => rfl

end

end Sys2Proof.Machine
end

section
/-! Every port's call stays in order through the requests of net control and the delivery deadlines (R99, R116, R126, R127,
R145 to R155). -/

namespace Sys2Proof.Machine

section
variable {s t u : State} {k : SlotNo} {m n : Message} {p q : Port}

/-! ### A message leaves its queue (R99) -/

theorem Heeds.departed (p : Port) (h : Handle) (s : State) : Heeds s (departed p h s) := by
  unfold Machine.departed
  split
  · rw [clearPendingBreakIn_eq]
    exact (Heeds.withoutPending s p).trans (.breakInCheck p _)
  · exact .refl s

/-- Where a handle is pending, its message stands in that port's queue. -/
theorem State.InCall.apart (inCall : s.InCall) (other : s.queueOf k ≠ some q) :
    (s.breakin q).pending ≠ some (s.handleOf k) := fun pending =>
  other (State.queueOf_handleOf (inCall q) pending nofun)

/-- A message of p's queue is written, and its departure settled. -/
theorem State.InCall.left (inCall : s.InCall) (record : s.record k = some m) (written : Written s k n t)
    (away : ∀ q a, (s.breakin q).active = some a → a.handle.slot = k → n.klass = m.klass) (member : s.queueOf k = some p)
    (aside : Heeds t u) : (Machine.departed p (s.handleOf k) u).InCall := by
  intro q
  by_cases same : p = q
  · subst same
    exact (aside p _ none ((inCall p).ceases record written.toWrote (written.within p) (written.active p) (away p))).departed
  · refine Heeds.departed p _ u q none none (aside q none none ?_)
    refine (inCall q).wrote_apart record written (away q) (inCall.apart fun also => same ?_)
    exact Option.some.inj (member.symm.trans also)

/-- A message of no queue is written. -/
theorem State.InCall.unplaced (inCall : s.InCall) (record : s.record k = some m) (written : Written s k n t)
    (away : ∀ q a, (s.breakin q).active = some a → a.handle.slot = k → n.klass = m.klass) (none : s.queueOf k = none) :
    t.InCall := fun q =>
  (inCall q).wrote_apart record written (away q) (inCall.apart (by rw [none]; nofun))

/-- An act keeps every call in which k's message is not pending. -/
def Departs (s : State) (k : SlotNo) (act : State → State) : Prop :=
  ∀ t : State, t.slots = s.slots → (∀ q, (t.breakin q).active = (s.breakin q).active) → ∀ q named,
    t.Called q none named → (t.breakin q).pending ≠ some (s.handleOf k) → (act t).Called q none named

/-- What writes k's message, that is in no port's custody, departs. -/
theorem Departs.of_written (laws : s.StoreLaws) (record : s.record k = some m) (loose : m.custody.holder = none)
    {act : State → State} (acts : ∀ t : State, t.record k = some m → ∃ n u, Written t k n u ∧ Aside u (act t)) :
    Departs s k act := by
  intro t slots active q named called other
  have there : t.record k = some m := (State.record_congr slots k).trans record
  obtain ⟨n, u, written, aside⟩ := acts t there
  refine aside.heeds q none named (called.wrote_apart there written (fun a is at_k => ?_) ?_)
  · rw [active] at is
    exact laws.away record (fun d mark handed => by rw [handed] at loose; cases loose) a is at_k
  · rw [State.handleOf_congr slots]
    exact other

theorem State.InCall.departs (inCall : s.InCall) {act : State → State} (departs : Departs s k act)
    (apart : ∀ q, s.queueOf k ≠ some q) : (act s).InCall := fun q =>
  departs s rfl (fun _ => rfl) q none (inCall q) (inCall.apart (apart q))

/-- A departure from a queue, with the renewed check where the message was pending (R99, R127). -/
theorem State.InCall.leaveQueue (inCall : s.InCall) {act : State → State} (departs : Departs s k act)
    (member : s.queueOf k = some p) : (leaveQueue p (s.handleOf k) act s).InCall := by
  have elsewhere {q : Port} (other : p ≠ q) : (s.breakin q).pending ≠ some (s.handleOf k) :=
    inCall.apart fun also => other (Option.some.inj (member.symm.trans also))
  obtain ⟨apart, e⟩ | ⟨pending, ⟨-, e⟩ | ⟨-, e⟩⟩ := leaveQueue_cases p (s.handleOf k) act s
  · rw [e]
    intro q
    refine departs s rfl (fun _ => rfl) q none (inCall q) ?_
    by_cases same : p = q
    · exact same ▸ apart
    · exact elsewhere same
  · rw [e, recheckAfter]
    obtain ⟨t, isT⟩ : ∃ t, t = s.modBreakin p (fun b => { b with pending := none }) := ⟨_, rfl⟩
    rw [← isT]
    have active (q : Port) : (t.breakin q).active = (s.breakin q).active := by
      rw [isT, State.breakin_modBreakin]
      split <;> rfl
    have slots : t.slots = s.slots := by rw [isT]; rfl
    refine State.InCall.heeds (fun q => ?_) (.breakInCheck p _)
    by_cases same : p = q
    · subst same
      have free : (t.breakin p).pending = none := by rw [isT, State.breakin_modBreakin_same]
      refine State.Called.withdrawn (departs t slots active p (some (s.handleOf k)) ?_ (by rw [free]; nofun))
      refine ⟨fun h is => (by rw [free] at is; cases is), fun n there kind => ?_⟩
      rw [isT] at there
      obtain ⟨some, named | none⟩ := (inCall p).notices n there kind
      · exact ⟨some, .inr (named.trans pending)⟩
      · rw [none] at some
        cases some
    · refine Heeds.withdrawBreakIn p _ _ q none none (departs t slots active q none ?_ ?_)
      · rw [isT]
        exact (inCall q).modBreakin_other same _
      · rw [isT, State.breakin_modBreakin, if_neg same]
        exact elsewhere same
  · rw [e]
    have cleared := Aside.clearPendingBreakIn p s
    intro q
    refine departs _ cleared.slots cleared.active q none (cleared.heeds q none none (inCall q)) ?_
    rw [clearPendingBreakIn_eq]
    by_cases same : p = q
    · rw [← same, State.pending_withoutPending]
      nofun
    · rw [withoutPending_otherPort (Ne.symm same)]
      exact elsewhere same

/-- A delivery deadline that passes (R116). -/
theorem State.InCall.expireIfDue (inCall : s.InCall) (laws : s.StoreLaws) (k : SlotNo) : (expireIfDue s k).InCall := by
  unfold Machine.expireIfDue
  split
  · exact inCall
  · next m record =>
    split
    · next due =>
      have departs : Departs s k (holdAndTell k .deadlinePassed none) :=
        .of_written laws record (by rw [due.1]; rfl) fun t there => ⟨_, _, written_withRecord .., holdAndTell_aside there ..⟩
      split
      · next q member => exact inCall.leaveQueue departs member
      · next none => exact inCall.departs departs (by rw [none]; nofun)
    · exact inCall

/-! ### Net control (R145 to R155) -/

theorem State.InCall.holdMessage (inCall : s.InCall) (laws : s.StoreLaws) (record : s.record k = some m)
    (queued : m.custody = .queued) (p : Port) : (holdMessage k p s).InCall := by
  have written := written_withRecord s k { m with custody := .held .control }
  have there := State.record_withRecord_same s k { m with custody := .held .control }
  have away (q : Port) := laws.away (p := q) record (by simp [queued]) (α := m.klass = m.klass)
  have logged {t : State} (inCall : t.InCall) (there : t.record k = some { m with custody := .held .control }) :
      (notifyWatchers k (t.modRecord k (Message.log t.seconds (some p) .held))).InCall := by
    rw [modRecord_eq_withRecord _ there]
    exact inCall.heeds (Heeds.trans (.wrote_same there (written_withRecord ..) (Message.log_custody ..) (Message.log_area ..)
      (Message.log_klass ..)) (Aside.notifyWatchers ..).heeds)
  unfold Machine.holdMessage
  dsimp only
  rw [modRecord_eq_withRecord _ record, State.handleOf_withRecord]
  split
  · next q member =>
    exact logged (inCall.left record written away member (.refl _)) (((Aside.departed ..).record k).trans there)
  · next none => exact logged (inCall.unplaced record written away none) there

/-- A RELEASE writes the record; what else it does is aside (R148). -/
theorem releaseMessage_aside (record : s.record k = some m) (p : Port) :
    ∃ n, Aside (s.withRecord k n) (releaseMessage k p m s).2 := by
  have there := State.record_withRecord_same s k (Message.released m)
  have again (r : HoldReason) (changed : Bool) := holdAgain_aside there r p changed
  simp only [State.withRecord_withRecord] at again
  unfold Machine.releaseMessage
  dsimp only
  rw [modRecord_eq_withRecord _ record]
  split
  · exact ⟨_, again ..⟩
  · split
    · next q resolves =>
      rw [modRecord_eq_withRecord _ there, State.withRecord_withRecord]
      have logged := State.record_withRecord_same s k (Message.log s.seconds (some p) .released (Message.released m))
      have joined := leftAs_aside (s.withRecord k (Message.log s.seconds (some p) .released (Message.released m))) k
        { Message.applyUpgrade (Message.log s.seconds (some p) .released (Message.released m)) with custody := .queued }
      rw [State.withRecord_withRecord, ← joinQueue_eq (q := q) logged (by rw [Message.log_area]; exact resolves)] at joined
      exact ⟨_, joined⟩
    · exact ⟨_, again ..⟩

theorem Heeds.releaseMessage (laws : s.StoreLaws) (record : s.record k = some m) {r : HoldReason} (held : m.custody = .held r)
    (p : Port) : Heeds s (releaseMessage k p m s).2 := by
  obtain ⟨n, aside⟩ := releaseMessage_aside record p
  exact Heeds.trans (.wrote_loose laws record (written_withRecord s k n) (by simp [held]) fun inHand => by
    rw [held] at inHand
    cases inHand) aside.heeds

/-- A change of a break-in state that no call reads. -/
theorem Heeds.modBreakin {f : BreakIn → BreakIn} (enable : ∀ b, (f b).enable = b.enable) (active : ∀ b, (f b).active = b.active)
    (pending : ∀ b, (f b).pending = b.pending) (s : State) (p : Port) : Heeds s (s.modBreakin p f) := by
  have same {α : Type} {g : BreakIn → α} (keeps : ∀ b, g (f b) = g b) (q : Port) :
      g ((s.modBreakin p f).breakin q) = g (s.breakin q) := by
    rw [State.breakin_modBreakin]
    split
    · exact keeps _
    · rfl
  exact fun q _ _ called => called.of_same (same pending q) (fun _ member _ => member) fun h _ _ qualifies =>
    qualifies.congr (same enable q) rfl rfl rfl (activeClass_modBreakin active s p q)

theorem State.InCall.voidMessage (inCall : s.InCall) (laws : s.StoreLaws) (record : s.record k = some m)
    (traffic : Message.inTraffic m = true) (p : Port) : (voidMessage k p m s).InCall := by
  have departs (loose : m.custody.holder = none) : Departs s k (becomeVoid k p) :=
    .of_written laws record loose fun t there =>
      ⟨Message.voided t.seconds p m, _, written_retained .., becomeVoid_aside there p⟩
  have klass : ∀ now, (Message.voided now p m).klass = m.klass := fun now => Message.log_klass ..
  unfold Machine.voidMessage
  dsimp only
  cases custody : m.custody with
  | queued =>
    dsimp only
    split
    · next q member => exact inCall.leaveQueue (departs (by rw [custody]; rfl)) member
    · next none => exact inCall.departs (departs (by rw [custody]; rfl)) (by rw [none]; nofun)
  | held r =>
    refine inCall.departs (departs (by rw [custody]; rfl)) fun q member => ?_
    obtain ⟨v, there, queued, -⟩ := State.queueOf_eq_some member
    obtain rfl : m = v := Option.some.inj (record.symm.trans there)
    rw [custody] at queued
    cases queued
  | handed q d mark =>
    have told := Aside.post q .revoked (some (s.handleOf k)) (.token m.token) (clearActive q s)
    rw [clearActive_eq] at told
    have slots := told.slots.trans (s.withoutActive_slots q)
    dsimp only
    rw [clearActive_eq]
    have voided := becomeVoid_aside ((State.record_congr slots k).trans record) p
    exact inCall.heeds (.released laws record custody slots told.heeds told.active (written_retained ..) voided.heeds)
  | suspended q d mark =>
    have told := Aside.post q .revoked (some (s.handleOf k)) (.token m.token) (revokeRecord q (s.handleOf k) s)
    have there := (told.record k).trans record
    have flagged : Heeds s (revokeRecord q (s.handleOf k) s) := by
      rw [revokeRecord_eq]
      refine .modBreakin (fun b => ?_) (fun b => ?_) (fun b => ?_) s q <;> rfl
    have voided := becomeVoid_aside there p
    refine inCall.heeds (((flagged.trans told.heeds).trans (Heeds.wrote there (written_retained ..) (fun queued => ?_)
      fun _ _ _ _ => klass _)).trans (voided.heeds.trans (.settleFences _ _)))
    rw [custody] at queued
    cases queued
  | filling | disposed | void => simp [Message.inTraffic, custody] at traffic

end

end Sys2Proof.Machine
end

section
/-! Every port's call stays in order through AMEND, ADD-NOTE, WATCH and EXTEND (R106, R126, R152 to R155, R159). -/

namespace Sys2Proof.Machine

section
variable {s t u : State} {k : SlotNo} {m n : Message} {p q : Port}

theorem Heeds.extend (record : s.record k = some m) {d : Nat} {mark : Bool} (handed : m.custody = .handed p d mark)
    (deadline : Nat) : Heeds s (s.modRecord k (fun m => { m with custody := Custody.withDeadline deadline m.custody })) := by
  rw [modRecord_eq_withRecord _ record]
  refine .wrote record (written_withRecord ..) (fun queued => ?_) fun _ _ _ _ => rfl
  rw [handed] at queued
  cases queued

theorem Heeds.watch (record : s.record k = some m) (p : Port) (on : Bool) : Heeds s (s.modRecord k (setWatcher p on)) := by
  rw [modRecord_eq_withRecord _ record]
  exact .wrote_same record (written_withRecord ..) rfl rfl rfl

theorem Heeds.note (laws : s.StoreLaws) (record : s.record k = some m) (traffic : Message.inTraffic m = true)
    (chars : List Byte) : Heeds s (notifyWatchers k ((Machine.takeSegments 1 s).modRecord k (noted chars))) := by
  have there : (Machine.takeSegments 1 s).record k = some m :=
    (congrArg Slot.record (slot_takeSegments laws.retained record (Message.live_of_traffic traffic))).trans record
  rw [modRecord_eq_withRecord _ there]
  exact (Heeds.takeSegments laws 1).trans (Heeds.trans (.wrote_same there (written_withRecord _ k (noted chars m)) rfl rfl rfl)
    (Aside.notifyWatchers ..).heeds)

theorem State.queueOf_of_record (record : t.record k = s.record k) (settings : t.settings = s.settings) :
    t.queueOf k = s.queueOf k := by
  unfold State.queueOf
  rw [record]
  simp only [State.resolve_of_settings settings]

theorem Aside.queueOf (aside : Aside s t) (k : SlotNo) : t.queueOf k = s.queueOf k :=
  State.queueOf_of_record (aside.record k) aside.settings

/-! ### AMEND (R152 to R154) -/

theorem Class.higher_iff (c d : Class) : Class.higher c d = true ↔ d.code < c.code := by
  simp [Class.higher]

/-- What was thought to have ceased to qualify still does. -/
theorem State.Called.regained {h : Handle} {named : Option Handle} (called : s.Called p (some h) named)
    (qualifies : s.Qualifies p h) : s.Called p none named := by
  refine ⟨fun j is _ => ?_, called.notices⟩
  by_cases same : j = h
  · exact same ▸ qualifies
  · exact called.pending j is fun also => same (Option.some.inj also).symm

/-- The class of a QUEUED message is set, and its port's call is checked (R154). -/
theorem State.InCall.amendClass (inCall : s.InCall) (laws : s.StoreLaws) (record : s.record k = some m)
    (loose : m.custody.holder = none) {c : Class} {old : Message} (klass : old.klass = m.klass) :
    (amendClass k c old s).InCall := by
  obtain ⟨n, isN⟩ : ∃ n : Message, n = { m with klass := c, pendingUpgrade := none } := ⟨_, rfl⟩
  have amended : n.klass = c ∧ n.custody = m.custody ∧ n.area = m.area := by rw [isN]; exact ⟨rfl, rfl, rfl⟩
  have written := written_withRecord s k n
  have away (q : Port) := laws.away (p := q) record (α := n.klass = m.klass) fun d mark handed => by
    rw [handed] at loose
    cases loose
  unfold Machine.amendClass
  rw [modRecord_eq_withRecord _ record]
  dsimp only
  rw [← isN]
  obtain ⟨u, is, told⟩ : ∃ u, u = (if c ≠ old.klass ∨ old.pendingUpgrade ≠ none then notifyWatchers k (s.withRecord k n)
      else s.withRecord k n) ∧ Aside (s.withRecord k n) u := by
    refine ⟨_, rfl, ?_⟩
    split
    · exact .notifyWatchers ..
    · exact .refl _
  rw [← is]
  have member : u.queueOf k = s.queueOf k :=
    (told.queueOf k).trans (State.queueOf_withRecord record amended.2.2 (by rw [amended.2.1]) k)
  have named : u.handleOf k = s.handleOf k := (State.handleOf_congr told.slots k).trans (State.handleOf_withRecord s k k n)
  have active (q : Port) : u.activeClass q = s.activeClass q :=
    (activeClass_congr (told.active q) fun a _ => by rw [told.record]).trans
      (activeClass_of_wrote_away written.toWrote record rfl (away q))
  have stands (falls : ¬ c.code < m.klass.code) : u.InCall := by
    refine inCall.heeds (Heeds.trans (.wrote record written (fun queued => ⟨amended.2.1.trans queued, amended.2.2, ?_⟩) away)
      told.heeds)
    rw [amended.1]
    omega
  rw [member]
  cases queue : s.queueOf k with
  | none => exact (inCall.unplaced record written away queue).heeds told.heeds
  | some q =>
    have elsewhere {r : Port} (other : q ≠ r) : (s.withRecord k n).Called r none none :=
      (inCall r).wrote_apart record written (away r) (inCall.apart fun also =>
        other (Option.some.inj (queue.symm.trans also)))
    dsimp only
    rw [klass, active, named]
    split
    · next raised => exact (stands (by rw [Class.higher_iff] at raised; omega)).heeds (.breakInCheck q u)
    · split
      · next lowered =>
        cases hand : s.activeClass q with
        | none =>
          refine State.InCall.heeds (fun r => ?_) told.heeds
          by_cases same : q = r
          · subst same
            refine (inCall q).wrote_apart record written (away q) fun pending => ?_
            obtain ⟨v, d, -, inHand, -⟩ := ((inCall q).pending _ pending nofun).higher
            rw [hand] at inHand
            cases inHand
          · exact elsewhere same
        | some a =>
          dsimp only
          split
          · next higher =>
            refine State.InCall.heeds (fun r => ?_) told.heeds
            by_cases same : q = r
            · subst same
              by_cases pending : (s.breakin q).pending = some (s.handleOf k)
              · have qualifies := (inCall q).pending _ pending nofun
                refine ((inCall q).ceases record written.toWrote (written.within q) (written.active q) (away q)).regained
                  ⟨qualifies.enable, State.handleOf_withRecord .., ?_, n, a, State.record_withRecord_same .., ?_, ?_⟩
                · exact (State.queueOf_withRecord record amended.2.2 (by rw [amended.2.1]) k).trans queue
                · exact (activeClass_of_wrote_away written.toWrote record rfl (away q)).trans hand
                · rw [amended.1]
                  exact (Class.higher_iff c a).mp higher
              · exact (inCall q).wrote_apart record written (away q) pending
            · exact elsewhere same
          · exact inCall.left record written away queue told.heeds
      · next same => exact stands (by rwa [Class.higher_iff] at same)

theorem State.InCall.amendMessage (inCall : s.InCall) (laws : s.StoreLaws) (f : AmendFields) (record : s.record k = some m)
    (traffic : Message.inTraffic m = true) (free : AmendFields.hasClass f = true → Message.inHand m = false) :
    (amendMessage k f m s).InCall := by
  obtain ⟨u, is, sound, called, n, there, klass, custody⟩ : ∃ u, u = (if AmendFields.hasAdjust f = true
      then s.modRecord k (fun m => { m with adjust := clampAdjust f.adjust.toInt }) else s) ∧ u.StoreLaws ∧ u.InCall
        ∧ ∃ n, u.record k = some n ∧ m.klass = n.klass ∧ n.custody = m.custody := by
    have entered := laws.entered record fun filling => by rw [Message.inTraffic, filling] at traffic; cases traffic
    obtain ⟨low, high⟩ := clampAdjust_range f.adjust.toInt
    refine ⟨_, rfl, ?_⟩
    split
    · refine ⟨(Lawful.modRecord laws record (.of_custody rfl rfl (fun _ => rfl) rfl rfl)
        (entered.withAdjust low high).sound).laws, ?_, { m with adjust := clampAdjust f.adjust.toInt }, ?_, rfl, rfl⟩
      · rw [modRecord_eq_withRecord _ record]
        exact inCall.heeds (.wrote_same record (written_withRecord ..) rfl rfl rfl)
      · rw [modRecord_eq_withRecord _ record]
        exact State.record_withRecord_same ..
    · exact ⟨laws, inCall, m, record, rfl, rfl⟩
  unfold Machine.amendMessage
  dsimp only
  rw [← is]
  split
  · next given _ =>
    refine called.amendClass sound there ?_ klass
    have loose := free given
    rw [Message.inHand, ← custody] at loose
    simpa using loose
  · exact called

end

end Sys2Proof.Machine
end

section
/-! Every port's call stays in order through the hand-out of a break-in and through the routing changes (R75 to R77, R126,
R131). -/

namespace Sys2Proof.Machine

section
variable {s t u : State} {k : SlotNo} {m n : Message} {p q : Port}

/-! ### The hand-out of a break-in (R131, R132) -/

theorem settings_suspend {a : Handoff} {d : Nat} {mark : Bool} (record : s.record k = some m)
    (handed : m.custody = .handed p d mark) : (suspend k p a m s).settings = s.settings := by
  rw [suspend_eq record handed]
  exact (Aside.withoutPending ..).settings

theorem State.InCall.suspendAndHandOut (inCall : s.InCall) (laws : s.StoreLaws) {h : Handle} {token : Byte} {j : SlotNo}
    (record : s.record h.slot = some m) (active : (s.breakin p).active = some { handle := h, token := token })
    (eligible : j ∈ s.eligible p m.klass) :
    (Machine.handOut j p (suspend h.slot p { handle := h, token := token } m s)).InCall := by
  obtain ⟨queueOf, n, there, higher⟩ := State.mem_eligible.mp eligible
  obtain ⟨v, there', queued, -⟩ := State.queueOf_eq_some queueOf
  obtain rfl : n = v := Option.some.inj (there.symm.trans there')
  obtain ⟨v, d, mark, -, found, -, handed⟩ := laws.handed_of_active active
  obtain rfl : m = v := Option.some.inj (record.symm.trans found)
  have other : h.slot ≠ j := by
    rintro rfl
    rw [record, Option.some.injEq] at there
    rw [there, queued] at handed
    cases handed
  have ledger := ledger_suspend (a := { handle := h, token := token }) record handed
  have sound := (Lawful.suspend laws record active higher).laws
  refine (inCall.heeds (.suspend record handed)).handOut sound ?_ ((congrFun (congrArg Ledger.active ledger) p).trans (if_pos rfl))
  refine (State.queueOf_of_record ?_ (settings_suspend record handed)).trans queueOf
  exact (State.record_congr (congrArg Ledger.slots ledger) j).trans (State.record_withRecord_other other)

/-! ### Routing changes (R75 to R77) -/

section
variable {s₁ placed : State}

/-- The message of p's active handoff is in hand. -/
def State.Grasps (s : State) (p : Port) : Prop :=
  ∀ a, (s.breakin p).active = some a → ∃ m, s.record a.handle.slot = some m ∧ m.custody.holder.isSome = true

theorem State.StoreLaws.grasps (laws : s.StoreLaws) (p : Port) : s.Grasps p := by
  intro a active
  obtain ⟨m, d, mark, -, record, -, handed⟩ := laws.handed_of_active active
  exact ⟨m, record, by rw [handed]; rfl⟩

theorem record_replacedAll (s s₁ : State) (p : Port) (k : SlotNo) :
    (s.replacedAll s₁ p).record k = (s.record k).map (s.changed s₁ p) :=
  congrArg Slot.record (get_vmap ..)

/-- A routing change leaves the classes in hand. -/
theorem activeClass_replacedAll (only : RoutingOnly s s₁) (grasps : s.Grasps q) :
    (s.replacedAll s₁ p).activeClass q = s.activeClass q := by
  have breakins : (s.replacedAll s₁ p).breakins = s.breakins := by
    rw [State.replacedAll, only.only]
  refine activeClass_congr (by rw [State.breakin, breakins]; rfl) fun a active => ?_
  obtain ⟨m, record, held⟩ := grasps a active
  rw [record_replacedAll, record, Option.map_some, Option.map_some, Option.map_some]
  exact congrArg some ((Message.Akin.rerouted ..).klass held)

/-- A message that is QUEUED after a routing change, as it was before, is unchanged. -/
theorem changed_of_queued (queued : m.custody = .queued) (stays : (s.changed s₁ p m).custody = .queued) :
    s.changed s₁ p m = m := by
  unfold State.changed rerouted at stays ⊢
  rw [queued] at stays ⊢
  cases resolves : (s₁.resolve m.area).isSome with
  | true => rfl
  | false =>
    rw [resolves] at stays
    simp [Message.log_custody] at stays

/-- A pending break-in that still stands in its port's queue qualifies as before. -/
theorem State.Qualifies.replacedAll {h : Handle} (qualifies : s.Qualifies q h) (only : RoutingOnly s s₁)
    (grasps : s.Grasps q) (stays : (s.replacedAll s₁ p).queueOf h.slot = some q) : (s.replacedAll s₁ p).Qualifies q h := by
  obtain ⟨on, current, queue, m, c, record, hand, higher⟩ := qualifies
  have breakins : (s.replacedAll s₁ p).breakins = s.breakins := by
    rw [State.replacedAll, only.only]
  obtain ⟨v, there, queued, -⟩ := State.queueOf_eq_some queue
  obtain rfl : m = v := Option.some.inj (record.symm.trans there)
  obtain ⟨w, there', queued', -⟩ := State.queueOf_eq_some stays
  rw [record_replacedAll, record, Option.map_some, Option.some.injEq] at there'
  have same := changed_of_queued queued (there' ▸ queued')
  refine ⟨?_, ?_, stays, m, c, ?_, (activeClass_replacedAll only grasps).trans hand, higher⟩
  · rw [State.breakin, breakins]
    exact on
  · exact ((Rerouting.ofSlots only (s.changed s₁ p) s₁.noticeQueues).handle h.slot).trans current
  · rw [record_replacedAll, record, Option.map_some, same]

/-- The hand-over at q puts its call in order (R77). -/
theorem State.Called.handOver (called : s.Called q none none) (only : RoutingOnly s s₁) (grasps : s.Grasps q)
    (aside : Aside (s.replacedAll s₁ p) t) (same : t.breakin q = s.breakin q)
    (there : t.Called q (s.breakin q).pending none) : (s.handOver (s.replacedAll s₁ p) t q).Called q none none := by
  have ready : Aside t (s.tellReady (s.replacedAll s₁ p) t q) := tellReady_aside
  have ready' : (s.tellReady (s.replacedAll s₁ p) t q).breakin q = s.breakin q := by
    rw [← same, State.tellReady]
    split <;> rfl
  refine (checkGained_aside (s := s)).heeds q none none ?_
  replace there := ready.heeds q _ none there
  replace aside := aside.trans ready
  obtain ⟨v, isV⟩ : ∃ v, v = s.tellReady (s.replacedAll s₁ p) t q := ⟨_, rfl⟩
  rw [← isV] at there aside ready' ⊢
  unfold State.withdrawGone
  cases pending : (s.breakin q).pending with
  | none =>
    rw [pending] at there
    exact there
  | some h =>
    rw [pending] at there
    dsimp only
    split
    · next stands =>
      have qualifies := (called.pending h pending nofun).replacedAll only grasps stands.1
      refine there.regained (qualifies.congr (by rw [ready', State.breakin, State.replacedAll, only.only]; rfl)
        (State.handleOf_congr aside.slots _) (aside.queueOf _) (aside.record _) ?_)
      exact activeClass_congr (aside.active q) fun a _ => by rw [aside.record]
    · exact Heeds.breakInCheck q _ q none none there.withoutPending

/-- A routing change leaves q's call in order. -/
theorem State.Called.rerouting (called : s.Called q none none) (only : RoutingOnly s s₁) (grasps : s.Grasps q) (p : Port) :
    (s.rerouting p s₁).Called q none none := by
  have breakin : (s.replacedAll s₁ p).breakin q = s.breakin q := by
    rw [State.breakin, State.replacedAll, only.only]
    rfl
  have start : (s.replacedAll s₁ p).Called q (s.breakin q).pending none := by
    rw [← breakin]
    refine called.of_notices (by rw [breakin]) fun n member _ => ?_
    rw [State.noticeQueue, State.replacedAll, only.only] at member
    exact member
  obtain ⟨-, aside, breakins⟩ := placed_sweeps (p := p) only
  have each {ps : List Port} : ∀ {t : State}, q ∈ ps → Aside (s.replacedAll s₁ p) t → t.breakin q = s.breakin q →
      t.Called q (s.breakin q).pending none → (ps.foldl (s.handOver (s.replacedAll s₁ p)) t).Called q none none := by
    induction ps with
    | nil => exact nofun
    | cons r ps ih =>
      intro t member aside same there
      rw [List.foldl_cons]
      by_cases turn : q = r
      · subst turn
        exact (foldl_handOver_aside ps).heeds q none none (called.handOver only grasps aside same there)
      · exact ih ((List.mem_cons.mp member).resolve_left turn) (aside.trans handOver_aside)
          ((handOver_otherPort turn).trans same) (handOver_aside.heeds q _ none there)
  rw [State.rerouting_eq]
  refine each (mem_allPorts q) aside ?_ (aside.heeds q _ none start)
  rw [State.breakin, breakins]
  rfl

theorem State.InCall.rerouting (inCall : s.InCall) (laws : s.StoreLaws) (only : RoutingOnly s s₁) (p : Port) :
    (s.rerouting p s₁).InCall := fun q => (inCall q).rerouting only (laws.grasps q) p

end

end

end Sys2Proof.Machine
end

section
/-! Every port's call is in order after the resets, and with that the laws of the Break-in Unit are kept by every step (R119,
R123, R126, R140, R164, R182, R188). -/

namespace Sys2Proof.Machine

section
variable {s t u : State} {k : SlotNo} {m n : Message} {p q : Port}

/-- A port with nothing pending and no notices is not called. -/
theorem State.Called.of_cleared (breakin : s.breakin p = BreakIn.cleared) (queue : s.noticeQueue p = NoticeQueue.empty) :
    s.Called p none none := by
  refine ⟨fun h is => ?_, fun n member => ?_⟩
  · rw [breakin] at is
    cases is
  · rw [queue] at member
    cases member

/-! ### The port reset (R119, R140, R182) -/

theorem Heeds.portSilenced (laws : s.StoreLaws) (p : Port) : Heeds s (s.portSilenced p) := by
  unfold State.portSilenced
  obtain ⟨u, isU⟩ : ∃ u, u = s.modPort p (fun x => { x with
    exchangeState := .idle, lastDelivered := none, requestOverrun := false, exchange := none, resetLine := true }) := ⟨_, rfl⟩
  have still : Lawful s u := by
    rw [isU]
    exact .still laws rfl rfl
  have calm : Heeds s u := by
    rw [isU]
    exact .still rfl rfl rfl ⟨rfl, rfl, rfl⟩
  rw [← isU]
  refine calm.trans ?_
  obtain ⟨k, m, record, custody, port, eq⟩ | ⟨-, eq⟩ := entryAbandoned_cases still.laws.entriesAgree p
  · rw [eq]
    exact .freed still.laws (k := k) (m := m) ⟨record, rfl, rfl, rfl⟩ (Message.loose_of_filling custody).1 (by simp [custody])
      rfl rfl rfl rfl
  · rw [eq]
    exact .still rfl rfl rfl ⟨rfl, rfl, rfl⟩

/-- The return of one of p's handoffs leaves the call of another port. -/
theorem State.Called.handedBack {h : Handle} (called : s.Called q none none)
    (held : ∀ m, s.record h.slot = some m → m.custody ≠ .queued)
    (away : ∀ a, (s.breakin q).active = some a → a.handle.slot ≠ h.slot) (p : Port) :
    (s.handedBack p h).Called q none none := by
  unfold State.handedBack
  split
  · exact called
  · next m record =>
    obtain ⟨n, is⟩ : ∃ n, n = returned s.seconds p (s.resolve m.area).isSome
      (Message.log s.seconds (some p) .requeued { m with token := m.token + 1 }) := ⟨_, rfl⟩
    rw [← is]
    refine (leftAs_aside s h.slot n).heeds q none none ?_
    have written := written_withRecord s h.slot n
    exact called.wrote record written.toWrote (written.within q) (written.active q) (fun queued => absurd queued (held m record))
      fun a active at_h => absurd at_h (away a active)

theorem State.Called.handedBacks {hs : List Handle} (nodup : (hs.map Handle.slot).Nodup) (called : s.Called q none none)
    (held : ∀ h ∈ hs, ∀ m, s.record h.slot = some m → m.custody ≠ .queued)
    (away : ∀ h ∈ hs, ∀ a, (s.breakin q).active = some a → a.handle.slot ≠ h.slot) (p : Port) :
    (hs.foldl (State.handedBack p) s).Called q none none := by
  induction hs generalizing s with
  | nil => exact called
  | cons h hs ih =>
    obtain ⟨new, rest⟩ := List.nodup_cons.mp nodup
    refine ih rest (called.handedBack (held h List.mem_cons_self) (away h List.mem_cons_self) p) (fun j member m record => ?_)
      fun j member a active => ?_
    · have slot : (s.handedBack p h).slot j.slot = _ := slot_handedBack p s h.slot j.slot h.inc
      rw [State.record_eq, slot, if_neg (fun same : h.slot = j.slot => new (same ▸ List.mem_map_of_mem member))] at record
      exact held j (List.mem_cons_of_mem h member) m record
    · rw [active_of_handling ((handedBack_recordsOnly p s h).handling q)] at active
      exact away j (List.mem_cons_of_mem h member) a active

/-- Port p is silenced, disarmed and linked; another port's call stays in order. -/
theorem State.Called.portLinked (called : s.Called q none none) (laws : s.StoreLaws) (other : p ≠ q) :
    (s.portLinked p).Called q none none := by
  have silenced := Heeds.portSilenced laws p q none none called
  have breakin : (s.portDisarmed p).breakin q = (s.portSilenced p).breakin q :=
    (State.breakin_modBreakin ..).trans (if_neg other)
  have disarmed : (s.portDisarmed p).Called q none none :=
    Heeds.still (s := (s.portSilenced p).modBreakin p (fun b => { b with enable := false, pending := none }))
      (t := s.portDisarmed p) rfl rfl rfl ⟨rfl, rfl, rfl⟩ q none none (silenced.modBreakin_other other _)
  unfold State.portLinked
  split
  · exact disarmed
  · refine disarmed.rerouting ⟨rfl⟩ (fun a active => ?_) p
    rw [breakin] at active
    exact (Lawful.portSilenced laws p).laws.grasps q a active

/-- Raising p's link leaves the handoffs of another port. -/
theorem handling_portLinked (other : p ≠ q) : (s.portLinked p).handling q = s.handling q := by
  refine (portLinked_recordsOnly.handling q).trans ?_
  have breakin : (s.portDisarmed p).breakin q = s.breakin q := by
    rw [portDisarmed_frame]
    exact (get_vmod ..).trans (if_neg other)
  change (s.portDisarmed p).handling q = s.handling q
  rw [State.handling, breakin]
  rfl

/-- Raising p's link leaves p's messages in hand. -/
theorem held_portLinked (laws : s.StoreLaws) {h : Handle} (member : h ∈ s.handoffsOf p)
    (record : (s.portLinked p).record h.slot = some m) : m.custody.holder.isSome = true := by
  obtain ⟨v, was, holder⟩ := ((laws.handoffsAgree.slots_handoffsOf p).2 h.slot).mp (List.mem_map_of_mem member)
  rw [State.record_eq, portLinked_slot] at record
  obtain ⟨w, there, rfl⟩ := Option.map_eq_some_iff.mp record
  obtain rfl : v = w := Option.some.inj (was.symm.trans (record_of_portSilenced laws there))
  have held : v.custody.holder.isSome = true := by rw [holder]; rfl
  split
  · exact held
  · exact (Message.Akin.rerouted ..).holder held

/-- The watches of p end, and its notices go; another port's call stays in order. -/
theorem State.Called.unwatched (called : (s.portReturned p).Called q none none) (other : p ≠ q) :
    (s.portReset p).Called q none none := by
  have slot (k : SlotNo) : (s.portReset p).slot k = { (s.portReturned p).slot k with
      record := ((s.portReturned p).record k).map (fun m => { m with watchers := m.watchers.set p.val false p.isLt }) } :=
    get_vmap ..
  have handle (k : SlotNo) : (s.portReset p).handleOf k = (s.portReturned p).handleOf k := by
    rw [State.handleOf, slot]
    rfl
  have unwatched (k : SlotNo) (m : Message) (there : (s.portReturned p).record k = some m) :
      (s.portReset p).record k = some { m with watchers := m.watchers.set p.val false p.isLt } := by
    rw [State.record_eq, slot, there]
    rfl
  refine called.of_queued ⟨rfl, rfl, fun n member _ => ?_, fun _ => rfl⟩ (activeClass_congr rfl fun a _ => ?_)
    fun k m there queued _ => ⟨handle k, _, unwatched k m there, queued, rfl, Nat.le_refl _⟩
  · have queue : (s.portReset p).noticeQueue q = (s.portReturned p).noticeQueue q := (get_vmod ..).trans (if_neg other)
    exact queue ▸ member
  · rw [State.record_eq, slot, Option.map_map]
    rfl

/-- Another port's call stays in order through the reset of p. -/
theorem State.Called.portReset (called : s.Called q none none) (laws : s.StoreLaws) (other : p ≠ q) :
    (s.portReset p).Called q none none := by
  obtain ⟨nodup, named⟩ := laws.handoffsAgree.slots_handoffsOf p
  have returned : (s.portReturned p).Called q none none := by
    unfold State.portReturned
    rw [← settleFences_eq]
    refine Heeds.settleFences _ _ q none none (((called.portLinked laws other).modBreakin_other other _).handedBacks nodup
      (fun h member m record queued => ?_) (fun h member a active same => ?_) p)
    · have held := held_portLinked laws member record
      rw [queued] at held
      cases held
    · rw [State.breakin_modBreakin, if_neg other, active_of_handling (handling_portLinked other)] at active
      obtain ⟨m, record, holder⟩ := (named h.slot).mp (List.mem_map_of_mem member)
      obtain ⟨v, d, mark, -, there, -, handed⟩ := laws.handed_of_active active
      rw [same, record, Option.some.injEq] at there
      rw [there, handed] at holder
      exact other (Option.some.inj holder).symm
  exact returned.unwatched other

theorem State.InCall.portReset (inCall : s.InCall) (laws : s.StoreLaws) (p : Port) : (s.portReset p).InCall := by
  intro q
  by_cases same : p = q
  · subst same
    exact .of_cleared ((portReset_breakin p).1 rfl) ((get_vmod ..).trans (if_pos rfl))
  · exact (inCall q).portReset laws same

/-- After a warm reset no port is called (R141). -/
theorem inCall_warmReset (straps : Straps) : (warmReset straps s).InCall := by
  intro q
  rw [warmReset_eq]
  refine .of_cleared ?_ ?_
  · simp [State.breakin, Vector.get_eq_getElem, BreakIn.cleared]
  · simp [State.noticeQueue, Vector.get_eq_getElem, NoticeQueue.empty]

end

end Sys2Proof.Machine
end

section
/-! Every command keeps every port's call in order, and with it the laws of the Break-in Unit (R123, R126, R164). -/

namespace Sys2Proof.Machine

section
variable {s t u : State} {k : SlotNo} {m n : Message} {p q : Port}

/-! ### The ticks (R47, R114, R116) -/

theorem Heeds.timeOutEntry (laws : s.StoreLaws) (p : Port) : Heeds s (timeOutEntry s p) := by
  unfold Machine.timeOutEntry
  split
  · exact .refl s
  · next o entry =>
    split
    · obtain ⟨handle, fills⟩ := laws.fills.named p o entry
      obtain ⟨m, filling⟩ := State.fillsAt_eq_some_iff.mp fills
      exact (Heeds.cancel laws filling).trans (Aside.post ..).heeds
    · exact .refl s

theorem State.InCall.foldl {α : Type} {f : State → α → State} (lawful : ∀ t x, t.StoreLaws → Lawful t (f t x))
    (each : ∀ t x, t.StoreLaws → t.InCall → (f t x).InCall) (xs : List α) (inCall : s.InCall) (laws : s.StoreLaws) :
    (xs.foldl f s).InCall := by
  induction xs generalizing s with
  | nil => exact inCall
  | cons x xs ih => exact ih (each s x laws inCall) (lawful s x laws).laws

theorem State.InCall.takeEntryTick (inCall : s.InCall) (laws : s.StoreLaws) : (takeEntryTick s).InCall := by
  unfold Machine.takeEntryTick
  split
  · exact .foldl (fun t q sound => .timeOutEntry sound q) (fun t q sound called => called.heeds (.timeOutEntry sound q)) allPorts
      (inCall.heeds (.still rfl rfl rfl ⟨rfl, rfl, rfl⟩)) (laws.of_ledger rfl)
  · exact inCall

theorem State.InCall.takeLeaseTick (inCall : s.InCall) (laws : s.StoreLaws) (slots : List SlotNo) :
    (takeLeaseTick slots s).InCall := by
  unfold Machine.takeLeaseTick
  split
  · exact .foldl (fun t k sound => .lapseIfDue sound k) (fun t k sound called => called.heeds (.lapseIfDue sound k)) slots
      (inCall.heeds (.still rfl rfl rfl ⟨rfl, rfl, rfl⟩)) (laws.of_ledger rfl)
  · exact inCall

theorem State.InCall.takeDeadlineTick (inCall : s.InCall) (laws : s.StoreLaws) (leases : List SlotNo) :
    (takeDeadlineTick leases s).InCall := by
  have leased := inCall.takeLeaseTick laws leases
  have sound := (Lawful.takeLeaseTick laws leases).laws
  unfold Machine.takeDeadlineTick
  dsimp only
  split
  · exact .foldl (fun t k sound => .expireIfDue sound k) (fun t k sound called => called.expireIfDue sound k) allSlots
      (leased.heeds (.still rfl rfl rfl ⟨rfl, rfl, rfl⟩)) (sound.of_ledger rfl)
  · exact leased

theorem State.InCall.takeTicksAt (inCall : s.InCall) (laws : s.StoreLaws) (leases : List SlotNo) :
    (takeTicksAt leases s).InCall :=
  (inCall.takeEntryTick laws).takeDeadlineTick (Lawful.takeEntryTick laws).laws leases

theorem State.InCall.ticksBefore (inCall : s.InCall) (laws : s.StoreLaws) (c : Instr) : (ticksBefore c s).InCall := by
  unfold Machine.ticksBefore
  split
  · next p h token =>
    obtain e | ⟨k, -, -, e⟩ := ticksBeforeBreakin_cases p (nextBreakin p h token) s
    · rw [e]
      exact inCall.takeTicksAt laws allSlots
    · rw [e]
      exact inCall.takeTicksAt laws _
  · exact inCall.takeTicksAt laws allSlots

/-! ### The requests -/

/-- What a block does keeps every port's call in order. -/
theorem BlockEffect.inCall {c : Instr} (effect : BlockEffect s c t) (laws : s.StoreLaws) (inCall : s.InCall) : t.InCall := by
  cases effect with
  | refresh p k => exact inCall.heeds (.refreshEntry p k s)
  | enterBegin p f hd k closed fields allowed empty =>
    have gone : (makeRoom s).record k = none := by simpa using List.find?_some empty
    exact (inCall.heeds (.makeRoom laws)).heeds (.openEntry (Lawful.makeRoom laws).laws gone hd)
  | append p k m chars short filling allowed => exact inCall.heeds (.append laws filling chars)
  | duplicate p k j m filling held => exact inCall.heeds (.duplicate laws filling held)
  | accept p k m filling free => exact inCall.heeds (.accepted laws filling)
  | cancel p k m filling => exact inCall.heeds (.cancel laws filling)
  | purge k m record retained =>
    refine inCall.heeds (.reclaim laws fun v there => ?_)
    obtain rfl : m = v := Option.some.inj (record.symm.trans there)
    exact retained
  | reroute p s₁ update =>
    rw [routingEffects_eq update.only]
    exact inCall.rerouting laws update.only p
  | fence p marks => exact inCall.heeds (.still rfl rfl rfl ⟨rfl, rfl, rfl⟩)
  | configure f => exact inCall.heeds (.still rfl rfl rfl ⟨rfl, rfl, rfl⟩)
  | list q es => exact inCall.heeds (.still rfl rfl rfl ⟨rfl, rfl, rfl⟩)
  | next p e es idle stack ranked =>
    have flagged := inCall.heeds (.setStickyFlags p (e :: es) s)
    exact flagged.handOut (laws.aside (.setStickyFlags p (e :: es) s)) (queueOf_of_ranked ranked) idle
  | extend p k m d mark record handed deadline => exact inCall.heeds (.extend record handed deadline)
  | dispose p k m d mark record handed r => exact inCall.heeds (.reported laws record handed r)
  | enable p on => exact inCall.switchEnable p on
  | suspend p h named token m e es pending active record ranked =>
    have flagged := inCall.heeds (.setStickyFlags p (e :: es) s)
    exact flagged.suspendAndHandOut (laws.aside (.setStickyFlags p (e :: es) s)) record active
      (State.slot_mem_of_ranked (ranked ▸ List.mem_cons_self))
  | pop p r rest idle stack revoked => exact (inCall.popRecord idle r).heeds (.breakInCheck p _)
  | resume p r rest idle stack standing => exact inCall.resume laws idle stack standing
  | hold p k m record queued => exact inCall.holdMessage laws record queued p
  | release p k m r record held => exact inCall.heeds (.releaseMessage laws record held p)
  | void p k m record traffic => exact inCall.voidMessage laws record traffic p
  | amend k f m record traffic free => exact inCall.amendMessage laws f record traffic free
  | note k m chars record traffic room segment => exact inCall.heeds (.note laws record traffic chars)
  | watch p on k m record entered => exact inCall.heeds (.watch record p on)
  | fetch p =>
    refine inCall.heeds (.of_slots rfl rfl ⟨rfl, rfl, rfl⟩ fun q n member _ => ?_)
    have queue : (s.modNoticeQueue p NoticeQueue.fetched).noticeQueue q = if p = q then _ else s.noticeQueue q := get_vmod ..
    rw [queue] at member
    split at member
    · exact List.mem_of_mem_drop member
    · exact member

/-! ### Every command (R182 to R188) -/

theorem State.InCall.eventEffect (inCall : s.InCall) (laws : s.StoreLaws) {c : Instr}
    (notCold : ∀ straps lines, c ≠ .coldReset straps lines) : (eventEffect c s).InCall := by
  have ticked := inCall.takeTicksAt laws allSlots
  have sound := (Lawful.takeTicksAt laws allSlots).laws
  cases c with
  | coldReset straps lines => exact absurd rfl (notCold straps lines)
  | selectFall p =>
    change (beginExchange p s).InCall
    unfold beginExchange
    split
    · exact inCall.heeds (.still rfl rfl rfl ⟨rfl, rfl, rfl⟩)
    · exact inCall
  | exchange p bytes extraBits =>
    change (endExchange p bytes s).InCall
    unfold endExchange
    split
    · exact inCall
    · exact inCall.heeds (.still rfl rfl rfl ⟨rfl, rfl, rfl⟩)
  | tick =>
    change (tickOnce s).InCall
    unfold tickOnce
    split
    · exact ticked.heeds (.still rfl rfl rfl ⟨rfl, rfl, rfl⟩)
    · exact inCall
  | entryIdleTimeout => exact inCall.takeEntryTick laws
  | leaseExpiry => exact inCall.takeLeaseTick laws allSlots
  | deliveryDeadlineExpiry => exact inCall.takeDeadlineTick laws allSlots
  | portReset p =>
    change (assertPortReset p s).InCall
    unfold assertPortReset
    rw [resetPort_eq]
    split
    · exact inCall
    · exact ticked.portReset sound p
  | warmReset straps =>
    change (assertDeviceReset straps s).InCall
    unfold assertDeviceReset
    split
    · exact inCall
    · exact inCall_warmReset straps
  | supplyBelowWorkingLevel seen => cases seen <;> exact inCall.heeds (.still rfl rfl rfl ⟨rfl, rfl, rfl⟩)
  | _ => exact inCall.heeds (.still rfl rfl rfl ⟨rfl, rfl, rfl⟩)

theorem exec_inCall (laws : s.StoreLaws) {c : Instr} (notCold : ∀ straps lines, c ≠ .coldReset straps lines)
    (next : exec c s = .next t) (inCall : s.InCall) : t.InCall := by
  obtain still | ⟨p, rq, -, -, acted⟩ | ⟨-, event⟩ := exec_cases c s
  · rw [still, Host.Outcome.next.injEq] at next
    exact next ▸ inCall
  · rw [acted, Host.Outcome.next.injEq] at next
    subst next
    have before := inCall.ticksBefore laws c
    refine State.InCall.heeds (s := (blockAct c (ticksBefore c s)).2) ?_ (.still rfl rfl rfl ⟨rfl, rfl, rfl⟩)
    obtain same | ⟨-, effect⟩ := blockAct_outcome c (ticksBefore c s)
    · rw [same]
      exact before
    · exact effect.inCall (Lawful.ticksBefore laws c).laws before
  · rw [event, Host.Outcome.next.injEq] at next
    exact next ▸ inCall.eventEffect laws notCold

/-- The laws of the Break-in Unit are that every port's call is in order and that the stacks rise. -/
theorem State.breakInSound_iff (s : State) : s.breakInSound ↔ s.InCall ∧ s.stacksOrdered := by
  constructor
  · rintro ⟨pending, notices, order⟩
    refine ⟨fun p => ⟨fun h is _ => ?_, fun n member kind => ?_⟩, order⟩
    · obtain ⟨enable, current, queue, higher⟩ := pending p h is
      refine ⟨enable, current, queue, ?_⟩
      split at higher
      · next m c record active => exact ⟨m, c, record, active, by simpa using higher⟩
      · cases higher
    · obtain ⟨some, named⟩ := notices p n member kind
      exact ⟨some, .inl named⟩
  · rintro ⟨inCall, order⟩
    refine ⟨fun p h is => ?_, fun p n member kind => ?_, order⟩
    · obtain ⟨enable, current, queue, m, c, record, active, higher⟩ := (inCall p).pending h is nofun
      refine ⟨enable, current, queue, ?_⟩
      rw [record, active]
      simpa using higher
    · obtain ⟨some, named | stray⟩ := (inCall p).notices n member kind
      · exact ⟨some, named⟩
      · rw [stray] at some
        cases some

/-- Settles O59: each command's effect keeps every port's call in order, and the stacks rise with the laws of the store. -/
theorem everyStepKeepsBreakInSound : Obligations.EveryStepKeepsBreakInSound := by
  intro s t sound breakIn next
  refine sound_law_of_step (law := State.breakInSound) (fun u cs before => ?_) (fun _ _ => (lawful_cold ..).breakIn)
    (fun c u v laws notCold next before => ?_) ((State.storeSound_iff s).mp sound) breakIn next
  · obtain ⟨inCall, order⟩ := (State.breakInSound_iff u).mp before
    exact (State.breakInSound_iff _).mpr ⟨inCall.heeds (.still rfl rfl rfl ⟨rfl, rfl, rfl⟩), order⟩
  · obtain ⟨inCall, order⟩ := (State.breakInSound_iff u).mp before
    exact (State.breakInSound_iff v).mpr ⟨exec_inCall laws notCold next inCall, (exec_lawful laws notCold next).order order⟩

end

end Sys2Proof.Machine
end
